-- ==== Sys2Proof/Word.lean ====
section
/-!
DEFINITION. The word types of the SH9512 model: bytes, the 32-bit object word (R407), the 80-bit accumulator (R38),
and the sparse map that holds every numbered collection of the machine.
-/

namespace Sys2Proof

/-- One byte. -/
abbrev Byte := BitVec 8
/-- A 16-bit field. -/
abbrev Half := BitVec 16
/-- The word in which every object value travels (R407), and one lane word of data memory (R38). -/
abbrev Word := BitVec 32
/-- A 64-bit pair of lane words. -/
abbrev Dword := BitVec 64
/-- An accumulator of one lane, Q18.62 (R38). -/
abbrev Acc := BitVec 80
/-- A schedule word of program memory (R38). -/
abbrev PmWord := BitVec 128

/-- A sparse map from numbers to values in ONE canonical form: keys strictly rising, and no entry equal to what an
unlisted key reads as. -/
abbrev SMap (α : Type) := List (Nat × α)

end Sys2Proof
end

