-- ==== Sys2Proof/Syntax.lean ====
section
/-!
DEFINITION. The commands of the SH9512 with their operands: what arrives at a port, a pin or a queue, and the steps of
the block's own engines. Operands are bounded by their types where the spec bounds them by a field's width.
-/

namespace Sys2Proof

/-- The rate domains (R256). -/
inductive Dom where
  | a
  | b
  | c
  deriving DecidableEq, Repr

/-- Who performs a plain object access: the session (0 internal), the port class PC0–PC6 and the mode (R2, R411). -/
structure Access where
  session : Fin 64
  pc : Fin 7
  expert : Bool
  deriving DecidableEq, Repr

/-- Where an FCP frame came from: the port class, the source address and UDP port it carries on PC4 and PC5, and the
host channel on PC1 (R411, R414). -/
structure Source where
  pc : Fin 7
  port : Nat
  ip : Word
  udp : Nat
  deriving DecidableEq, Repr

/-- The header of an FCP command frame (R418) together with its source. `cqHead` and `evqAck` are present while
CQ_VALID and EVQ_VALID are 1. -/
structure Hdr where
  src : Source
  session : Byte
  tag : Byte
  cqHead : Option Byte
  evqAck : Option Half
  deriving DecidableEq, Repr

/-- One entry of WRITE_STAGE (R425). -/
structure StageEntry where
  oid : Nat
  value : Word
  ramp : Half
  deriving DecidableEq, Repr

/-- A predicate selector with its sense bit (R91). -/
structure Pred where
  sel : Fin 8
  sense : Bool
  deriving DecidableEq, Repr

/-- The place of a slot operation: the tile, the ecyc elapsed since the tile's previous operation (0 for a slot of the
same word) and the slot's predicate. -/
structure Slot where
  tile : Fin 36
  adv : Nat
  pred : Pred
  deriving DecidableEq, Repr

/-- What the check bits of a DM read report: the lanes corrected and the lanes uncorrectable, with the lane words as the array
gives them in the latter (R60). -/
structure Ecc where
  ce : Byte
  ue : Byte
  raw : List Word
  deriving DecidableEq, Repr

/-- A PM word whose check bits report an error each time it issues in the grain that begins (R60). -/
structure PmError where
  tile : Fin 36
  addr : BitVec 13
  ue : Bool
  deriving DecidableEq, Repr

/-- A DM word that the exchange read with an error (R60). -/
structure DmError where
  tile : Fin 36
  addr : BitVec 14
  lane : Fin 8
  ue : Bool
  deriving DecidableEq, Repr

/-- A ring read of the delay engine that met an error (R231): the owner, the position in the grain, whether it read the tap
that a crossfade leaves, whether the error was uncorrectable. -/
structure LineError where
  owner : Nat
  pos : Nat
  old : Bool
  ue : Bool
  deriving DecidableEq, Repr

/-- What a bridge group's tracker reports with a domain A sample (R264, R265): the group, the tracked ratio (far rate over
domain A rate, Q4.28), the phase sample, the phase error in 2^−32 of a sample of the lower rate. -/
structure TrackReport where
  group : Nat
  ratio : Word
  phase : Word
  err : Int
  deriving DecidableEq, Repr

/-- What a scrub of a parameter store entry finds (R194). -/
inductive PsError where
  | clean
  | single
  | oneLive
  | bothLive
  | stage
  deriving DecidableEq, Repr

/-- What the loader met while it wrote a work: nothing, an image word at a DMEM address that failed twice, or a
checkpoint word of a PERSIST region (R231). -/
inductive LoadErr where
  | ok
  | image (addr : Nat)
  | ckpt (addr : Nat) (region : Nat)
  deriving DecidableEq, Repr

/-- FS and RXD of a port at one edge of BCLK (R290). -/
structure TdmEdge where
  fs : Bool
  rxd : Bool
  deriving DecidableEq, Repr
/-- A period of BCLK: its rising and its falling edge. -/
structure TdmPeriod where
  rise : TdmEdge
  fall : TdmEdge
  deriving DecidableEq, Repr

/-- A frame that a port receives (R290–R293, R300): its BCLK periods from position 0, up to the next frame's position 0 if
that has come (`ended`); the deviation of its period from nominal in 0.001 ppm, the phase of its FS in 1/1,024 sample. -/
structure TdmFrame where
  ended : Bool
  periods : List TdmPeriod
  dev : Int
  phase : Int
  deriving DecidableEq, Repr

/-- The kinds of PTP message (R351). -/
inductive PtpKind where
  | sync
  | followUp
  | delayReq
  | delayResp
  | pdelayReq
  | pdelayResp
  | pdelayFollowUp
  | announce
  | other
  deriving DecidableEq, Repr

/-- A PTP message: its kind, domainNumber, the clockIdentity of its source, sequenceId, twoStepFlag, correctionField and
carried timestamp in 2^−16 ns, and what an Announce carries. -/
structure PtpMsg where
  kind : PtpKind
  domain : Byte
  src : Dword
  seq : Half
  twoStep : Bool
  corr : Int
  ts : Int
  quality : Word
  utc : Half
  prio : Half
  deriving DecidableEq, Repr

/-- A media packet (R384–R388): AES67 or AAF, its destination address, what it is matched by (IPv4 address or stream_id),
UDP port, source address, payload type, channel count, sample format (0 16-bit, 1 24-bit, 2 32-bit, 3 float), the rate of
its nsr code in Hz, sequence number, timestamp, RTP header extension (profile and data), SSRC, VLAN tag, DSCP and payload. -/
structure MediaPkt where
  aaf : Bool
  dmac : BitVec 48
  dest : Dword
  port : Half
  srcIp : Word
  ptype : Byte
  chans : Nat
  fmt : Nat
  rate : Nat
  seq : Half
  ts : Word
  ext : Option (Half × List Byte)
  ssrc : Word
  vlan : Half
  dscp : Byte
  payload : List Byte
  deriving DecidableEq, Repr

/-- One burst that a master requests of the bus matrix (R467, R468, R470): the master M0–M9, the address (a BAR0 offset for
M2 while `bar`), the bytes of a beat, the number of beats, the wrap length (0 incrementing), the data of a write, the
transfers of a locked sequence that remain with this one (0 unlocked), the HCLK cycles it has waited, whether the target
meets an uncorrectable ECC error. -/
structure BusReq where
  master : Fin 10
  addr : Nat
  bar : Bool
  write : Bool
  beat : Nat
  beats : Nat
  wrap : Nat
  data : List Byte
  lock : Nat
  waited : Nat
  ecc : Bool
  deriving DecidableEq, Repr

/-- A decision that the active unit places on a sample boundary (R486): a port enters, a receive stream takes a position,
chains reset by the masks of modulator clock groups and analysis chains. -/
inductive Place where
  | port (p : Fin 24)
  | stream (n : Fin 128) (pos : Nat)
  | reset (modMask : Nat) (acMask : Nat)
  deriving DecidableEq, Repr

/-- A MIRROR record (R493). A LATCH record carries the committing session beside the items of R493, for its SCOPE. -/
inductive MirrorRec where
  | stage (session : Fin 64) (entries : List StageEntry)
  | write (oid : Nat) (v : Word) (at' : Word)
  | latch (instar : Word) (lb : Word) (m : Word) (mode : Nat) (all : Bool) (ramp : Option Nat) (session : Fin 64)
  | abort
  | withdraw (session : Option (Fin 64))
  | block (oid : Nat) (words : List Word)
  | publish (session : Fin 64) (kind : Fin 4) (index : BitVec 13)
  | revert (kind : Fin 4) (index : BitVec 13)
  | place (p : Place) (gn : Word) (pos : Nat)
  | image (partial' : Bool) (b0 : Word)
  deriving DecidableEq, Repr

/-- What a HELLO carries (R478); `from'` is the peer's L3 address, `l0` and `l1` those of its media lanes. -/
structure HelloMsg where
  from' : BitVec 48
  id : Byte
  fw : Word
  state : Nat
  claim : BitVec 24
  epoch : Byte
  l0 : BitVec 48
  l1 : BitVec 48
  digest : Word
  deriving DecidableEq, Repr

/-- What a BEACON carries (R479). -/
structure BeaconMsg where
  gn : Word
  pos : Nat
  flags : Byte
  claim : BitVec 24
  rank : Byte
  instar : Word
  sig : Word
  digest : Word
  phases : List Word
  deriving DecidableEq, Repr

/-- One PS record of a copy (R490). -/
structure PsRecord where
  oid : Nat
  start : Word
  target : Word
  mb : Word
  n : Nat
  inst : Word
  stage : Option (Word × Fin 64 × Nat)
  deriving DecidableEq, Repr

/-- The data of a COPY frame (R490): a part of an image, the engine's state, PS records, words of bulk sets with the length
of a FIR set, the checkpoint of a tile. -/
inductive CopyData where
  | image (pending : Bool) (offset : Nat) (bytes : List Byte)
  | engine (instar : Word) (gn : Word) (epoch : Byte) (partial' : Bool) (commits : List (Word × Nat × Nat × Word))
      (detectors : List (Nat × Nat)) (rings : List (Nat × Nat))
  | ps (recs : List PsRecord)
  | bulk (set : Nat) (len : Nat) (oid : Nat) (words : List Word)
  | persist (tile : Fin 36) (addr : Nat) (words : List Word)
  deriving DecidableEq, Repr

/-- A command of the block: one constructor for each row of the table of steps. -/
inductive Instr where
  /-- GRAIN_BOUNDARY (R133). -/
  | grainBoundary (pm : List PmError) (ex : List DmError) (dl : List LineError) (reports : List (Nat × Nat × Nat))
  /-- SAMPLE_BOUNDARY (R295). -/
  | sampleBoundary (dom : Dom) (clk : List Nat) (bits : List (Nat × List (Bool × Bool))) (reports : List TrackReport)
  /-- MAC (R92). -/
  | mac (at' : Slot) (a : Fin 4) (x : Fin 32) (y : Fin 32) (fx : Fin 4) (fy : Fin 4)
  /-- MSU (R92). -/
  | msu (at' : Slot) (a : Fin 4) (x : Fin 32) (y : Fin 32) (fx : Fin 4) (fy : Fin 4)
  /-- MPY (R92). -/
  | mpy (at' : Slot) (a : Fin 4) (x : Fin 32) (y : Fin 32) (fx : Fin 4) (fy : Fin 4)
  /-- ACCLD (R92). -/
  | accld (at' : Slot) (a : Fin 4) (x : Fin 32) (fx : Fin 4)
  /-- ACCCLR (R92). -/
  | accclr (at' : Slot) (a : Fin 4)
  /-- ACCSHF (R93). -/
  | accshf (at' : Slot) (a : Fin 4) (k : BitVec 6)
  /-- ACCADD (R93). -/
  | accadd (at' : Slot) (a : Fin 4) (j : Fin 4)
  /-- ST (R47). -/
  | st (at' : Slot) (d : Fin 32) (a : Fin 4) (f : Fin 4) (rm : Fin 4) (tag : Bool)
  /-- RST (R50). -/
  | rst (at' : Slot) (d : Fin 32) (a : Fin 4) (f : Fin 4) (rm : Fin 4) (tag : Bool)
  /-- MOV (R96). -/
  | mov (at' : Slot) (d : Fin 32) (a : Fin 32)
  /-- ADD (R96). -/
  | add (at' : Slot) (d : Fin 32) (a : Fin 32) (b : Fin 32)
  /-- SUB (R96). -/
  | sub (at' : Slot) (d : Fin 32) (a : Fin 32) (b : Fin 32)
  /-- ADDS (R96). -/
  | adds (at' : Slot) (d : Fin 32) (a : Fin 32) (b : Fin 32)
  /-- SUBS (R96). -/
  | subs (at' : Slot) (d : Fin 32) (a : Fin 32) (b : Fin 32)
  /-- NEGS (R96). -/
  | negs (at' : Slot) (d : Fin 32) (a : Fin 32)
  /-- ABSS (R96). -/
  | abss (at' : Slot) (d : Fin 32) (a : Fin 32)
  /-- MIN (R96). -/
  | min (at' : Slot) (d : Fin 32) (a : Fin 32) (b : Fin 32)
  /-- MAX (R96). -/
  | max (at' : Slot) (d : Fin 32) (a : Fin 32) (b : Fin 32)
  /-- AND (R96). -/
  | and (at' : Slot) (d : Fin 32) (a : Fin 32) (b : Fin 32)
  /-- OR (R96). -/
  | or (at' : Slot) (d : Fin 32) (a : Fin 32) (b : Fin 32)
  /-- XOR (R96). -/
  | xor (at' : Slot) (d : Fin 32) (a : Fin 32) (b : Fin 32)
  /-- NOT (R96). -/
  | not (at' : Slot) (d : Fin 32) (a : Fin 32)
  /-- LDIL (R97). -/
  | ldil (at' : Slot) (d : Fin 32) (imm : BitVec 16)
  /-- LDIH (R97). -/
  | ldih (at' : Slot) (d : Fin 32) (imm : BitVec 16)
  /-- SHL (R96). -/
  | shl (at' : Slot) (d : Fin 32) (a : Fin 32) (n : Fin 32)
  /-- SHLS (R96). -/
  | shls (at' : Slot) (d : Fin 32) (a : Fin 32) (n : Fin 32)
  /-- SHR (R96). -/
  | shr (at' : Slot) (d : Fin 32) (a : Fin 32) (n : Fin 32)
  /-- ASR (R96). -/
  | asr (at' : Slot) (d : Fin 32) (a : Fin 32) (n : Fin 32)
  /-- ASRN (R96). -/
  | asrn (at' : Slot) (d : Fin 32) (a : Fin 32) (n : Fin 32)
  /-- LSC (R53). -/
  | lsc (at' : Slot) (d : Fin 32) (a : Fin 32)
  /-- BEXPRD (R67). -/
  | bexprd (at' : Slot) (d : Fin 32)
  /-- ASHV (R98). -/
  | ashv (at' : Slot) (d : Fin 32) (a : Fin 32) (b : Fin 32)
  /-- SHLV (R98). -/
  | shlv (at' : Slot) (d : Fin 32) (a : Fin 32) (b : Fin 32)
  /-- SHLSV (R98). -/
  | shlsv (at' : Slot) (d : Fin 32) (a : Fin 32) (b : Fin 32)
  /-- SHRV (R98). -/
  | shrv (at' : Slot) (d : Fin 32) (a : Fin 32) (b : Fin 32)
  /-- ASRV (R98). -/
  | asrv (at' : Slot) (d : Fin 32) (a : Fin 32) (b : Fin 32)
  /-- ASRNV (R98). -/
  | asrnv (at' : Slot) (d : Fin 32) (a : Fin 32) (b : Fin 32)
  /-- CMP (R99). -/
  | cmp (at' : Slot) (c : Fin 8) (a : Fin 32) (b : Fin 32) (kt : Fin 8)
  /-- CSEL (R54). -/
  | csel (at' : Slot) (c : Fin 8) (d : Fin 32) (a : Fin 32) (b : Fin 32) (kt : Fin 8)
  /-- KAND (R96). -/
  | kand (at' : Slot) (ka : Fin 8) (kb : Fin 8) (kt : Fin 8)
  /-- KOR (R96). -/
  | kor (at' : Slot) (ka : Fin 8) (kb : Fin 8) (kt : Fin 8)
  /-- KXOR (R96). -/
  | kxor (at' : Slot) (ka : Fin 8) (kb : Fin 8) (kt : Fin 8)
  /-- KNOT (R96). -/
  | knot (at' : Slot) (ka : Fin 8) (kt : Fin 8)
  /-- KSET (R96). -/
  | kset (at' : Slot) (v : Bool) (kt : Fin 8)
  /-- KBIT (R96). -/
  | kbit (at' : Slot) (a : Fin 32) (n : Fin 32) (kt : Fin 8)
  /-- RD (R102). -/
  | rd (at' : Slot) (mem1 : Bool) (set : Fin 16) (d : Fin 32) (ecc : Ecc)
  /-- RDB (R102). -/
  | rdb (at' : Slot) (lane : Fin 8) (set : Fin 16) (d : Fin 32) (ecc : Ecc)
  /-- WR (R102). -/
  | wr (at' : Slot) (set : Fin 16) (d : Fin 32)
  /-- WRT (R102). -/
  | wrt (at' : Slot) (set : Fin 16) (d : Fin 32)
  /-- AGU_PLUS_STEP (R103). -/
  | aguPlusStep (at' : Slot) (unit : Fin 4) (set : Fin 16)
  /-- AGU_MINUS_STEP (R103). -/
  | aguMinusStep (at' : Slot) (unit : Fin 4) (set : Fin 16)
  /-- AGU_IMMEDIATE (R103). -/
  | aguImmediate (at' : Slot) (unit : Fin 4) (set : Fin 16) (imm : BitVec 4)
  /-- TXB_SEND (R104). -/
  | txbSend (at' : Slot) (ch : Fin 2) (d : Fin 32)
  /-- TXB_RECEIVE (R71). -/
  | txbReceive (at' : Slot) (ch : Fin 2) (d : Fin 32) (perr : Byte)
  /-- LOOP (R105). -/
  | loop (at' : Slot) (level : Fin 4) (count : BitVec 16) (last : BitVec 13)
  /-- CHECKPOINT_CYCLE (R136). -/
  | checkpointCycle (tile : Fin 36) (adv : Nat)
  /-- T3_WINDOW_SERVICE (R59). -/
  | t3WindowService (tile : Fin 36) (adv : Nat)
  /-- AS_GEOM_WRITE (R81). -/
  | asGeomWrite (acc : Access) (tile : Fin 36) (set : Fin 16) (v : Word)
  /-- AS_STEPMOD_WRITE (R81). -/
  | asStepmodWrite (acc : Access) (tile : Fin 36) (set : Fin 16) (v : Word)
  /-- IMG_WR_OFFSET_WRITE (R112). -/
  | imgWrOffsetWrite (acc : Access) (v : Word)
  /-- IMG_WR_DATA_WRITE (R112). -/
  | imgWrDataWrite (acc : Access) (v : Word)
  /-- VERIFY (R111). -/
  | verify (acc : Access)
  /-- IMG_VERIFY_DONE (R130). -/
  | imgVerifyDone (unread : Bool)
  /-- ACTIVATE (R137). -/
  | activate (acc : Access) (partial' : Bool) (atTime : Bool)
  /-- DISCARD (R111). -/
  | discard (acc : Access)
  /-- LOAD_NOR (R111). -/
  | loadNor (acc : Access) (slot : Bool)
  /-- STORE_NOR (R149). -/
  | storeNor (acc : Access) (slot : Bool) (boot : Bool)
  /-- CANCEL (R111). -/
  | cancel (acc : Access)
  /-- IMG_ACTIVATION_BEGIN (R138). -/
  | imgActivationBegin
  /-- IMG_TILES_STOP (R138). -/
  | imgTilesStop
  /-- IMG_LOAD_DONE (R138). -/
  | imgLoadDone (ue : Option Nat)
  /-- IMG_TILES_START (R138). -/
  | imgTilesStart
  /-- IMG_AUTO_ACTIVATE (R132). -/
  | imgAutoActivate
  /-- SPARE_LOAD_DONE (R144). -/
  | spareLoadDone (tile : Fin 36) (err : LoadErr)
  /-- SPARE_START (R144). -/
  | spareStart (tile : Fin 36)
  /-- TILE_RELOAD_DONE (R526). -/
  | tileReloadDone (tile : Fin 36) (err : LoadErr)
  /-- TILE_RESTART (R526). -/
  | tileRestart (tile : Fin 36)
  /-- DOM_RATE_A_WRITE (R27). -/
  | domRateAWrite (acc : Access) (v : Word)
  /-- ENGINE_STOP (R27). -/
  | engineStop
  /-- ENGINE_RESTART (R27). -/
  | engineRestart
  /-- DOM_RATE_BC_WRITE (R256). -/
  | domRateBcWrite (acc : Access) (c : Bool) (v : Word)
  /-- DOMAIN_ASSIGN_WRITE (R257). -/
  | domainAssignWrite (acc : Access) (kind : Fin 3) (n : Fin 128) (v : Word)
  /-- PATCH_XF_END (R177). -/
  | patchXfEnd (sink : Nat)
  /-- PATCH_DEFERRED_START (R178). -/
  | patchDeferredStart (sink : Nat)
  /-- PATCH_STATUS_WRITE (R176). -/
  | patchStatusWrite (acc : Access) (sink : Nat) (v : Word)
  /-- SIL_HOLD_EXPIRE (R184). -/
  | silHoldExpire (tic : Fin 4096) (reports : List (Nat × Nat × Nat))
  /-- WRITE_STAGE (R197). -/
  | writeStage (h : Hdr) (flags : Byte) (expect : Word) (entries : List StageEntry)
  /-- COMMIT (R202). -/
  | commit (h : Hdr) (mode : Byte) (scope : Byte) (flags : Byte) (ramp : BitVec 16) (expect : Word)
  /-- MOULT_LATCH (R202). -/
  | moultLatch (late : List Nat)
  /-- FOLD_COMPLETE (R206). -/
  | foldComplete
  /-- MOULT_BOUNDARY (R202). -/
  | moultBoundary
  /-- MOULT_SETTLE (R202). -/
  | moultSettle
  /-- WITHDRAW (R225). -/
  | withdraw (acc : Access)
  /-- WITHDRAW_ALL (R225). -/
  | withdrawAll (acc : Access)
  /-- MOULT_CANCEL (R225). -/
  | moultCancel (acc : Access)
  /-- SCENE_GO_EDGE (R226). -/
  | sceneGoEdge (rising : Bool) (held : Nat)
  /-- PS_SCRUB (R194). -/
  | psScrub (oid : Nat) (err : PsError)
  /-- DMEM_SCRUB (R230). -/
  | dmemScrub (addr : Nat) (ue : Bool) (set : Nat)
  /-- SRAM_SCRUB (R528). -/
  | sramScrub (net : Bool) (ue : Bool) (lane : Fin 4) (tc : Fin 8) (idx : Nat)
  /-- DL_XF_END (R239). -/
  | dlXfEnd (owner : Nat)
  /-- PUBLISH (R242). -/
  | publish (h : Hdr) (kind : Fin 4) (index : BitVec 13)
  /-- PUBLISH_PREPARED (R242). -/
  | publishPrepared (kind : Fin 4) (index : BitVec 13)
  /-- REVERT (R242). -/
  | revert (acc : Access) (kind : Fin 4) (index : BitVec 13)
  /-- BULK_COPY_DONE (R242). -/
  | bulkCopyDone (kind : Fin 4) (index : BitVec 13)
  /-- FIR_SLICE_COMPLETE (R247). -/
  | firSliceComplete (out : Fin 128)
  /-- FIR_XF_END (R247). -/
  | firXfEnd (out : Fin 128)
  /-- BRG_GRP_CFG_WRITE (R268). -/
  | brgGrpCfgWrite (acc : Access) (g : Fin 16) (v : Word)
  /-- BRG_FAR_WRITE (R262). -/
  | brgFarWrite (acc : Access) (c : Fin 256) (v : Word)
  /-- BRG_LOCK (R264). -/
  | brgLock (g : Fin 16)
  /-- BRG_ACQ_TIMEOUT (R268). -/
  | brgAcqTimeout (g : Fin 16)
  /-- BRG_RATIO_OUT (R268). -/
  | brgRatioOut (g : Fin 16)
  /-- BRG_POSITION_SLIP (R268). -/
  | brgPositionSlip (g : Fin 16)
  /-- BRG_RECENTRED (R268). -/
  | brgRecentred (g : Fin 16)
  /-- MOD_CFG_WRITE (R284). -/
  | modCfgWrite (acc : Access) (n : Fin 64) (v : Word)
  /-- MODCLK_CFG_WRITE (R283). -/
  | modclkCfgWrite (acc : Access) (k : Fin 4) (v : Word)
  /-- AC_CFG_WRITE (R278). -/
  | acCfgWrite (acc : Access) (a : Fin 16) (v : Word)
  /-- DEC_SYNC_PIN (R275). -/
  | decSyncPin (rising : Bool) (held : Nat)
  /-- DEC_SYNC_CMD (R275). -/
  | decSyncCmd (acc : Access) (v : Word)
  /-- SYNC_RESET_APPLY (R275). -/
  | syncResetApply (dom : Dom)
  /-- MOD_REENTRY (R277). -/
  | modReentry (n : Fin 64)
  /-- METER_WINDOW_END (R279). -/
  | meterWindowEnd (k : Fin 4) (gr : List (Nat × Word))
  /-- PD5_READY (R281). -/
  | pd5Ready
  /-- START (R299). -/
  | start (acc : Access) (p : Fin 24)
  /-- STOP (R298). -/
  | stop (acc : Access) (p : Fin 24)
  /-- RESTART (R299). -/
  | restart (acc : Access) (p : Fin 24)
  /-- PORT_FRAME_WRITE (R311). -/
  | portFrameWrite (acc : Access) (p : Fin 24) (v : Word)
  /-- PORT_TX_SHARE_WRITE (R307). -/
  | portTxShareWrite (acc : Access) (p : Fin 24) (v : Word)
  /-- TDM_FRAME (R295). -/
  | tdmFrame (p : Fin 24) (f : TdmFrame)
  /-- PORT_LOCK (R299). -/
  | portLock (p : Fin 24)
  /-- PORT_CLOCK_LOSS (R300). -/
  | portClockLoss (p : Fin 24)
  /-- PORT_ZC_TIMEOUT (R297). -/
  | portZcTimeout (p : Fin 24)
  /-- PORT_SUBST_END (R301). -/
  | portSubstEnd (p : Fin 24)
  /-- ALIGN_GROUP_ENTER (R306). -/
  | alignGroupEnter (g : Fin 8)
  /-- SHARE_HANDOVER (R307). -/
  | shareHandover (p : Fin 24)
  /-- REF_CFG_WRITE (R322). -/
  | refCfgWrite (acc : Access) (r : Fin 8) (v : Word)
  /-- REF_LIMITS_WRITE (R321). -/
  | refLimitsWrite (acc : Access) (r : Fin 8) (v : Word)
  /-- REF_LOS (R316). -/
  | refLos (r : Fin 8)
  /-- REF_SIGNAL_PRESENT (R322). -/
  | refSignalPresent (r : Fin 8)
  /-- REF_MONITOR_UPDATE (R317). -/
  | refMonitorUpdate (r : Fin 8) (meas : Int)
  /-- REF_QUALIFY (R322). -/
  | refQualify (r : Fin 8)
  /-- ESMC_PDU (R320). -/
  | esmcPdu (lane : Fin 2) (ssm : BitVec 4) (enh : Option Byte)
  /-- SSM_TIMEOUT (R320). -/
  | ssmTimeout (lane : Fin 2)
  /-- REF_WTR_EXPIRE (R325). -/
  | refWtrExpire (d : Fin 3)
  /-- DPLL_MODE_WRITE (R326). -/
  | dpllModeWrite (acc : Access) (d : Fin 3) (v : Word)
  /-- DPLL_MANUAL_REF_WRITE (R326). -/
  | dpllManualRefWrite (acc : Access) (d : Fin 3) (v : Word)
  /-- DPLL_DCO_WRITE (R332). -/
  | dpllDcoWrite (acc : Access) (d : Fin 3) (v : Word)
  /-- DPLL_TRACK_BW_WRITE (R330). -/
  | dpllTrackBwWrite (acc : Access) (d : Fin 3) (v : Word)
  /-- DPLL_BUILDOUT_DONE (R331). -/
  | dpllBuildoutDone (d : Fin 3) (off : Int)
  /-- DPLL_STAGE_ADVANCE (R330). -/
  | dpllStageAdvance (d : Fin 3)
  /-- DPLL_ACQ_TIMEOUT (R328). -/
  | dpllAcqTimeout (d : Fin 3)
  /-- DPLL_LOCK_LOSS (R328). -/
  | dpllLockLoss (d : Fin 3)
  /-- DPLL_BUILDOUT_REMOVED (R331). -/
  | dpllBuildoutRemoved (d : Fin 3)
  /-- OG_PULL_DONE (R334). -/
  | ogPullDone (g : Fin 4)
  /-- OG_CFG_WRITE (R335). -/
  | ogCfgWrite (acc : Access) (g : Fin 4) (v : Word)
  /-- MCLK_CFG_WRITE (R335). -/
  | mclkCfgWrite (acc : Access) (k : Fin 8) (v : Word)
  /-- XO_LOST (R336). -/
  | xoLost
  /-- XO_RESTORED (R336). -/
  | xoRestored
  /-- TIME_CLOCK_TICK (R347). -/
  | timeClockTick
  /-- SET (R348). -/
  | set (acc : Access)
  /-- ADJUST (R348). -/
  | adjust (acc : Access)
  /-- SERVO_CFG_WRITE (R350). -/
  | servoCfgWrite (acc : Access) (v : Word)
  /-- SERVO_SAMPLE (R350). -/
  | servoSample
  /-- SERVO_SAMPLE_TIMEOUT (R350). -/
  | servoSampleTimeout
  /-- PTP_MESSAGE_RX (R351). -/
  | ptpMessageRx (lane : Fin 2) (m : PtpMsg) (ts : Int)
  /-- PTP_MESSAGE_TX (R351). -/
  | ptpMessageTx (lane : Fin 2) (kind : PtpKind) (seq : Half) (ts : Int)
  /-- ANNOUNCE_TIMEOUT (R350). -/
  | announceTimeout (ports : Byte)
  /-- PTP_PARENT_CHANGE (R350). -/
  | ptpParentChange (parent : Dword) (quality : Word) (utc : Half) (ports : Byte)
  /-- TA_CFG_WRITE (R356). -/
  | taCfgWrite (acc : Access) (e : Fin 128) (v : Word)
  /-- TIME_ACTION_FIRE (R357). -/
  | timeActionFire (e : Fin 128)
  /-- GPIO_PULSE_END (R357). -/
  | gpioPulseEnd (e : Fin 128)
  /-- CAP_CFG_WRITE (R368). -/
  | capCfgWrite (acc : Access) (c : Fin 16) (v : Word)
  /-- CAPTURE_EDGE (R362). -/
  | captureEdge (src : Fin 61) (rising : Bool) (ns : Fin 4)
  /-- LANE_CFG_WRITE (R371). -/
  | laneCfgWrite (acc : Access) (lane : Fin 4) (v : Word)
  /-- LANE_LINK_UP (R371). -/
  | laneLinkUp (lane : Fin 4)
  /-- LANE_LINK_DOWN (R371). -/
  | laneLinkDown (lane : Fin 4)
  /-- BRIDGE_MODE_WRITE (R372). -/
  | bridgeModeWrite (acc : Access) (v : Word)
  /-- FRAME_RECEIVE (R373). -/
  | frameReceive (lane : Fin 4) (fcs : Bool) (bytes : List Byte) (bufs : List (Nat × Nat)) (recent : Bool)
  /-- FRAME_TRANSMIT (R375). -/
  | frameTransmit (lane : Fin 4)
  /-- FDB_AGEING (R373). -/
  | fdbAgeing
  /-- CONFIG_CHANGE (R378). -/
  | configChange (acc : Access) (p : Fin 2)
  /-- GCL_CHANGE (R378). -/
  | gclChange (p : Fin 2)
  /-- GCL_ENTRY_ADVANCE (R377). -/
  | gclEntryAdvance (p : Fin 2)
  /-- PAUSE_RX (R381). -/
  | pauseRx (lane : Fin 4) (pfc : Bool) (enable : Byte) (times : List Half)
  /-- PAUSE_EXPIRE (R382). -/
  | pauseExpire (lane : Fin 4) (tc : Fin 8)
  /-- PAUSE_TX_SEND (R383). -/
  | pauseTxSend (lane : Fin 4) (tc : Fin 8)
  /-- NET_RX_CFG_WRITE (R385). -/
  | netRxCfgWrite (acc : Access) (n : Fin 128) (v : Word)
  /-- NET_TX_CFG_WRITE (R385). -/
  | netTxCfgWrite (acc : Access) (n : Fin 128) (v : Word)
  /-- MEDIA_TX_PACKET (R386). -/
  | mediaTxPacket (n : Fin 128)
  /-- MEDIA_RX_PACKET (R390). -/
  | mediaRxPacket (lane : Fin 4) (pkt : MediaPkt)
  /-- NET_RX_TIMEOUT (R391). -/
  | netRxTimeout (n : Fin 128)
  /-- OPEN_SESSION (R413). -/
  | openSession (h : Hdr) (mode : Byte) (credit : Byte) (timeout : BitVec 16) (req : Byte) (recent : Bool)
  /-- CLOSE_SESSION (R415). -/
  | closeSession (h : Hdr)
  /-- KEEPALIVE (R421). -/
  | keepalive (h : Hdr)
  /-- READ (R423). -/
  | read (h : Hdr) (view : Byte) (oids : List Nat)
  /-- WRITE (R424). -/
  | write (h : Hdr) (entries : List (Nat × Word))
  /-- REGISTER_WRITE (R10). -/
  | registerWrite (acc : Access) (oid : Nat) (v : Word)
  /-- READ_BLOCK (R427). -/
  | readBlock (h : Hdr) (oid : Nat) (count : BitVec 16) (view : Byte)
  /-- WRITE_BLOCK (R427). -/
  | writeBlock (h : Hdr) (oid : Nat) (words : List Word)
  /-- DESCRIBE (R428). -/
  | describe (h : Hdr) (oid : Nat) (index : BitVec 16)
  /-- SUBSCRIBE (R437). -/
  | subscribe (h : Hdr) (mask : Word) (op : Byte)
  /-- SYNC_SUMMARY (R440). -/
  | syncSummary (h : Hdr)
  /-- SUMMARY_CAPTURE (R440). -/
  | summaryCapture
  /-- FRAME_TX (R429). -/
  | frameTx (h : Hdr) (lane : Byte) (last : Bool) (offset : BitVec 16) (data : List Byte)
  /-- SESSION_TIMEOUT (R415). -/
  | sessionTimeout (session : Fin 64)
  /-- SESSION_CLOSE_COMPLETE (R416). -/
  | sessionCloseComplete (session : Fin 64)
  /-- EVENT_FRAME_SEND (R438). -/
  | eventFrameSend (session : Fin 64)
  /-- EVENT_RESEND (R438). -/
  | eventResend (session : Fin 64)
  /-- FCP_PC_ENABLE_WRITE (R411). -/
  | fcpPcEnableWrite (acc : Access) (v : Word)
  /-- MGMT_SATURATION_DETECT (R441). -/
  | mgmtSaturationDetect (wait : Word)
  /-- SQ_TAIL_WRITE (R453). -/
  | sqTailWrite (c : Fin 8) (v : Word) (recent : Bool)
  /-- CQ_DB_WRITE (R451). -/
  | cqDbWrite (c : Fin 8) (v : Word)
  /-- EVQ_DB_WRITE (R451). -/
  | evqDbWrite (c : Fin 8) (v : Word)
  /-- CHAN_RESET_WRITE (R455). -/
  | chanResetWrite (c : Fin 8) (v : Word)
  /-- INT_ACK_WRITE (R450). -/
  | intAckWrite (k : Fin 4) (v : Word)
  /-- PERST_ASSERT (R455). -/
  | perstAssert (flr : Bool) (bus : Option (Word × Bool))
  /-- PCIE_LINK_DOWN (R455). -/
  | pcieLinkDown (bus : Option (Word × Bool))
  /-- PCIE_LINK_UP (R476). -/
  | pcieLinkUp (speed : Fin 4) (wide : Bool)
  /-- D3HOT_ENTRY (R455). -/
  | d3hotEntry
  /-- STATUS (R459). -/
  | status (port : Fin 3)
  /-- SEND (R461). -/
  | send (port : Fin 3) (crc : Bool) (slot : Bool) (recent : Bool) (frame : List Byte)
  /-- FETCH (R462). -/
  | fetch (port : Fin 3) (kind : Byte) (session : Byte) (index : Half)
  /-- DOORBELL (R463). -/
  | doorbell (port : Fin 3) (crc : Bool) (kind : Byte) (session : Byte) (value : Half)
  /-- MEM_READ (R465). -/
  | memRead (crc : Bool) (addr : Word) (count : Nat) (ecc : Bool)
  /-- MEM_WRITE (R465). -/
  | memWrite (crc : Bool) (addr : Word) (data : List Byte) (ecc : Bool)
  /-- SPI_ABORT (R471). -/
  | spiAbort (port : Fin 3) (bus : Option (Word × Bool))
  /-- BUS_ACCESS (R468). -/
  | busAccess (reqs : List BusReq)
  /-- LOCK_TIMEOUT (R470). -/
  | lockTimeout (master : Fin 10) (addr : Word) (write : Bool)
  /-- TARGET_TIMEOUT (R472). -/
  | targetTimeout (master : Fin 10) (addr : Word) (write : Bool)
  /-- BUS_ERR_CLEAR (R474). -/
  | busErrClear (acc : Access)
  /-- TWIN_CFG_WRITE (R504). -/
  | twinCfgWrite (acc : Access) (v : Word)
  /-- RESYNC (R503). -/
  | resync (acc : Access)
  /-- YIELD (R503). -/
  | yield (acc : Access)
  /-- RESUME (R503). -/
  | resume (acc : Access)
  /-- CLEAR_PARTIAL (R503). -/
  | clearPartial (acc : Access)
  /-- HELLO_SEND (R478). -/
  | helloSend
  /-- HELLO (R481). -/
  | hello (m : HelloMsg) (round : Nat)
  /-- BEACON (R479). -/
  | beacon (m : BeaconMsg) (alt : Bool) (good : Bool) (arrival : Int)
  /-- BEACON_DEADLINE_MISS (R497). -/
  | beaconDeadlineMiss (pos0 : Bool)
  /-- ALT_WAIT_EXPIRE (R497). -/
  | altWaitExpire
  /-- SWITCHOVER (R498). -/
  | switchover (gap : Word)
  /-- PEER_ABSENT (R481). -/
  | peerAbsent
  /-- STARTUP_SHARE_HOLD_END (R481). -/
  | startupShareHoldEnd
  /-- COPY (R490). -/
  | copy (data : CopyData) (last : Bool) (crc : Bool) (len : Nat)
  /-- COPY_ACK (R490). -/
  | copyAck (pending : Bool) (ok : Bool)
  /-- COPY_SENT (R492). -/
  | copySent (sAt : Word)
  /-- COPY_APPLY (R492). -/
  | copyApply
  /-- MIRROR (R493). -/
  | mirror (seq : Word) (rec : MirrorRec)
  /-- MIRROR_APPLY (R493). -/
  | mirrorApply
  /-- HANDOVER_BOUNDARY (R502). -/
  | handoverBoundary
  /-- TWIN_WTR_EXPIRE (R502). -/
  | twinWtrExpire
  /-- TWIN_CONV_TIMEOUT (R496). -/
  | twinConvTimeout
  /-- GUARD_SAMPLE (R510). -/
  | guardSample (g : Fin 1792) (seq : Option Byte) (fa : Option (Word × BitVec 31)) (fb : Option (Word × BitVec 31))
  /-- GUARD_HOLD_EXPIRE (R517). -/
  | guardHoldExpire (g : Fin 1792)
  /-- GUARD_UNLOCK_WRITE (R512). -/
  | guardUnlockWrite (acc : Access) (v : Word)
  /-- GUARD_UNLOCK_EXPIRE (R512). -/
  | guardUnlockExpire (second : Bool)
  /-- GUARD_CEIL_WRITE (R511). -/
  | guardCeilWrite (acc : Access) (g : Fin 1792) (v : Word)
  /-- GUARD_CFG_WRITE (R535). -/
  | guardCfgWrite (acc : Access) (g : Fin 1792) (v : Word)
  /-- RELEASE_SAFE (R521). -/
  | releaseSafe (acc : Access)
  /-- RELEASE_CH (R517). -/
  | releaseCh (acc : Access) (ch : BitVec 11)
  /-- RELEASE_ALL (R517). -/
  | releaseAll (acc : Access)
  /-- FUSE (R513). -/
  | fuse (acc : Access) (entry : Fin 16)
  /-- GUARD_OSC_FAULT (R520). -/
  | guardOscFault (net : Bool) (b : Bool) (out : Bool)
  /-- GUARD_CFG_SCRUB (R528). -/
  | guardCfgScrub (ce : Nat) (ue : Bool)
  /-- SAFE_OK_EDGE (R522). -/
  | safeOkEdge
  /-- FAULT_LOG_CLEAR (R532). -/
  | faultLogClear (acc : Access)
  /-- VAON_ON (R541). -/
  | vaonOn
  /-- VAON_LOSS (R541). -/
  | vaonLoss
  /-- WAKE_PIN (R543). -/
  | wakePin
  /-- RTC_ALARM (R542). -/
  | rtcAlarm
  /-- RESET_PIN (R541). -/
  | resetPin
  /-- RAIL_GOOD (R544). -/
  | railGood
  /-- RAIL_TIMEOUT (R545). -/
  | railTimeout
  /-- FW_VERIFY_DONE (R549). -/
  | fwVerifyDone (slot : Option (List Byte × List Byte))
  /-- BOOT_XO_TIMEOUT (R552). -/
  | bootXoTimeout
  /-- STATE_RESTORE_DONE (R571). -/
  | stateRestoreDone (torn : Bool) (badA : Bool) (badB : Bool) (badRec : Option Word)
  /-- BOOT_CLOCK_READY (R548). -/
  | bootClockReady (expired : Bool)
  /-- ECLOSION_COMPLETE (R548). -/
  | eclosionComplete (ms : Word)
  /-- STANDBY (R547). -/
  | standby (acc : Access)
  /-- RESET (R553). -/
  | reset (acc : Access)
  /-- QRESET (R553). -/
  | qreset (acc : Access) (q : Fin 4)
  /-- MGMT_WATCHDOG (R554). -/
  | mgmtWatchdog (m0 : Option (Word × Bool)) (m1 : Option (Word × Bool))
  /-- PD_SWITCH (R537). -/
  | pdSwitch (pd : Fin 12) (on : Bool) (m5 : Option (Word × Bool)) (m8 : Option (Word × Bool))
  /-- QUAD_WAKE_READY (R539). -/
  | quadWakeReady (q : Fin 4)
  /-- CHR_RTC_LO_WRITE (R542). -/
  | chrRtcLoWrite (acc : Access) (v : Word)
  /-- CHR_WAKE_CFG_WRITE (R542). -/
  | chrWakeCfgWrite (acc : Access) (v : Word)
  /-- JNL_PAGE_PROGRAM_DONE (R565). -/
  | jnlPageProgramDone (ok : Bool)
  /-- JNL_PAGE_FILL_TIMEOUT (R565). -/
  | jnlPageFillTimeout
  /-- JNL_ERASE_DONE (R567). -/
  | jnlEraseDone (ok : Bool)
  /-- COMPACT (R574). -/
  | compact (acc : Access)
  /-- CLEAR_STATE (R574). -/
  | clearState (acc : Access)
  /-- COMPACTION_BEGIN (R567). -/
  | compactionBegin
  /-- SNAPSHOT_BODY_DONE (R567). -/
  | snapshotBodyDone
  /-- SNAPSHOT_SEAL (R567). -/
  | snapshotSeal (ok : Bool)
  /-- PFAIL (R570). -/
  | pfail (bus : Option (Word × Bool))
  /-- JNL_RESUME (R570). -/
  | jnlResume
  /-- DIE_TEMP_UPDATE (R595). -/
  | dieTempUpdate (v : Half)
  /-- DIE_TEMP_MAX_WRITE (R595). -/
  | dieTempMaxWrite (acc : Access) (v : Word)
  /-- PERST_RELEASE (R448). -/
  | perstRelease
  /-- D3HOT_EXIT (R448). -/
  | d3hotExit
  /-- SPI_PROTOCOL_ERROR (R459). -/
  | spiProtocolError (port : Fin 3)
  /-- BOOT_XO_RUNNING (R548). -/
  | bootXoRunning
  /-- MGMT_RESTART_DONE (R554). -/
  | mgmtRestartDone (sha : List Byte)
  deriving DecidableEq, Repr

end Sys2Proof
end

