-- ==== Sys2Proof/Decode.lean ====
section
/-!
DEFINITION. Reading commands from words. The table of steps gives no row any bits: a command is an event at a port, a
pin or an engine, or an object write, and has no encoding as a word of its own, so no table word spells a command. A tile's
program words do spell slot operations (R84–R105): `wordOps` reads them.
-/

namespace Sys2Proof

/-- The command that a word of `nbits` bits spells: none, since no row of the table has bits. -/
def decodeTableWord (_nbits _w : Nat) : Option Instr := none

/-- Bits `hi` to `lo` of a program word. -/
def pmBits (w : PmWord) (hi lo : Nat) : Nat := w.toNat / 2 ^ lo % 2 ^ (hi + 1 - lo)
/-- A register field of five bits at `lo`. -/
def pmReg (w : PmWord) (lo : Nat) : Fin 32 := Fin.ofNat 32 (pmBits w (lo + 4) lo)
/-- A two-bit field at `lo`: an accumulator, a format code or a rounding mode. -/
def pmTwo (w : PmWord) (lo : Nat) : Fin 4 := Fin.ofNat 4 (pmBits w (lo + 1) lo)
/-- A three-bit field at `lo`: a predicate, a lane or a condition code. -/
def pmThree (w : PmWord) (lo : Nat) : Fin 8 := Fin.ofNat 8 (pmBits w (lo + 2) lo)
/-- An address register set at `lo`. -/
def pmSet (w : PmWord) (lo : Nat) : Fin 16 := Fin.ofNat 16 (pmBits w (lo + 3) lo)
/-- A flag at bit `b`. -/
def pmFlag (w : PmWord) (b : Nat) : Bool := w.getLsbD b

/-- A slot of the word that a tile issues now, with the predicate selector at `lo` and the sense bit below it (R91). -/
def pmSlot (tile : Fin 36) (w : PmWord) (lo : Nat) : Slot := ⟨tile, 0, ⟨pmThree w lo, pmFlag w (lo - 1)⟩⟩
/-- A field that is never predicated: K0 with sense 0. -/
def pmAlways (tile : Fin 36) : Slot := ⟨tile, 0, ⟨0, false⟩⟩

/-- The MAC slot: MOP and its operands (R85, R92, R93). Reserved codes have no effect (R109). -/
def macOps (tile : Fin 36) (w : PmWord) : List Instr :=
  let p := pmSlot tile w 103
  let a := pmTwo w 120
  let x := pmReg w 115
  let y := pmReg w 110
  let fx := pmTwo w 108
  let fy := pmTwo w 106
  match pmBits w 125 122 with
  | 1 => [.mac p a x y fx fy]
  | 2 => [.msu p a x y fx fy]
  | 3 => [.mpy p a x y fx fy]
  | 4 => [.accld p a x fx]
  | 5 => [.accclr p a]
  | 6 => [.accshf p a (BitVec.ofNat 6 (pmBits w 106 106 * 32 + pmBits w 114 110))]
  | 7 => [.accadd p a (pmTwo w 115)]
  | _ => []

/-- The accumulator store: SOP and its operands (R85, R94). -/
def storeOps (tile : Fin 36) (w : PmWord) : List Instr :=
  let p := pmSlot tile w 85
  match pmBits w 101 100 with
  | 1 => [.st p (pmReg w 93) (pmTwo w 98) (pmTwo w 91) (pmTwo w 89) (pmFlag w 88)]
  | 2 => [.rst p (pmReg w 93) (pmTwo w 98) (pmTwo w 91) (pmTwo w 89) (pmFlag w 88)]
  | _ => []

/-- Memory slot 0 (R85, R102). -/
def mem0Ops (tile : Fin 36) (w : PmWord) : List Instr :=
  let p := pmSlot tile w 67
  match pmBits w 83 82 with
  | 1 => [.rd p false (pmSet w 78) (pmReg w 73) ⟨0, 0, []⟩]
  | 2 => [.rdb p (pmThree w 70) (pmSet w 78) (pmReg w 73) ⟨0, 0, []⟩]
  | _ => []

/-- Memory slot 1 (R85, R102). -/
def mem1Ops (tile : Fin 36) (w : PmWord) : List Instr :=
  let p := pmSlot tile w 52
  match pmBits w 65 64 with
  | 1 => [.rd p true (pmSet w 60) (pmReg w 55) ⟨0, 0, []⟩]
  | 2 => [.wr p (pmSet w 60) (pmReg w 55)]
  | 3 => [.wrt p (pmSet w 60) (pmReg w 55)]
  | _ => []

/-- The ALU slot of format 0 (R86, R96, R97, R99). Reserved codes have no effect (R109). -/
def aluOps (tile : Fin 36) (w : PmWord) : List Instr :=
  let p := pmSlot tile w 21
  let d := pmReg w 40
  let a := pmReg w 35
  let b := pmReg w 30
  let c := pmThree w 27
  let kt := pmThree w 24
  let ka := pmThree w 35
  let kb := pmThree w 30
  let imm := BitVec.ofNat 16 (pmBits w 39 24)
  match pmBits w 50 45 with
  | 0x01 => [.mov p d a]
  | 0x02 => [.add p d a b]
  | 0x03 => [.sub p d a b]
  | 0x04 => [.adds p d a b]
  | 0x05 => [.subs p d a b]
  | 0x06 => [.negs p d a]
  | 0x07 => [.abss p d a]
  | 0x08 => [.min p d a b]
  | 0x09 => [.max p d a b]
  | 0x0A => [.and p d a b]
  | 0x0B => [.or p d a b]
  | 0x0C => [.xor p d a b]
  | 0x0D => [.not p d a]
  | 0x0E => [.ldil p d imm]
  | 0x0F => [.ldih p d imm]
  | 0x10 => [.shl p d a b]
  | 0x11 => [.shls p d a b]
  | 0x12 => [.shr p d a b]
  | 0x13 => [.asr p d a b]
  | 0x14 => [.asrn p d a b]
  | 0x15 => [.lsc p d a]
  | 0x16 => [.bexprd p d]
  | 0x17 => [.ashv p d a b]
  | 0x18 => [.shlv p d a b]
  | 0x19 => [.shlsv p d a b]
  | 0x1A => [.shrv p d a b]
  | 0x1B => [.asrv p d a b]
  | 0x1C => [.asrnv p d a b]
  | 0x20 => [.cmp p c a b kt]
  | 0x21 => [.csel p c d a b kt]
  | 0x28 => [.kand p ka kb kt]
  | 0x29 => [.kor p ka kb kt]
  | 0x2A => [.kxor p ka kb kt]
  | 0x2B => [.knot p ka kt]
  | 0x2C => [.kset p (pmFlag w 27) kt]
  | 0x2D => [.kbit p a b kt]
  | _ => []

/-- The AGU update field of unit `u` whose lowest bit is `lo` (R103). Reserved codes have no effect (R109). -/
def aguOps (tile : Fin 36) (w : PmWord) (u : Fin 4) (lo : Nat) : List Instr :=
  let p := pmAlways tile
  let k := pmSet w (lo + 5)
  let uop := pmBits w (lo + 4) lo
  if uop = 1 then [.aguPlusStep p u k]
  else if uop = 2 then [.aguMinusStep p u k]
  else if 16 ≤ uop then [.aguImmediate p u k (BitVec.ofNat 4 uop)]
  else []

/-- A send field: its enable bit at `en`, the register below it (R87, R88, R104). -/
def sendOps (tile : Fin 36) (w : PmWord) (ch : Fin 2) (en : Nat) : List Instr :=
  if pmFlag w en then [.txbSend (pmAlways tile) ch (pmReg w (en - 5))] else []
/-- A receive field: its enable bit at `en`, the register and the predicate below it (R87, R104). -/
def recvOps (tile : Fin 36) (w : PmWord) (ch : Fin 2) (en : Nat) : List Instr :=
  if pmFlag w en then [.txbReceive (pmSlot tile w (en - 8)) ch (pmReg w (en - 5)) 0] else []
/-- The LOOP field (R89, R105). -/
def loopOps (tile : Fin 36) (w : PmWord) : List Instr :=
  if pmBits w 50 49 = 1 then
    [.loop (pmAlways tile) (pmTwo w 47) (BitVec.ofNat 16 (pmBits w 46 31)) (BitVec.ofNat 13 (pmBits w 30 18))]
  else []

/-- The slot operations that a program word of a tile carries, by its format (R84–R89). Words without a DM or parity error. -/
def wordOps (tile : Fin 36) (w : PmWord) : List Instr :=
  macOps tile w ++ storeOps tile w ++ mem0Ops tile w ++ mem1Ops tile w ++
  match pmBits w 127 126 with
  | 0 => aluOps tile w ++ aguOps tile w 0 11 ++ aguOps tile w 1 2
  | 1 => sendOps tile w 0 50 ++ sendOps tile w 1 44 ++ recvOps tile w 0 38 ++ recvOps tile w 1 28 ++
      aguOps tile w 0 10 ++ aguOps tile w 1 1
  | 2 => aguOps tile w 0 42 ++ aguOps tile w 1 33 ++ aguOps tile w 2 24 ++ aguOps tile w 3 15 ++
      sendOps tile w 0 14 ++ sendOps tile w 1 8
  | _ => loopOps tile w ++ aguOps tile w 0 9 ++ aguOps tile w 1 0

end Sys2Proof
end

