-- ==== Sys2Proof/Config.lean ====
section
/-!
DEFINITION. What an implementation fixes and what the spec leaves open: constants without a body, so that no proof can
see their values. Each is named in the assumption log.
-/

namespace Sys2Proof

/-- A free value: the word the hardware has in the `n`-th place where the spec states none. -/
opaque Config.freeWord : Nat → Word

/-- The class number of the class that begins at an OID (R409). -/
opaque Config.classNo : Nat → BitVec 12

/-- A coefficient of the bridges' polyphase filter, Q1.31 (R265, R267): the spec gives its structure and its figures.
Arguments: the input rate and the lower rate in Hz, the tap (0–127), the phase (0–2^20). -/
opaque Config.bridgeTap : Nat → Nat → Nat → Nat → Word
/-- The fraction of a far sample, in units of 2^−32, that a tracker's phase sample stands for: its coding is not given
(R264, R265, R479). -/
opaque Config.phaseFraction : Word → BitVec 32
/-- A coefficient of a stage of a compensator, in units of 2^−30 (R271, R272): the spec gives its sum, its delay and its
figures. Arguments: RESP, N, M, the stage, the tap. -/
opaque Config.compTap : Nat → Nat → Nat → Nat → Nat → Int
/-- One step of the fixed high-pass of the HF detector at a rate ENUM code: from its state and a sample, its new state with
the output sample in front; the discrete filter is not given (R515). -/
opaque Config.hfStep : Nat → List Word → Word → List Word

/-- The ticks of the real-time counter since it was loaded, at a reading (R542). -/
opaque Config.rtcTicks : Nat → BitVec 48

/-- An object that the device changes by itself and that no command moves, at a reading: MGMT_LOAD, DPLL_PHASE_ERR. Arguments:
the OID and the count of free values taken (R329, R442). -/
opaque Config.liveRead : Nat → Nat → Word

/-- The step by which a clockAccuracy that R319 does not list lowers the rank. -/
opaque Config.accuracyStep : Nat → Nat

/-- Silicon revision (R442). -/
opaque Config.devRev : Word
/-- The SHA-256 digest of the firmware's public key, from OTP (R549). -/
opaque Config.fwKeyDigest : BitVec 256
/-- The minimum security version of firmware, from OTP (R549). -/
opaque Config.fwMinVersion : Word
/-- The clockIdentity of the PTP instance (R351). -/
opaque Config.clockIdentity : Dword
/-- MAC address of a lane from OTP: bits [47:32] (R397). -/
opaque Config.macHi : Nat → Half
/-- MAC address of a lane from OTP: bits [31:0] (R397). -/
opaque Config.macLo : Nat → Word
/-- The PCIe Vendor ID from OTP (R448). -/
opaque Config.pcieVendor : Half
/-- PCIe subsystem IDs from OTP (R474). -/
opaque Config.pcieSubsys : Word
/-- Fields of the IPv4 headers that the firmware sends and the spec does not state: 0 the type of service, 1 the
identification, 2 the time to live, 3 the PCP of the in-band VLAN (R417). -/
opaque Config.ipField : Nat → Half
/-- The Ethernet address to which the firmware sends a datagram for an IPv4 address (R417). -/
opaque Config.neighbour : Word → BitVec 48
/-- The size of the journal flash in MiB (R574). -/
opaque Config.flashMiB : Half

end Sys2Proof
end

