-- ==== Sys2Proof/Machine/Bits.lean ====
section
/-!
DEFINITION. Bit fields, sign extension, byte order and saturation. Bit ranges are [msb:lsb] and multi-byte values are
little-endian (R8).
-/

namespace Sys2Proof.Machine

/-- The field [hi:lo] of a word, as a number. -/
def fld (w : Word) (hi lo : Nat) : Nat := (w.toNat >>> lo) % 2 ^ (hi + 1 - lo)

/-- Bit `n` of a word. -/
def bit (w : Word) (n : Nat) : Bool := w.getLsbD n

/-- Word `w` with field [hi:lo] replaced by `v`. -/
def setFld (w : Word) (hi lo : Nat) (v : Nat) : Word :=
  let m : Word := BitVec.ofNat 32 ((2 ^ (hi + 1 - lo) - 1) <<< lo)
  (w &&& ~~~m) ||| (BitVec.ofNat 32 (v <<< lo) &&& m)

/-- Word `w` with bit `n` set to `b`. -/
def setBit (w : Word) (n : Nat) (b : Bool) : Word := setFld w n n (if b then 1 else 0)

/-- Bit `n` of a number takes a value. -/
def setBitN (x n : Nat) (b : Bool) : Nat :=
  if x.testBit n = b then x else if b then x + 2 ^ n else x - 2 ^ n

/-- A BOOL word. -/
def ofBool (b : Bool) : Word := if b then 1 else 0

/-- The number `n` as an object word. -/
def wd (n : Nat) : Word := BitVec.ofNat 32 n

/-- An integer as an object word, two's complement. -/
def wdI (i : Int) : Word := BitVec.ofInt 32 i

/-- A signed number clamped to the range of `n` bits, two's complement. -/
def satInt (n : Nat) (i : Int) : Int := max (-(2 ^ (n - 1) : Int)) (min (2 ^ (n - 1) - 1 : Int) i)

/-- Division of an integer by `2 ^ k`, rounding to nearest, ties to even (RNE, R596). -/
def rneShift (i : Int) (k : Nat) : Int :=
  if k = 0 then i else
  let d : Int := 2 ^ k
  let q := i / d
  let r := i % d
  if 2 * r < d then q else if 2 * r > d then q + 1 else if q % 2 = 0 then q else q + 1

/-- `n / d` rounded to nearest, ties to even (R596). -/
def rneDiv (n : Int) (d : Int) : Int :=
  if d = 0 then 0 else
  let q := n / d
  let r := n % d
  if 2 * r < d then q else if 2 * r > d then q + 1 else if q % 2 = 0 then q else q + 1

/-- The bytes of the number `n`, `len` of them, least significant first (R8). -/
def leBytes : Nat → Nat → List Byte
  | 0, _ => []
  | len + 1, n => BitVec.ofNat 8 n :: leBytes len (n / 256)

/-- The number that little-endian bytes spell (R8). -/
def ofLe : List Byte → Nat
  | [] => 0
  | b :: r => b.toNat + 256 * ofLe r

/-- The number that big-endian (network order) bytes spell. -/
def ofBe (l : List Byte) : Nat := l.foldl (fun a b => 256 * a + b.toNat) 0

/-- Big-endian bytes of a number. -/
def beBytes (len n : Nat) : List Byte := (leBytes len n).reverse

/-- `len` bytes of `l` from offset `o`. -/
def slice (l : List Byte) (o len : Nat) : List Byte := (l.drop o).take len

/-- The little-endian number at offset `o`. -/
def leAt (l : List Byte) (o len : Nat) : Nat := ofLe (slice l o len)

/-- The element of a list at `i`, or `d`. -/
def nth {α : Type} (d : α) (l : List α) (i : Nat) : α := l.getD i d

/-- A list with element `i` replaced. -/
def setNth {α : Type} (l : List α) (i : Nat) (v : α) : List α := l.set i v

/-- A saturating 32-bit count of one more event (R11). -/
def satInc (w : Word) : Word := if w = 0xFFFFFFFF#32 then w else w + 1

/-- A saturating 16-bit count. -/
def satInc16 (w : Word) : Word := if w.toNat ≥ 0xFFFF then 0xFFFF else w + 1

end Sys2Proof.Machine
end

