-- ==== Sys2Proof/Machine/Dict.lean ====
section
/-!
DEFINITION. The object dictionary: one class for each row of the chapters' object maps (R405, R409), with the types of
R407, the laws of R195, R196 and R212, the limits, reserved fields, defaults and port classes that the rows give.
-/

namespace Sys2Proof.Machine

/-- How an object is accessed (R10): read only, read and write, write only, W1C flags, a counter that only 0 clears. -/
inductive ObjKind where
  | ro
  | rw
  | wo
  | w1c
  | cnt0
  deriving DecidableEq, Repr

/-- A class of the object dictionary (R409). The class covers the OIDs `base + stride × i + stride2 × j`, with
`i < count` and `j < count2`. `ty` is the type code of R407, `law` the law code of R211; `lo = hi = 0` bounds
nothing; `negInf` accepts −∞ below `lo`; `resv` masks the reserved bits (R9). -/
structure ObjClass where
  name : String
  base : Nat
  stride : Nat
  count : Nat
  stride2 : Nat
  count2 : Nat
  ty : Nat
  expert : Bool
  rd : Nat
  wr : Nat
  law : Nat
  unit : Nat
  dflt : Word
  lo : Word
  hi : Word
  negInf : Bool
  resv : Word
  ramp : Nat
  enums : List String
  kind : ObjKind
  deriving DecidableEq, Repr

/-- Classes of the OIDs 0 to 0xBFFFF. -/
def dictXp : List ObjClass := [
  ⟨"XP_LEVEL", 0, 1, 131072, 0, 1, 7, false, 0x7F, 0x7F, 4, 1, 0, 0xC3100000, 0x41200000, true, 0, 20, [], .rw⟩,
  ⟨"XP_ON", 0x20000, 1, 131072, 0, 1, 0, false, 0x7F, 0x7F, 7, 0, 0, 0, 0, false, 0, 0, [], .rw⟩,
  ⟨"XP_PAN", 0x40000, 1, 131072, 0, 1, 3, false, 0x7F, 0x7F, 3, 0, 0, 0xFFFFFF9C, 0x64, false, 0, 20, [], .rw⟩,
  ⟨"XP_TAP", 0x60000, 1, 131072, 0, 1, 8, false, 0x7F, 0x7F, 7, 0, 1, 0, 0, false, 0, 0, ["PRE", "POST"], .rw⟩,
  ⟨"XP_COEF_PRE", 0x80000, 1, 131072, 0, 1, 6, true, 0x7F, 0x57, 1, 0, 0, 0, 0, false, 0, 0, [], .rw⟩,
  ⟨"XP_COEF_POST", 0xA0000, 1, 131072, 0, 1, 6, true, 0x7F, 0x57, 1, 0, 0, 0, 0, false, 0, 0, [], .rw⟩]

/-- Classes of the OIDs 0xC0000 to 0xCFFFF, part 0. -/
def dictStrip0 : List ObjClass := [
  ⟨"TRIM", 0xC0000, 0x80, 512, 0, 1, 7, false, 0x7F, 0x7F, 4, 1, 0, 0xC2200000, 0x42200000, false, 0, 20, [], .rw⟩,
  ⟨"POLARITY", 0xC0001, 0x80, 512, 0, 1, 0, false, 0x7F, 0x7F, 2, 0, 0, 0, 0, false, 0, 0, [], .rw⟩,
  ⟨"DELAY", 0xC0002, 0x80, 512, 0, 1, 7, false, 0x7F, 0x7F, 7, 4, 0, 0, 0x43FA0000, false, 0, 0, [], .rw⟩,
  ⟨"GATE_ON", 0xC0003, 0x80, 512, 0, 1, 0, false, 0x7F, 0x7F, 6, 0, 0, 0, 0, false, 0, 10, [], .rw⟩,
  ⟨"GATE_THRESH", 0xC0004, 0x80, 512, 0, 1, 7, false, 0x7F, 0x7F, 3, 2, 0xC2700000, 0xC2C00000, 0, false, 0, 20, [], .rw⟩,
  ⟨"GATE_RANGE", 0xC0005, 0x80, 512, 0, 1, 7, false, 0x7F, 0x7F, 3, 1, 0x42200000, 0, 0x42B40000, false, 0, 20, [], .rw⟩,
  ⟨"GATE_ATTACK", 0xC0006, 0x80, 512, 0, 1, 7, false, 0x7F, 0x7F, 5, 4, 0x3F000000, 0x3D4CCCCD, 0x42C80000, false, 0, 0, [], .rw⟩,
  ⟨"GATE_HOLD", 0xC0007, 0x80, 512, 0, 1, 7, false, 0x7F, 0x7F, 3, 4, 0x42480000, 0, 0x44FA0000, false, 0, 0, [], .rw⟩,
  ⟨"GATE_RELEASE", 0xC0008, 0x80, 512, 0, 1, 7, false, 0x7F, 0x7F, 5, 4, 0x43480000, 0x40A00000, 0x457A0000, false, 0, 0, [], .rw⟩,
  ⟨"COMP_ON", 0xC0009, 0x80, 512, 0, 1, 0, false, 0x7F, 0x7F, 6, 0, 0, 0, 0, false, 0, 10, [], .rw⟩,
  ⟨"COMP_THRESH", 0xC000A, 0x80, 512, 0, 1, 7, false, 0x7F, 0x7F, 3, 2, 0xC1A00000, 0xC2700000, 0, false, 0, 20, [], .rw⟩,
  ⟨"COMP_RATIO", 0xC000B, 0x80, 512, 0, 1, 7, false, 0x7F, 0x7F, 5, 10, 0x40800000, 0x3F800000, 0x42C80000, false, 0, 20, [], .rw⟩,
  ⟨"COMP_KNEE", 0xC000C, 0x80, 512, 0, 1, 7, false, 0x7F, 0x7F, 3, 1, 0, 0, 0x41C00000, false, 0, 20, [], .rw⟩,
  ⟨"COMP_ATTACK", 0xC000D, 0x80, 512, 0, 1, 7, false, 0x7F, 0x7F, 5, 4, 0x41200000, 0x3D4CCCCD, 0x43480000, false, 0, 0, [], .rw⟩,
  ⟨"COMP_RELEASE", 0xC000E, 0x80, 512, 0, 1, 7, false, 0x7F, 0x7F, 5, 4, 0x42C80000, 0x40A00000, 0x459C4000, false, 0, 0, [], .rw⟩,
  ⟨"COMP_MAKEUP", 0xC000F, 0x80, 512, 0, 1, 7, false, 0x7F, 0x7F, 3, 1, 0, 0, 0x41C00000, false, 0, 20, [], .rw⟩,
  ⟨"MUTE", 0xC0010, 0x80, 512, 0, 1, 0, false, 0x7F, 0x7F, 6, 0, 0, 0, 0, false, 0, 10, [], .rw⟩,
  ⟨"FADER", 0xC0011, 0x80, 512, 0, 1, 7, false, 0x7F, 0x7F, 4, 1, 0xFF800000, 0xC3100000, 0x41200000, true, 0, 20, [], .rw⟩,
  ⟨"DIRECT_ON", 0xC0012, 0x80, 512, 0, 1, 0, false, 0x7F, 0x7F, 7, 0, 0, 0, 0, false, 0, 0, [], .rw⟩,
  ⟨"DIRECT_TAP", 0xC0013, 0x80, 512, 0, 1, 8, false, 0x7F, 0x7F, 7, 0, 3, 0, 0, false, 0, 0, ["INPUT", "POST_EQ", "PRE_FADER", "POST_FADER"], .rw⟩,
  ⟨"DIRECT_LEVEL", 0xC0014, 0x80, 512, 0, 1, 7, false, 0x7F, 0x7F, 4, 1, 0, 0xC3100000, 0x41200000, true, 0, 20, [], .rw⟩,
  ⟨"SC_ROUTE", 0xC0015, 0x80, 512, 0, 1, 8, false, 0x7F, 0x7F, 1, 0, 0, 0, 0, false, 0, 0, ["NONE", "GATE", "COMP", "BOTH"], .rw⟩,
  ⟨"DIRECT_XF_LEN", 0xC0016, 0x80, 512, 0, 1, 2, false, 0x7F, 0x7F, 1, 9, 0x100, 0x10, 0x1000, false, 0, 0, [], .rw⟩,
  ⟨"DYN_CTRL_SOURCE", 0xC0017, 0x80, 512, 0, 1, 8, true, 0x7F, 0x57, 1, 0, 0, 0, 0, false, 0, 0, ["BASIC", "EXPERT"], .rw⟩]

/-- Classes of the OIDs 0xC0000 to 0xCFFFF, part 1. -/
def dictStrip1 : List ObjClass := [
  ⟨"GATE_ATK_COEF", 0xC0018, 0x80, 512, 0, 1, 6, true, 0x7F, 0x57, 1, 0, 0, 0, 0, false, 0, 0, [], .rw⟩,
  ⟨"GATE_REL_COEF", 0xC0019, 0x80, 512, 0, 1, 6, true, 0x7F, 0x57, 1, 0, 0, 0, 0, false, 0, 0, [], .rw⟩,
  ⟨"COMP_ATK_COEF", 0xC001A, 0x80, 512, 0, 1, 6, true, 0x7F, 0x57, 1, 0, 0, 0, 0, false, 0, 0, [], .rw⟩,
  ⟨"COMP_REL_COEF", 0xC001B, 0x80, 512, 0, 1, 6, true, 0x7F, 0x57, 1, 0, 0, 0, 0, false, 0, 0, [], .rw⟩,
  ⟨"COMP_SLOPE", 0xC001C, 0x80, 512, 0, 1, 6, true, 0x7F, 0x57, 1, 0, 0, 0x80000000, 0, false, 0, 0, [], .rw⟩,
  ⟨"STRIP_PRESENT", 0xC001D, 0x80, 512, 0, 1, 0, false, 0x7F, 0, 0, 0, 0, 0, 0, false, 0, 0, [], .ro⟩,
  ⟨"SEC_TYPE", 0xC0020, 0x80, 512, 8, 12, 8, false, 0x7F, 0x7F, 8, 0, 0, 0, 0, false, 0, 20, ["BYPASS", "HP1", "HP2", "LP1", "LP2", "PEAK", "LOW_SHELF", "HIGH_SHELF", "BANDPASS", "NOTCH", "ALLPASS"], .rw⟩,
  ⟨"SEC_FREQ", 0xC0021, 0x80, 512, 8, 12, 7, false, 0x7F, 0x7F, 5, 3, 0x447A0000, 0x41200000, 0x471C4000, false, 0, 20, [], .rw⟩,
  ⟨"SEC_Q", 0xC0022, 0x80, 512, 8, 12, 7, false, 0x7F, 0x7F, 5, 0, 0x3F350481, 0x3DCCCCCD, 0x42480000, false, 0, 20, [], .rw⟩,
  ⟨"SEC_GAIN", 0xC0023, 0x80, 512, 8, 12, 7, false, 0x7F, 0x7F, 4, 1, 0, 0xC1F00000, 0x41700000, false, 0, 20, [], .rw⟩,
  ⟨"SEC_CTRL_SOURCE", 0xC0024, 0x80, 512, 8, 12, 8, true, 0x7F, 0x57, 1, 0, 0, 0, 0, false, 0, 0, ["BASIC", "EXPERT"], .rw⟩,
  ⟨"SEC_STATUS", 0xC0025, 0x80, 512, 8, 12, 1, false, 0x7F, 0, 0, 0, 0, 0, 0, false, 0xF0, 0, [], .ro⟩,
  ⟨"SEC_POLE_RADIUS", 0xC0026, 0x80, 512, 8, 12, 7, true, 0x7F, 0, 0, 0, 0, 0, 0, false, 0, 0, [], .ro⟩,
  ⟨"SEC_NUMBER", 0xC0027, 0x80, 512, 8, 12, 2, true, 0x7F, 0, 0, 0, 0, 0, 0, false, 0, 0, [], .ro⟩]

/-- Classes of the OIDs 0xC0000 to 0xCFFFF. -/
def dictStrip : List ObjClass := dictStrip0 ++ dictStrip1

/-- Classes of the OIDs 0xD0000 to 0xD7FFF, part 0. -/
def dictBus0 : List ObjClass := [
  ⟨"BUS_TRIM", 0xD0000, 0x80, 256, 0, 1, 7, false, 0x7F, 0x7F, 4, 1, 0, 0xC2200000, 0x41A00000, false, 0, 20, [], .rw⟩,
  ⟨"BUS_POLARITY", 0xD0001, 0x80, 256, 0, 1, 0, false, 0x7F, 0x7F, 2, 0, 0, 0, 0, false, 0, 0, [], .rw⟩,
  ⟨"BUS_DELAY", 0xD0002, 0x80, 256, 0, 1, 7, false, 0x7F, 0x7F, 7, 4, 0, 0, 0x43FA0000, false, 0, 0, [], .rw⟩,
  ⟨"BUS_COMP_ON", 0xD0003, 0x80, 256, 0, 1, 0, false, 0x7F, 0x7F, 6, 0, 0, 0, 0, false, 0, 10, [], .rw⟩,
  ⟨"BUS_COMP_THRESH", 0xD0004, 0x80, 256, 0, 1, 7, false, 0x7F, 0x7F, 3, 2, 0xC1200000, 0xC2700000, 0x41C00000, false, 0, 20, [], .rw⟩,
  ⟨"BUS_COMP_RATIO", 0xD0005, 0x80, 256, 0, 1, 7, false, 0x7F, 0x7F, 5, 10, 0x40000000, 0x3F800000, 0x42C80000, false, 0, 20, [], .rw⟩,
  ⟨"BUS_COMP_KNEE", 0xD0006, 0x80, 256, 0, 1, 7, false, 0x7F, 0x7F, 3, 1, 0x40C00000, 0, 0x41C00000, false, 0, 20, [], .rw⟩,
  ⟨"BUS_COMP_ATTACK", 0xD0007, 0x80, 256, 0, 1, 7, false, 0x7F, 0x7F, 5, 4, 0x41200000, 0x3D4CCCCD, 0x43480000, false, 0, 0, [], .rw⟩,
  ⟨"BUS_COMP_RELEASE", 0xD0008, 0x80, 256, 0, 1, 7, false, 0x7F, 0x7F, 5, 4, 0x43480000, 0x40A00000, 0x459C4000, false, 0, 0, [], .rw⟩,
  ⟨"BUS_COMP_MAKEUP", 0xD0009, 0x80, 256, 0, 1, 7, false, 0x7F, 0x7F, 3, 1, 0, 0, 0x41C00000, false, 0, 20, [], .rw⟩,
  ⟨"BUS_MUTE", 0xD000A, 0x80, 256, 0, 1, 0, false, 0x7F, 0x7F, 6, 0, 0, 0, 0, false, 0, 10, [], .rw⟩,
  ⟨"BUS_FADER", 0xD000B, 0x80, 256, 0, 1, 7, false, 0x7F, 0x7F, 4, 1, 0xFF800000, 0xC3100000, 0x41200000, true, 0, 20, [], .rw⟩,
  ⟨"BUS_LINK", 0xD000C, 0x80, 256, 0, 1, 0, false, 0x7F, 0x7F, 7, 0, 0, 0, 0, false, 0, 0, [], .rw⟩,
  ⟨"BUS_PAN_LAW", 0xD000D, 0x80, 256, 0, 1, 8, false, 0x7F, 0x7F, 7, 0, 0, 0, 0, false, 0, 0, ["CONST_POWER", "LINEAR"], .rw⟩,
  ⟨"BUS_XF_LEN", 0xD000E, 0x80, 256, 0, 1, 2, false, 0x7F, 0x7F, 1, 9, 0x100, 0x10, 0x1000, false, 0, 0, [], .rw⟩,
  ⟨"BUS_FEED_ON", 0xD000F, 0x80, 256, 0, 1, 0, false, 0x7F, 0x7F, 7, 0, 0, 0, 0, false, 0, 0, [], .rw⟩,
  ⟨"BUS_FEED_LEVEL", 0xD0010, 0x80, 256, 0, 1, 7, false, 0x7F, 0x7F, 4, 1, 0, 0xC3100000, 0x41200000, true, 0, 20, [], .rw⟩,
  ⟨"BUS_FEED_DEST", 0xD0011, 0x80, 256, 0, 1, 2, false, 0x7F, 0, 0, 0, 0, 0, 0, false, 0, 0, [], .ro⟩,
  ⟨"XP_CTRL_SOURCE", 0xD0012, 0x80, 256, 0, 1, 8, true, 0x7F, 0x57, 1, 0, 0, 0, 0, false, 0, 0, ["BASIC", "EXPERT"], .rw⟩,
  ⟨"BUS_DYN_CTRL_SOURCE", 0xD0013, 0x80, 256, 0, 1, 8, true, 0x7F, 0x57, 1, 0, 0, 0, 0, false, 0, 0, ["BASIC", "EXPERT"], .rw⟩,
  ⟨"BUS_COMP_ATK_COEF", 0xD0014, 0x80, 256, 0, 1, 6, true, 0x7F, 0x57, 1, 0, 0, 0, 0, false, 0, 0, [], .rw⟩,
  ⟨"BUS_COMP_REL_COEF", 0xD0015, 0x80, 256, 0, 1, 6, true, 0x7F, 0x57, 1, 0, 0, 0, 0, false, 0, 0, [], .rw⟩,
  ⟨"BUS_COMP_SLOPE", 0xD0016, 0x80, 256, 0, 1, 6, true, 0x7F, 0x57, 1, 0, 0, 0, 0, false, 0, 0, [], .rw⟩,
  ⟨"BUS_PRESENT", 0xD0017, 0x80, 256, 0, 1, 0, false, 0x7F, 0, 0, 0, 0, 0, 0, false, 0, 0, [], .ro⟩]

/-- Classes of the OIDs 0xD0000 to 0xD7FFF, part 1. -/
def dictBus1 : List ObjClass := [
  ⟨"SEC_TYPE", 0xD0040, 0x80, 256, 8, 8, 8, false, 0x7F, 0x7F, 8, 0, 0, 0, 0, false, 0, 20, ["BYPASS", "HP1", "HP2", "LP1", "LP2", "PEAK", "LOW_SHELF", "HIGH_SHELF", "BANDPASS", "NOTCH", "ALLPASS"], .rw⟩,
  ⟨"SEC_FREQ", 0xD0041, 0x80, 256, 8, 8, 7, false, 0x7F, 0x7F, 5, 3, 0x447A0000, 0x41200000, 0x471C4000, false, 0, 20, [], .rw⟩,
  ⟨"SEC_Q", 0xD0042, 0x80, 256, 8, 8, 7, false, 0x7F, 0x7F, 5, 0, 0x3F350481, 0x3DCCCCCD, 0x42480000, false, 0, 20, [], .rw⟩,
  ⟨"SEC_GAIN", 0xD0043, 0x80, 256, 8, 8, 7, false, 0x7F, 0x7F, 4, 1, 0, 0xC1F00000, 0x41700000, false, 0, 20, [], .rw⟩,
  ⟨"SEC_CTRL_SOURCE", 0xD0044, 0x80, 256, 8, 8, 8, true, 0x7F, 0x57, 1, 0, 0, 0, 0, false, 0, 0, ["BASIC", "EXPERT"], .rw⟩,
  ⟨"SEC_STATUS", 0xD0045, 0x80, 256, 8, 8, 1, false, 0x7F, 0, 0, 0, 0, 0, 0, false, 0xF0, 0, [], .ro⟩,
  ⟨"SEC_POLE_RADIUS", 0xD0046, 0x80, 256, 8, 8, 7, true, 0x7F, 0, 0, 0, 0, 0, 0, false, 0, 0, [], .ro⟩,
  ⟨"SEC_NUMBER", 0xD0047, 0x80, 256, 8, 8, 2, true, 0x7F, 0, 0, 0, 0, 0, 0, false, 0, 0, [], .ro⟩]

/-- Classes of the OIDs 0xD0000 to 0xD7FFF. -/
def dictBus : List ObjClass := dictBus0 ++ dictBus1

/-- Classes of the OIDs 0xD8000 to 0xDFFFF. -/
def dictOut : List ObjClass := [
  ⟨"OUT_GAIN", 0xD8000, 0x40, 128, 0, 1, 7, false, 0x7F, 0x7F, 4, 1, 0, 0xC3100000, 0x41400000, true, 0, 20, [], .rw⟩,
  ⟨"OUT_POLARITY", 0xD8001, 0x40, 128, 0, 1, 0, false, 0x7F, 0x7F, 2, 0, 0, 0, 0, false, 0, 0, [], .rw⟩,
  ⟨"OUT_DELAY", 0xD8002, 0x40, 128, 0, 1, 7, false, 0x7F, 0x7F, 7, 4, 0, 0, 0x447A0000, false, 0, 0, [], .rw⟩,
  ⟨"OUT_FIR_ON", 0xD8003, 0x40, 128, 0, 1, 0, false, 0x7F, 0x7F, 7, 0, 0, 0, 0, false, 0, 0, [], .rw⟩,
  ⟨"OUT_FIR_SET", 0xD8004, 0x40, 128, 0, 1, 2, false, 0x7F, 0x7F, 7, 0, 0, 0, 0, false, 0, 0, [], .rw⟩,
  ⟨"OUT_MUTE", 0xD8005, 0x40, 128, 0, 1, 0, false, 0x7F, 0x7F, 6, 0, 0, 0, 0, false, 0, 10, [], .rw⟩,
  ⟨"OUT_XF_LEN", 0xD8006, 0x40, 128, 0, 1, 2, false, 0x7F, 0x7F, 1, 9, 0x100, 0x10, 0x1000, false, 0, 0, [], .rw⟩,
  ⟨"OUT_PRESENT", 0xD8007, 0x40, 128, 0, 1, 0, false, 0x7F, 0, 0, 0, 0, 0, 0, false, 0, 0, [], .ro⟩,
  ⟨"SIL_ENABLE", 0xDC000, 1, 4096, 0, 1, 0, false, 0x7F, 0x7F, 1, 0, 1, 0, 0, false, 0, 0, [], .rw⟩,
  ⟨"SIL_THRESH", 0xDD000, 1, 4096, 0, 1, 7, false, 0x7F, 0x7F, 1, 2, 0xC2B40000, 0xC2F00000, 0xC2200000, false, 0, 0, [], .rw⟩,
  ⟨"SIL_HOLD", 0xDE000, 1, 4096, 0, 1, 7, false, 0x7F, 0x7F, 1, 4, 0x44FA0000, 0x41200000, 0x476A6000, false, 0, 0, [], .rw⟩,
  ⟨"SIL_STATE", 0xDF000, 1, 4096, 0, 1, 8, false, 0x7F, 0, 0, 0, 0, 0, 0, false, 0, 0, ["DISABLED", "ACTIVE", "TAIL", "SILENT"], .ro⟩]

/-- Classes of the OIDs 0xE0000 to 0xEFFFF. -/
def dictPatch : List ObjClass := [
  ⟨"PATCH_SRC", 0xE0000, 1, 12288, 0, 1, 2, false, 0x7F, 0x7F, 7, 0, 0xFFFF, 0, 0, false, 0, 0, [], .rw⟩,
  ⟨"PATCH_GAIN", 0xE3000, 1, 12288, 0, 1, 7, false, 0x7F, 0x7F, 4, 1, 0, 0xC3100000, 0x41400000, true, 0, 20, [], .rw⟩,
  ⟨"PATCH_MUTE", 0xE6000, 1, 12288, 0, 1, 0, false, 0x7F, 0x7F, 6, 0, 0, 0, 0, false, 0, 10, [], .rw⟩,
  ⟨"PATCH_XF", 0xE9000, 1, 12288, 0, 1, 4, false, 0x7F, 0x7F, 1, 0, 0x100, 0, 0, false, 0xFFFEE000, 0, [], .rw⟩,
  ⟨"PATCH_STATUS", 0xEC000, 1, 12288, 0, 1, 1, false, 0x7F, 0x7F, 0, 0, 0, 0, 0, false, 0xF0, 0, [], .rw⟩]

/-- Classes of the OIDs 0xF0000 to 0xF07FF. -/
def dictDev : List ObjClass := [
  ⟨"DEV_ID", 0xF0000, 0, 1, 0, 1, 4, false, 0x7F, 0, 0, 0, 0x9512, 0, 0, false, 0, 0, [], .ro⟩,
  ⟨"DEV_REV", 0xF0001, 0, 1, 0, 1, 4, false, 0x7F, 0, 0, 0, 0, 0, 0, false, 0, 0, [], .ro⟩,
  ⟨"FW_VERSION", 0xF0002, 0, 1, 0, 1, 4, false, 0x7F, 0, 0, 0, 0, 0, 0, false, 0, 0, [], .ro⟩,
  ⟨"OD_VERSION", 0xF0003, 0, 1, 0, 1, 2, false, 0x7F, 0, 0, 0, 1, 0, 0, false, 0, 0, [], .ro⟩,
  ⟨"SESS_OPEN_CNT", 0xF0004, 0, 1, 0, 1, 1, false, 0x7F, 0, 0, 0, 0, 0, 0, false, 0, 0, [], .ro⟩,
  ⟨"TAG_POOL_USED", 0xF0005, 0, 1, 0, 1, 2, false, 0x7F, 0, 0, 0, 0, 0, 0, false, 0, 0, [], .ro⟩,
  ⟨"FCP_PC_ENABLE", 0xF0006, 0, 1, 0, 1, 1, false, 0x7F, 2, 0, 0, 0x1C, 0, 0, false, 0xE2, 0, [], .rw⟩,
  ⟨"SESS_EXPERT_MASK", 0xF0007, 0, 1, 0, 1, 1, false, 0x7F, 2, 0, 0, 0x17, 0, 0, false, 0xC0, 0, [], .rw⟩,
  ⟨"MGMT_LOAD", 0xF0008, 0, 1, 0, 1, 1, false, 0x7F, 0, 0, 12, 0, 0, 0, false, 0, 0, [], .ro⟩,
  ⟨"FCP_STICKY", 0xF0009, 0, 1, 0, 1, 4, false, 0x7F, 0x1F, 0, 0, 0, 0, 0, false, 0xFFFFFF00, 0, [], .w1c⟩,
  ⟨"FCP_CNT", 0xF0010, 1, 8, 0, 1, 4, false, 0x7F, 0x1F, 0, 0, 0, 0, 0, false, 0, 0, [], .cnt0⟩,
  ⟨"INT_CFG", 0xF0020, 1, 4, 0, 1, 4, false, 0x7F, 0x17, 0, 0, 0, 0, 0, false, 0xFFFF0000, 0, [], .rw⟩,
  ⟨"INT_PENDING", 0xF0024, 1, 4, 0, 1, 4, false, 0x1F, 0x1F, 0, 0, 0, 0, 0, false, 0xFFFF0000, 0, [], .w1c⟩,
  ⟨"INT_EVT_CNT", 0xF0040, 1, 32, 0, 1, 4, false, 0x7F, 0x1F, 0, 0, 0, 0, 0, false, 0, 0, [], .cnt0⟩,
  ⟨"SESS_INFO", 0xF0104, 4, 63, 0, 1, 4, false, 0x7F, 0, 0, 0, 0, 0, 0, false, 0xF0000040, 0, [], .ro⟩,
  ⟨"SESS_PEER_IP", 0xF0105, 4, 63, 0, 1, 4, false, 0x7F, 0, 0, 0, 0, 0, 0, false, 0, 0, [], .ro⟩,
  ⟨"SESS_PEER_PORT", 0xF0106, 4, 63, 0, 1, 2, false, 0x7F, 0, 0, 0, 0, 0, 0, false, 0, 0, [], .ro⟩,
  ⟨"SESS_EVT_MASK", 0xF0107, 4, 63, 0, 1, 4, false, 0x7F, 0, 0, 0, 0, 0, 0, false, 0, 0, [], .ro⟩]

/-- Classes of the OIDs 0xF0800 to 0xF3FFF. GUARD_FUSE_RANGE and GUARD_FUSE_CEIL, whose default is "from OTP", read 0: no entry is
burned (DESIGN CHOICE, log 46). -/
def dictGuard : List ObjClass := [
  ⟨"GUARD_CTRL", 0xF0800, 0, 1, 0, 1, 4, false, 0, 3, 0, 0, 0, 0, 0, false, 0xFF0800F8, 0, [], .wo⟩,
  ⟨"GUARD_UNLOCK", 0xF0801, 0, 1, 0, 1, 4, true, 0, 2, 0, 0, 0, 0, 0, false, 0, 0, [], .wo⟩,
  ⟨"GUARD_STATE", 0xF0802, 0, 1, 0, 1, 4, false, 0x7F, 0, 0, 0, 1, 0, 0, false, 0xFFFFC000, 0, [], .ro⟩,
  ⟨"GUARD_STICKY", 0xF0803, 0, 1, 0, 1, 4, false, 0x7F, 0x1F, 0, 0, 0, 0, 0, false, 0xFFFFFE00, 0, [], .w1c⟩,
  ⟨"GUARD_FADE_IN", 0xF0804, 0, 1, 0, 1, 2, false, 0x7F, 0x17, 0, 9, 0x100, 0x40, 0x1000, false, 0, 0, [], .rw⟩,
  ⟨"GUARD_HOLD", 0xF0805, 0, 1, 0, 1, 2, false, 0x7F, 0x17, 0, 4, 0x3E8, 0x64, 0xEA60, false, 0, 0, [], .rw⟩,
  ⟨"GUARD_CLAMP_REL", 0xF0806, 0, 1, 0, 1, 7, true, 0x7F, 0x17, 0, 4, 0x42C80000, 0x41200000, 0x447A0000, false, 0, 0, [], .rw⟩,
  ⟨"GUARD_MUTED_CNT", 0xF0807, 0, 1, 0, 1, 2, false, 0x7F, 0, 0, 0, 0, 0, 0, false, 0, 0, [], .ro⟩,
  ⟨"GUARD_CNT", 0xF0810, 1, 9, 0, 1, 4, false, 0x7F, 0x1F, 0, 0, 0, 0, 0, false, 0, 0, [], .cnt0⟩,
  ⟨"GUARD_DISC_CNT", 0xF0819, 0, 1, 0, 1, 4, false, 0x7F, 0x1F, 0, 0, 0, 0, 0, false, 0, 0, [], .cnt0⟩,
  ⟨"GUARD_FUSE_RANGE", 0xF0820, 1, 16, 0, 1, 4, true, 0x7F, 2, 0, 0, 0, 0, 0, false, 0, 0, [], .rw⟩,
  ⟨"GUARD_FUSE_CEIL", 0xF0830, 1, 16, 0, 1, 3, true, 0x7F, 2, 0, 0, 0, 0xFFFFFC40, 0, false, 0, 0, [], .rw⟩,
  ⟨"FAULT_NEWEST", 0xF0900, 0, 1, 0, 1, 1, false, 0x7F, 0, 0, 0, 0xFF, 0, 0, false, 0, 0, [], .ro⟩,
  ⟨"FAULT_TOTAL", 0xF0901, 0, 1, 0, 1, 2, false, 0x7F, 0, 0, 0, 0, 0, 0, false, 0, 0, [], .ro⟩,
  ⟨"FAULT_CTRL", 0xF0902, 0, 1, 0, 1, 4, false, 0, 3, 0, 0, 0, 0, 0, false, 0xFFFFFFFE, 0, [], .wo⟩,
  ⟨"FAULT_WORD", 0xF0A00, 4, 64, 0, 1, 4, false, 0x1F, 0, 0, 0, 0, 0, 0, false, 0, 0, [], .ro⟩,
  ⟨"FAULT_INSTAR", 0xF0A01, 4, 64, 0, 1, 4, false, 0x1F, 0, 0, 0, 0, 0, 0, false, 0, 0, [], .ro⟩,
  ⟨"FAULT_DT_SEC", 0xF0A02, 4, 64, 0, 1, 4, false, 0x1F, 0, 0, 0, 0, 0, 0, false, 0, 0, [], .ro⟩,
  ⟨"FAULT_DT_NS", 0xF0A03, 4, 64, 0, 1, 4, false, 0x1F, 0, 0, 0, 0, 0, 0, false, 0, 0, [], .ro⟩,
  ⟨"GUARD_CFG", 0xF1000, 1, 1792, 0, 1, 4, false, 0x7F, 0x17, 0, 0, 0x1A9D, 0, 0, false, 0xFFFFC000, 0, [], .rw⟩,
  ⟨"GUARD_CEIL", 0xF1800, 1, 1792, 0, 1, 7, false, 0x7F, 0x17, 0, 2, 0, 0, 0, false, 0, 0, [], .rw⟩,
  ⟨"GUARD_STATUS", 0xF2000, 1, 1792, 0, 1, 2, false, 0x7F, 0, 0, 0, 0, 0, 0, false, 0xF000, 0, [], .ro⟩]

/-- Classes of the OIDs 0xF4000 to 0xF4FFF. -/
def dictTile : List ObjClass := [
  ⟨"TILE_STATE", 0xF4000, 0x40, 36, 0, 1, 8, false, 0x1F, 0, 0, 0, 0, 0, 0, false, 0, 0, ["OFF", "STOPPED", "RUNNING", "GATED", "RETIRED"], .ro⟩,
  ⟨"TILE_STICKY", 0xF4002, 0x40, 36, 0, 1, 4, false, 0x1F, 0x1F, 0, 0, 0, 0, 0, false, 0xFFFF0080, 0, [], .w1c⟩,
  ⟨"GUARD_OVF_CNT", 0xF4003, 0x40, 36, 0, 1, 4, false, 0x1F, 0x1F, 0, 0, 0, 0, 0, false, 0, 0, [], .cnt0⟩,
  ⟨"DM_CE_CNT", 0xF4004, 0x40, 36, 0, 1, 4, false, 0x1F, 0x1F, 0, 0, 0, 0, 0, false, 0, 0, [], .cnt0⟩,
  ⟨"DM_UE_CNT", 0xF4005, 0x40, 36, 0, 1, 4, false, 0x1F, 0x1F, 0, 0, 0, 0, 0, false, 0, 0, [], .cnt0⟩,
  ⟨"PM_CE_CNT", 0xF4006, 0x40, 36, 0, 1, 4, false, 0x1F, 0x1F, 0, 0, 0, 0, 0, false, 0, 0, [], .cnt0⟩,
  ⟨"PM_UE_CNT", 0xF4007, 0x40, 36, 0, 1, 4, false, 0x1F, 0x1F, 0, 0, 0, 0, 0, false, 0, 0, [], .cnt0⟩,
  ⟨"TXB_ERR_CNT", 0xF4008, 0x40, 36, 0, 1, 4, false, 0x1F, 0x1F, 0, 0, 0, 0, 0, false, 0, 0, [], .cnt0⟩,
  ⟨"GRAIN_FAIL_CNT", 0xF4009, 0x40, 36, 0, 1, 4, false, 0x1F, 0x1F, 0, 0, 0, 0, 0, false, 0, 0, [], .cnt0⟩,
  ⟨"OVF_PM_ADDR", 0xF400A, 0x40, 36, 0, 1, 2, true, 0x1F, 0, 0, 0, 0, 0, 0, false, 0, 0, [], .ro⟩,
  ⟨"OVF_INSTAR", 0xF400B, 0x40, 36, 0, 1, 4, false, 0x1F, 0, 0, 0, 0, 0, 0, false, 0, 0, [], .ro⟩,
  ⟨"OVF_LANES", 0xF400C, 0x40, 36, 0, 1, 1, true, 0x1F, 0, 0, 0, 0, 0, 0, false, 0, 0, [], .ro⟩,
  ⟨"SAT_CNT", 0xF4010, 0x40, 36, 1, 8, 4, true, 0x1F, 0x1F, 0, 0, 0, 0, 0, false, 0, 0, [], .cnt0⟩,
  ⟨"AS_GEOM", 0xF4020, 0x40, 36, 1, 16, 4, true, 0x1F, 0x1F, 0, 0, 0, 0, 0, false, 0xE0000000, 0, [], .rw⟩,
  ⟨"AS_STEPMOD", 0xF4030, 0x40, 36, 1, 16, 4, true, 0x1F, 0x1F, 0, 0, 0, 0, 0, false, 0xFFC08000, 0, [], .rw⟩,
  ⟨"TILE_STICKY_MAP_LO", 0xF4F00, 0, 1, 0, 1, 4, false, 0x1F, 0, 0, 0, 0, 0, 0, false, 0, 0, [], .ro⟩,
  ⟨"TILE_STICKY_MAP_HI", 0xF4F01, 0, 1, 0, 1, 4, false, 0x1F, 0, 0, 0, 0, 0, 0, false, 0xFFFFFFF0, 0, [], .ro⟩]

/-- Classes of the OIDs 0xF5000 to 0xF5FFF. -/
def dictImg : List ObjClass := [
  ⟨"IMG_CTRL", 0xF5000, 0, 1, 0, 1, 4, false, 0x1F, 0x17, 0, 0, 0, 0, 0, false, 0xFFFFFF00, 0, [], .rw⟩,
  ⟨"IMG_PEND_STATE", 0xF5001, 0, 1, 0, 1, 8, false, 0x1F, 0, 0, 0, 0, 0, 0, false, 0, 0, ["EMPTY", "RECEIVING", "VERIFYING", "VERIFIED", "REFUSED", "ACTIVATING"], .ro⟩,
  ⟨"IMG_WR_OFFSET", 0xF5002, 0, 1, 0, 1, 4, false, 0x1F, 0x17, 0, 0, 0, 0, 0, false, 0, 0, [], .rw⟩,
  ⟨"IMG_WR_DATA", 0xF5003, 0, 1, 0, 1, 4, false, 0, 0x17, 0, 0, 0, 0, 0, false, 0, 0, [], .wo⟩,
  ⟨"IMG_ERR_CODE", 0xF5004, 0, 1, 0, 1, 1, false, 0x1F, 0, 0, 0, 0, 0, 0, false, 0, 0, [], .ro⟩,
  ⟨"IMG_ERR_TILE", 0xF5005, 0, 1, 0, 1, 1, true, 0x1F, 0, 0, 0, 0xFF, 0, 0, false, 0, 0, [], .ro⟩,
  ⟨"IMG_ERR_LOC", 0xF5006, 0, 1, 0, 1, 4, true, 0x1F, 0, 0, 0, 0, 0, 0, false, 0, 0, [], .ro⟩,
  ⟨"IMG_ACTIVE_ID", 0xF5007, 0, 1, 0, 1, 4, false, 0x1F, 0, 0, 0, 0, 0, 0, false, 0, 0, [], .ro⟩,
  ⟨"IMG_PEND_ID", 0xF5008, 0, 1, 0, 1, 4, false, 0x1F, 0, 0, 0, 0, 0, 0, false, 0, 0, [], .ro⟩,
  ⟨"IMG_ACTIVE_FORM", 0xF5009, 0, 1, 0, 1, 4, false, 0x1F, 0, 0, 0, 0, 0, 0, false, 0xFF000000, 0, [], .ro⟩,
  ⟨"IMG_FADE_LEN", 0xF500A, 0, 1, 0, 1, 2, false, 0x1F, 0x17, 0, 0, 0x100, 0x20, 0x1000, false, 0, 0, [], .rw⟩,
  ⟨"IMG_LAST_GAP", 0xF500B, 0, 1, 0, 1, 4, false, 0x1F, 0, 0, 9, 0, 0, 0, false, 0, 0, [], .ro⟩,
  ⟨"IMG_SPARE_STATE", 0xF500C, 0, 1, 0, 1, 4, false, 0x1F, 0, 0, 0, 0, 0, 0, false, 0, 0, [], .ro⟩,
  ⟨"IMG_CHAN_RETIRED_CNT", 0xF500D, 0, 1, 0, 1, 2, false, 0x1F, 0, 0, 0, 0, 0, 0, false, 0, 0, [], .ro⟩,
  ⟨"IMG_CKPT_AGE", 0xF500E, 0, 1, 0, 1, 4, true, 0x1F, 0, 0, 0, 0, 0, 0, false, 0, 0, [], .ro⟩]

/-- Classes of the OIDs 0xF6000 to 0xF6FFF. -/
def dictMoult : List ObjClass := [
  ⟨"INSTAR", 0xF6800, 0, 1, 0, 1, 4, false, 0x7F, 0, 0, 0, 0, 0, 0, false, 0, 0, [], .ro⟩,
  ⟨"GRAIN_NUMBER", 0xF6801, 0, 1, 0, 1, 4, false, 0x7F, 0, 0, 0, 0, 0, 0, false, 0, 0, [], .ro⟩,
  ⟨"MOULT_LAST_M", 0xF6802, 0, 1, 0, 1, 4, false, 0x7F, 0, 0, 0, 0, 0, 0, false, 0, 0, [], .ro⟩,
  ⟨"MOULT_ARMED", 0xF6803, 0, 1, 0, 1, 4, false, 0x7F, 0, 0, 0, 0, 0, 0, false, 0xFFFFFC00, 0, [], .ro⟩,
  ⟨"MOULT_ARMED_INSTAR", 0xF6804, 0, 1, 0, 1, 4, false, 0x7F, 0, 0, 0, 0, 0, 0, false, 0, 0, [], .ro⟩,
  ⟨"STAGED_CNT", 0xF6805, 0, 1, 0, 1, 4, false, 0x7F, 0, 0, 0, 0, 0, 0, false, 0, 0, [], .ro⟩,
  ⟨"RAMPING_CNT", 0xF6806, 0, 1, 0, 1, 4, false, 0x7F, 0, 0, 0, 0, 0, 0, false, 0, 0, [], .ro⟩,
  ⟨"FOLDING_CNT", 0xF6807, 0, 1, 0, 1, 1, true, 0x7F, 0, 0, 0, 0, 0, 0, false, 0, 0, [], .ro⟩,
  ⟨"MOULT_CTRL", 0xF6808, 0, 1, 0, 1, 4, false, 0, 0x1F, 0, 0, 0, 0, 0, false, 0xFFFFFFF8, 0, [], .wo⟩,
  ⟨"SCENE_GO_CFG", 0xF6809, 0, 1, 0, 1, 4, false, 0x7F, 0x17, 0, 0, 0x1F4, 0, 0, false, 0xFFFE0000, 0, [], .rw⟩,
  ⟨"MOULT_STICKY", 0xF680A, 0, 1, 0, 1, 4, false, 0x7F, 0x1F, 0, 0, 0, 0, 0, false, 0xFFFFFC00, 0, [], .w1c⟩,
  ⟨"MOULT_CNT", 0xF6810, 1, 10, 0, 1, 4, false, 0x7F, 0x1F, 0, 0, 0, 0, 0, false, 0, 0, [], .cnt0⟩,
  ⟨"SESS_STAGED_CNT", 0xF6841, 1, 63, 0, 1, 4, false, 0x7F, 0, 0, 0, 0, 0, 0, false, 0, 0, [], .ro⟩,
  ⟨"PATCH_DEFER_CNT", 0xF6000, 0, 1, 0, 1, 4, false, 0x7F, 0x1F, 0, 0, 0, 0, 0, false, 0, 0, [], .cnt0⟩]

/-- Classes of the OIDs 0xF7000 to 0xF8FFF. -/
def dictDmem : List ObjClass := [
  ⟨"DMEM_STICKY", 0xF7000, 0, 1, 0, 1, 4, false, 0x7F, 0x1F, 0, 0, 0, 0, 0, false, 0xFFFFFE00, 0, [], .w1c⟩,
  ⟨"DMEM_UE_ADDR", 0xF7001, 0, 1, 0, 1, 4, true, 0x7F, 0, 0, 0, 0, 0, 0, false, 0, 0, [], .ro⟩,
  ⟨"DL_COUNT", 0xF7002, 0, 1, 0, 1, 2, false, 0x7F, 0, 0, 0, 0, 0, 0, false, 0, 0, [], .ro⟩,
  ⟨"DL_XF_LEN", 0xF7003, 0, 1, 0, 1, 2, false, 0x7F, 0x7F, 1, 9, 0x200, 0x10, 0x1000, false, 0, 0, [], .rw⟩,
  ⟨"BULK_CTRL", 0xF7004, 0, 1, 0, 1, 4, false, 0, 0x57, 0, 0, 0, 0, 0, false, 0xFFFE0000, 0, [], .wo⟩,
  ⟨"DMEM_LOAD", 0xF7005, 0, 1, 0, 1, 1, true, 0x7F, 0, 0, 12, 0, 0, 0, false, 0, 0, [], .ro⟩,
  ⟨"DMEM_CNT", 0xF7010, 1, 9, 0, 1, 4, false, 0x7F, 0x1F, 0, 0, 0, 0, 0, false, 0, 0, [], .cnt0⟩,
  ⟨"FIR_SET_LEN", 0xF7100, 1, 192, 0, 1, 2, true, 0x7F, 0x57, 0, 0, 0, 0, 0x4000, false, 0, 0, [], .rw⟩,
  ⟨"FIR_SET_STATE", 0xF7200, 1, 192, 0, 1, 1, false, 0x7F, 0, 0, 0, 0, 0, 0, false, 0xE0, 0, [], .ro⟩,
  ⟨"TABLE_STATE", 0xF72C0, 1, 16, 0, 1, 1, false, 0x7F, 0, 0, 0, 0, 0, 0, false, 0, 0, [], .ro⟩,
  ⟨"DL_FX_SAMPLES", 0xF7800, 1, 768, 0, 1, 4, true, 0x7F, 0x57, 7, 9, 0, 0, 0x3A980, false, 0, 0, [], .rw⟩,
  ⟨"DL_SAMPLES", 0xF8000, 1, 1664, 0, 1, 4, false, 0x7F, 0, 0, 9, 0xFFFFFFFF, 0, 0, false, 0, 0, [], .ro⟩,
  ⟨"FIR_CAP", 0xF8700, 1, 128, 0, 1, 2, false, 0x7F, 0, 0, 0, 0, 0, 0, false, 0, 0, [], .ro⟩]

/-- Classes of the OIDs 0xF9000 to 0xF9FFF, part 0. -/
def dictConv0 : List ObjClass := [
  ⟨"DOM_RATE_A", 0xF9000, 0, 1, 0, 1, 8, false, 0x7F, 0x17, 0, 0, 2, 0, 0, false, 0, 0, ["OFF", "44.1 kHz", "48 kHz", "88.2 kHz", "96 kHz", "176.4 kHz", "192 kHz"], .rw⟩,
  ⟨"DOM_RATE_B", 0xF9001, 0, 1, 0, 1, 8, false, 0x7F, 0x17, 0, 0, 0, 0, 0, false, 0, 0, ["OFF", "44.1 kHz", "48 kHz", "88.2 kHz", "96 kHz", "176.4 kHz", "192 kHz"], .rw⟩,
  ⟨"DOM_RATE_C", 0xF9002, 0, 1, 0, 1, 8, false, 0x7F, 0x17, 0, 0, 0, 0, 0, false, 0, 0, ["OFF", "44.1 kHz", "48 kHz", "88.2 kHz", "96 kHz", "176.4 kHz", "192 kHz"], .rw⟩,
  ⟨"DOM_PPM", 0xF9004, 1, 3, 0, 1, 5, false, 0x7F, 0, 0, 0, 0, 0, 0, false, 0, 0, [], .ro⟩,
  ⟨"PORT_DOMAIN", 0xF9010, 1, 24, 0, 1, 8, false, 0x7F, 0x17, 0, 0, 0, 0, 0, false, 0, 0, ["A", "B", "C"], .rw⟩,
  ⟨"MODCLK_CFG", 0xF9030, 1, 4, 0, 1, 4, false, 0x7F, 0x17, 0, 0, 0x3000, 0, 0, false, 0xFFFF0000, 0, [], .rw⟩,
  ⟨"NET_RX_DOMAIN", 0xF9040, 1, 128, 0, 1, 8, false, 0x7F, 0x17, 0, 0, 0, 0, 0, false, 0, 0, ["A", "B", "C"], .rw⟩,
  ⟨"NET_TX_DOMAIN", 0xF90C0, 1, 128, 0, 1, 8, false, 0x7F, 0x17, 0, 0, 0, 0, 0, false, 0, 0, ["A", "B", "C"], .rw⟩,
  ⟨"BRG_GRP_CFG", 0xF9200, 1, 16, 0, 1, 4, false, 0x7F, 0x17, 0, 0, 0, 0, 0, false, 0xFFFFFFF8, 0, [], .rw⟩,
  ⟨"BRG_GRP_STATUS", 0xF9210, 1, 16, 0, 1, 4, false, 0x7F, 0, 0, 0, 0, 0, 0, false, 0xFFE00000, 0, [], .ro⟩,
  ⟨"BRG_GRP_RATIO", 0xF9220, 1, 16, 0, 1, 4, true, 0x7F, 0, 0, 0, 0, 0, 0, false, 0, 0, [], .ro⟩,
  ⟨"BRG_GRP_DELAY", 0xF9230, 1, 16, 0, 1, 4, false, 0x7F, 0, 0, 6, 0, 0, 0, false, 0, 0, [], .ro⟩,
  ⟨"BRG_FADE_LEN", 0xF9240, 0, 1, 0, 1, 2, false, 0x7F, 0x17, 0, 9, 0x100, 0x10, 0x1000, false, 0, 0, [], .rw⟩,
  ⟨"BRG_TRACK_BW", 0xF9241, 0, 1, 0, 1, 7, true, 0x7F, 0x17, 0, 3, 0x3F800000, 0x3DCCCCCD, 0x41200000, false, 0, 0, [], .rw⟩,
  ⟨"CONV_STICKY", 0xF9242, 0, 1, 0, 1, 4, false, 0x7F, 0x1F, 0, 0, 0, 0, 0, false, 0xFFFFFF80, 0, [], .w1c⟩,
  ⟨"CONV_CNT", 0xF9250, 1, 7, 0, 1, 4, false, 0x7F, 0x1F, 0, 0, 0, 0, 0, false, 0, 0, [], .cnt0⟩,
  ⟨"BRG_FAR", 0xF9300, 1, 256, 0, 1, 2, false, 0x7F, 0x17, 0, 0, 0xFFFF, 0, 0, false, 0, 0, [], .rw⟩,
  ⟨"MOD_CFG", 0xF9400, 1, 64, 0, 1, 4, false, 0x7F, 0x17, 0, 0, 0x20, 0, 0, false, 0xFFFF8000, 0, [], .rw⟩,
  ⟨"MOD_MODI", 0xF9440, 1, 64, 0, 1, 7, false, 0x7F, 0x17, 0, 0, 0x3F000000, 0x3E99999A, 0x3F800000, false, 0, 0, [], .rw⟩,
  ⟨"MOD_STATUS", 0xF9480, 1, 64, 0, 1, 1, false, 0x7F, 0, 0, 0, 0, 0, 0, false, 0xFC, 0, [], .ro⟩,
  ⟨"AC_CFG", 0xF9500, 1, 16, 0, 1, 4, true, 0x7F, 0x17, 0, 0, 0x6A0, 0, 0, false, 0xFFFF8000, 0, [], .rw⟩,
  ⟨"AC_SRC", 0xF9510, 1, 16, 0, 1, 2, true, 0x7F, 0x17, 0, 0, 0xFFFF, 0, 0, false, 0, 0, [], .rw⟩,
  ⟨"AC_WIDX", 0xF9520, 1, 16, 0, 1, 4, true, 0x7F, 0, 0, 0, 0, 0, 0, false, 0, 0, [], .ro⟩,
  ⟨"METER_PROFILE", 0xF9600, 1, 4, 0, 1, 4, false, 0x7F, 0x17, 0, 0, 0x31, 0, 0, false, 0xFFFFFF80, 0, [], .rw⟩]

/-- Classes of the OIDs 0xF9000 to 0xF9FFF, part 1. -/
def dictConv1 : List ObjClass := [
  ⟨"DEC_SYNC_CFG", 0xF9700, 0, 1, 0, 1, 4, false, 0x7F, 0x17, 0, 0, 0xFFFFF, 0, 0, false, 0xFF800000, 0, [], .rw⟩,
  ⟨"DEC_SYNC_CMD", 0xF9701, 0, 1, 0, 1, 4, false, 0, 0x17, 0, 0, 0, 0, 0, false, 0xFFF00000, 0, [], .wo⟩]

/-- Classes of the OIDs 0xF9000 to 0xF9FFF. -/
def dictConv : List ObjClass := dictConv0 ++ dictConv1

/-- Classes of the OIDs 0xFA000 to 0xFAFFF. -/
def dictPort : List ObjClass := [
  ⟨"PORT_CTRL", 0xFA000, 0x20, 24, 0, 1, 4, false, 0, 0x17, 0, 0, 0, 0, 0, false, 0xFFFFFFFC, 0, [], .wo⟩,
  ⟨"PORT_STATE", 0xFA001, 0x20, 24, 0, 1, 8, false, 0x7F, 0, 0, 0, 0, 0, 0, false, 0, 0, ["OFF", "SEEK", "ENTER", "RUN", "RESYNC", "STARVED", "STOPPING"], .ro⟩,
  ⟨"PORT_FRAME", 0xFA002, 0x20, 24, 0, 1, 4, false, 0x7F, 0x17, 0, 0, 0xEC8, 0, 0, false, 0xFFFF8000, 0, [], .rw⟩,
  ⟨"PORT_TIMING", 0xFA003, 0x20, 24, 0, 1, 4, true, 0x7F, 0x17, 0, 0, 0, 0, 0, false, 0xFFFFFF00, 0, [], .rw⟩,
  ⟨"PORT_TIMING_SRC", 0xFA004, 0x20, 24, 0, 1, 8, true, 0x7F, 0x17, 1, 0, 0, 0, 0, false, 0, 0, ["BASIC", "EXPERT"], .rw⟩,
  ⟨"PORT_REENTRY", 0xFA005, 0x20, 24, 0, 1, 2, false, 0x7F, 0x17, 0, 0, 0x30, 8, 0x1000, false, 0, 0, [], .rw⟩,
  ⟨"PORT_ZC_TIMEOUT", 0xFA006, 0x20, 24, 0, 1, 2, false, 0x7F, 0x17, 0, 4, 0xA, 1, 0x64, false, 0, 0, [], .rw⟩,
  ⟨"PORT_FADE_LEN", 0xFA007, 0x20, 24, 0, 1, 2, false, 0x7F, 0x17, 0, 9, 0x100, 0x10, 0x1000, false, 0, 0, [], .rw⟩,
  ⟨"PORT_RATE_TOL", 0xFA008, 0x20, 24, 0, 1, 2, false, 0x7F, 0x17, 0, 7, 0x1F4, 0x32, 0x1388, false, 0, 0, [], .rw⟩,
  ⟨"PORT_TX_MASK", 0xFA009, 0x20, 24, 0, 1, 4, false, 0x7F, 0x17, 0, 0, 0xFFFFFFFF, 0, 0, false, 0, 0, [], .rw⟩,
  ⟨"PORT_ALIGN", 0xFA00A, 0x20, 24, 0, 1, 1, false, 0x7F, 0x17, 0, 0, 0xFF, 0, 0, false, 0, 0, [], .rw⟩,
  ⟨"PORT_TX_SHARE", 0xFA00B, 0x20, 24, 0, 1, 1, false, 0x7F, 0x17, 0, 0, 0xFF, 0, 0, false, 0, 0, [], .rw⟩,
  ⟨"PORT_MEAS_BPF", 0xFA00C, 0x20, 24, 0, 1, 2, true, 0x7F, 0, 0, 0, 0, 0, 0, false, 0, 0, [], .ro⟩,
  ⟨"PORT_MEAS_RATE", 0xFA00D, 0x20, 24, 0, 1, 4, false, 0x7F, 0, 0, 0, 0, 0, 0, false, 0, 0, [], .ro⟩,
  ⟨"PORT_MEAS_PHASE", 0xFA00E, 0x20, 24, 0, 1, 3, true, 0x7F, 0, 0, 0, 0, 0, 0, false, 0, 0, [], .ro⟩,
  ⟨"PORT_STICKY", 0xFA00F, 0x20, 24, 0, 1, 4, false, 0x7F, 0x1F, 0, 0, 0, 0, 0, false, 0xFFFFFF00, 0, [], .w1c⟩,
  ⟨"PORT_CNT", 0xFA010, 0x20, 24, 1, 8, 4, false, 0x7F, 0x1F, 0, 0, 0, 0, 0, false, 0, 0, [], .cnt0⟩,
  ⟨"PORT_CAUSE", 0xFA018, 0x20, 24, 0, 1, 8, false, 0x7F, 0, 0, 0, 0, 0, 0, false, 0, 0, ["NONE", "CLOCK_LOSS", "RATE", "PHASE", "FRAMING", "DOMAIN"], .ro⟩,
  ⟨"ALIGN_CTRL", 0xFA300, 0, 1, 0, 1, 4, false, 0x7F, 0x17, 0, 0, 0, 0, 0, false, 0xFFFFFF00, 0, [], .rw⟩,
  ⟨"ALIGN_MEMBERS", 0xFA301, 0, 1, 0, 1, 4, false, 0x7F, 0, 0, 0, 0, 0, 0, false, 0xFF000000, 0, [], .ro⟩,
  ⟨"TWIN_OE_STATE", 0xFA302, 0, 1, 0, 1, 1, false, 0x7F, 0, 0, 0, 0xF, 0, 0, false, 0xF0, 0, [], .ro⟩]

/-- Classes of the OIDs 0xFB000 to 0xFBFFF, part 0. -/
def dictClk0 : List ObjClass := [
  ⟨"REF_CFG", 0xFB000, 0x20, 8, 0, 1, 4, false, 0x7F, 0x17, 0, 0, 0, 0, 0, false, 0xFFFFFC00, 0, [], .rw⟩,
  ⟨"REF_QL_SW", 0xFB001, 0x20, 8, 0, 1, 1, false, 0x7F, 0x17, 0, 0, 0, 0, 0xF, false, 0, 0, [], .rw⟩,
  ⟨"REF_RANK", 0xFB002, 0x20, 8, 0, 1, 1, false, 0x7F, 0, 0, 0, 0, 0, 0, false, 0, 0, [], .ro⟩,
  ⟨"REF_STATE", 0xFB003, 0x20, 8, 0, 1, 8, false, 0x7F, 0, 0, 0, 0, 0, 0, false, 0, 0, ["DISABLED", "LOS", "QUALIFYING", "QUALIFIED", "DISQUALIFIED_FREQ", "DISQUALIFIED_DRIFT"], .ro⟩,
  ⟨"REF_OFFSET", 0xFB004, 0x20, 8, 0, 1, 5, false, 0x7F, 0, 0, 8, 0, 0, 0, false, 0, 0, [], .ro⟩,
  ⟨"REF_DRIFT", 0xFB005, 0x20, 8, 0, 1, 5, false, 0x7F, 0, 0, 15, 0, 0, 0, false, 0, 0, [], .ro⟩,
  ⟨"REF_LIMITS", 0xFB006, 0x20, 8, 0, 1, 4, false, 0x7F, 0x17, 0, 0, 0xA19032, 0, 0, false, 0xC0000000, 0, [], .rw⟩,
  ⟨"REF_DRIFT_LIM", 0xFB007, 0x20, 8, 0, 1, 4, false, 0x7F, 0x17, 0, 15, 0x3E8, 0xA, 0x186A0, false, 0, 0, [], .rw⟩,
  ⟨"REF_QUAL_TIME", 0xFB008, 0x20, 8, 0, 1, 2, false, 0x7F, 0x17, 0, 4, 0x7D0, 0x64, 0xEA60, false, 0, 0, [], .rw⟩,
  ⟨"REF_WTR", 0xFB009, 0x20, 8, 0, 1, 2, false, 0x7F, 0x17, 0, 5, 0x1E, 0, 0xE10, false, 0, 0, [], .rw⟩,
  ⟨"REF_QL_RAW", 0xFB00A, 0x20, 8, 0, 1, 2, true, 0x7F, 0, 0, 0, 0, 0, 0, false, 0, 0, [], .ro⟩,
  ⟨"REF_STICKY", 0xFB00B, 0x20, 8, 0, 1, 4, false, 0x7F, 0x1F, 0, 0, 0, 0, 0, false, 0xFFFFFF80, 0, [], .w1c⟩,
  ⟨"REF_CNT", 0xFB010, 0x20, 8, 1, 7, 4, false, 0x7F, 0x1F, 0, 0, 0, 0, 0, false, 0, 0, [], .cnt0⟩,
  ⟨"DPLL_MODE", 0xFB100, 0x40, 3, 0, 1, 8, false, 0x7F, 0x17, 0, 0, 0, 0, 0, false, 0, 0, ["AUTO", "HOLDOVER", "FREERUN"], .rw⟩,
  ⟨"DPLL_MANUAL_REF", 0xFB101, 0x40, 3, 0, 1, 8, false, 0x7F, 0x17, 0, 0, 8, 0, 0, false, 0, 0, ["REF0", "REF1", "REF2", "REF3", "REF4", "REF5", "REF6", "REF7", "NONE"], .rw⟩,
  ⟨"DPLL_FALLBACK", 0xFB102, 0x40, 3, 1, 7, 8, false, 0x7F, 0x17, 0, 0, 8, 0, 0, false, 0, 0, ["REF0", "REF1", "REF2", "REF3", "REF4", "REF5", "REF6", "REF7", "NONE"], .rw⟩,
  ⟨"DPLL_MIN_RANK", 0xFB109, 0x40, 3, 0, 1, 1, false, 0x7F, 0x17, 0, 0, 1, 0, 0xF, false, 0, 0, [], .rw⟩,
  ⟨"DPLL_TRACK_BW", 0xFB10A, 0x40, 3, 0, 1, 7, false, 0x7F, 0x17, 0, 3, 0x3F000000, 0x3D4CCCCD, 0x41A00000, false, 0, 0, [], .rw⟩,
  ⟨"DPLL_STATE", 0xFB10B, 0x40, 3, 0, 1, 8, false, 0x7F, 0, 0, 0, 0, 0, 0, false, 0, 0, ["OFF", "FREERUN", "SWITCHING", "ACQUIRE", "LOCKED", "HOLDOVER", "OPEN_LOOP"], .ro⟩,
  ⟨"DPLL_SELECTED", 0xFB10C, 0x40, 3, 0, 1, 8, false, 0x7F, 0, 0, 0, 8, 0, 0, false, 0, 0, ["REF0", "REF1", "REF2", "REF3", "REF4", "REF5", "REF6", "REF7", "NONE"], .ro⟩,
  ⟨"DPLL_RANK", 0xFB10D, 0x40, 3, 0, 1, 1, false, 0x7F, 0, 0, 0, 0, 0, 0, false, 0, 0, [], .ro⟩,
  ⟨"DPLL_PHASE_ERR", 0xFB10E, 0x40, 3, 0, 1, 5, true, 0x7F, 0, 0, 11, 0, 0, 0, false, 0, 0, [], .ro⟩,
  ⟨"DPLL_BUILDOUT", 0xFB10F, 0x40, 3, 0, 1, 5, true, 0x7F, 0, 0, 11, 0, 0, 0, false, 0, 0, [], .ro⟩,
  ⟨"DPLL_SLOPE", 0xFB110, 0x40, 3, 0, 1, 4, false, 0x7F, 0x17, 0, 14, 0x3E8, 0xA, 0x2710, false, 0, 0, [], .rw⟩]

/-- Classes of the OIDs 0xFB000 to 0xFBFFF, part 1. -/
def dictClk1 : List ObjClass := [
  ⟨"DPLL_HO_FREQ", 0xFB111, 0x40, 3, 0, 1, 5, true, 0x7F, 0, 0, 8, 0, 0, 0, false, 0, 0, [], .ro⟩,
  ⟨"DPLL_HO_HIST", 0xFB112, 0x40, 3, 0, 1, 1, false, 0x7F, 0, 0, 5, 0, 0, 0, false, 0, 0, [], .ro⟩,
  ⟨"DPLL_CTRL_SOURCE", 0xFB113, 0x40, 3, 0, 1, 8, true, 0x7F, 0x17, 1, 0, 0, 0, 0, false, 0, 0, ["BASIC", "EXPERT"], .rw⟩,
  ⟨"DPLL_DCO", 0xFB114, 0x40, 3, 0, 1, 5, true, 0x7F, 0x17, 0, 8, 0, 0xFFF0BDC0, 0xF4240, false, 0, 0, [], .rw⟩,
  ⟨"DPLL_STICKY", 0xFB115, 0x40, 3, 0, 1, 4, false, 0x7F, 0x1F, 0, 0, 0, 0, 0, false, 0xFFFFFF80, 0, [], .w1c⟩,
  ⟨"DPLL_CNT", 0xFB118, 0x40, 3, 1, 7, 4, false, 0x7F, 0x1F, 0, 0, 0, 0, 0, false, 0, 0, [], .cnt0⟩,
  ⟨"OG_CFG", 0xFB210, 0x10, 4, 0, 1, 4, false, 0x7F, 0x17, 0, 0, 0, 0, 0, false, 0xFFFFFFFC, 0, [], .rw⟩,
  ⟨"OG_SLOPE", 0xFB211, 0x10, 4, 0, 1, 4, false, 0x7F, 0x17, 0, 14, 0x3E8, 0xA, 0x2710, false, 0, 0, [], .rw⟩,
  ⟨"OG_STATE", 0xFB212, 0x10, 4, 0, 1, 8, false, 0x7F, 0, 0, 0, 0, 0, 0, false, 0, 0, ["ALIGNED", "PULLING"], .ro⟩,
  ⟨"OG_PHASE_REM", 0xFB213, 0x10, 4, 0, 1, 5, true, 0x7F, 0, 0, 11, 0, 0, 0, false, 0, 0, [], .ro⟩,
  ⟨"MCLK_CFG", 0xFB280, 1, 8, 0, 1, 4, false, 0x7F, 0x17, 0, 0, 0, 0, 0, false, 0xFFFFFFF0, 0, [], .rw⟩,
  ⟨"XO_CAL", 0xFB300, 0, 1, 0, 1, 5, true, 0x7F, 0x17, 0, 8, 0, 0xFFFCF2C0, 0x30D40, false, 0, 0, [], .rw⟩,
  ⟨"XO_STATE", 0xFB301, 0, 1, 0, 1, 8, false, 0x7F, 0, 0, 0, 0, 0, 0, false, 0, 0, ["RUNNING", "LOST"], .ro⟩]

/-- Classes of the OIDs 0xFB000 to 0xFBFFF. -/
def dictClk : List ObjClass := dictClk0 ++ dictClk1

/-- Classes of the OIDs 0xFC000 to 0xFCFFF, part 0. -/
def dictTime0 : List ObjClass := [
  ⟨"DT_SEC_HI", 0xFC000, 0, 1, 0, 1, 2, false, 0x7F, 0, 0, 0, 0, 0, 0, false, 0, 0, [], .ro⟩,
  ⟨"DT_SEC_LO", 0xFC001, 0, 1, 0, 1, 4, false, 0x7F, 0, 0, 0, 0, 0, 0, false, 0, 0, [], .ro⟩,
  ⟨"DT_NS", 0xFC002, 0, 1, 0, 1, 4, false, 0x7F, 0, 0, 0, 0, 0, 0, false, 0, 0, [], .ro⟩,
  ⟨"DT_FRAC", 0xFC003, 0, 1, 0, 1, 2, true, 0x7F, 0, 0, 0, 0, 0, 0, false, 0, 0, [], .ro⟩,
  ⟨"TIME_CTRL", 0xFC004, 0, 1, 0, 1, 4, false, 0, 0x17, 0, 0, 0, 0, 0, false, 0xFFFFFFFC, 0, [], .wo⟩,
  ⟨"TIME_SET_SEC_HI", 0xFC005, 0, 1, 0, 1, 2, false, 0x7F, 0x17, 0, 0, 0, 0, 0, false, 0, 0, [], .rw⟩,
  ⟨"TIME_SET_SEC_LO", 0xFC006, 0, 1, 0, 1, 4, false, 0x7F, 0x17, 0, 0, 0, 0, 0, false, 0, 0, [], .rw⟩,
  ⟨"TIME_SET_NS", 0xFC007, 0, 1, 0, 1, 4, false, 0x7F, 0x17, 0, 0, 0, 0, 0x3B9AC9FF, false, 0, 0, [], .rw⟩,
  ⟨"TIME_ADJ_NS", 0xFC008, 0, 1, 0, 1, 5, false, 0x7F, 0x17, 0, 6, 0, 0xC4653600, 0x3B9ACA00, false, 0, 0, [], .rw⟩,
  ⟨"SERVO_CFG", 0xFC009, 0, 1, 0, 1, 4, false, 0x7F, 0x17, 0, 0, 1, 0, 0, false, 0xFFFFFFC0, 0, [], .rw⟩,
  ⟨"SERVO_STATE", 0xFC00A, 0, 1, 0, 1, 8, false, 0x7F, 0, 0, 0, 0, 0, 0, false, 0, 0, ["FREE", "ACQUIRE", "LOCKED", "HOLDOVER"], .ro⟩,
  ⟨"SERVO_OFFSET", 0xFC00B, 0, 1, 0, 1, 5, false, 0x7F, 0, 0, 6, 0, 0, 0, false, 0, 0, [], .ro⟩,
  ⟨"SERVO_FREQ", 0xFC00C, 0, 1, 0, 1, 5, true, 0x7F, 0, 0, 8, 0, 0, 0, false, 0, 0, [], .ro⟩,
  ⟨"SERVO_BW", 0xFC00D, 0, 1, 0, 1, 7, true, 0x7F, 0x17, 0, 3, 0x3DCCCCCD, 0x3C23D70A, 0x3F800000, false, 0, 0, [], .rw⟩,
  ⟨"SERVO_STEP_NS", 0xFC00E, 0, 1, 0, 1, 4, true, 0x7F, 0x17, 0, 6, 0x2710, 0x3E8, 0x3B9ACA00, false, 0, 0, [], .rw⟩,
  ⟨"PPS_QUALITY", 0xFC00F, 0, 1, 0, 1, 2, true, 0x7F, 0x17, 0, 0, 0xF8FE, 0, 0, false, 0, 0, [], .rw⟩,
  ⟨"PTP_CFG", 0xFC010, 0, 1, 0, 1, 4, false, 0x7F, 0x17, 0, 0, 0x4802, 0, 0, false, 0xFFFF8000, 0, [], .rw⟩,
  ⟨"PTP_PRIORITY", 0xFC011, 0, 1, 0, 1, 2, false, 0x7F, 0x17, 0, 0, 0x8080, 0, 0, false, 0, 0, [], .rw⟩,
  ⟨"PTP_PORT_STATE", 0xFC012, 0, 1, 0, 1, 1, false, 0x7F, 0, 0, 0, 0x33, 0, 0, false, 0, 0, [], .ro⟩,
  ⟨"PTP_PARENT_ID_HI", 0xFC013, 0, 1, 0, 1, 4, false, 0x7F, 0, 0, 0, 0, 0, 0, false, 0, 0, [], .ro⟩,
  ⟨"PTP_PARENT_ID_LO", 0xFC014, 0, 1, 0, 1, 4, false, 0x7F, 0, 0, 0, 0, 0, 0, false, 0, 0, [], .ro⟩,
  ⟨"PTP_PARENT_QUALITY", 0xFC015, 0, 1, 0, 1, 4, false, 0x7F, 0, 0, 0, 0, 0, 0, false, 0, 0, [], .ro⟩,
  ⟨"PTP_PATH_DELAY", 0xFC016, 0, 1, 0, 1, 4, false, 0x7F, 0, 0, 6, 0, 0, 0, false, 0, 0, [], .ro⟩,
  ⟨"PTP_UTC_OFFSET", 0xFC017, 0, 1, 0, 1, 3, false, 0x7F, 0, 0, 0, 0, 0, 0, false, 0, 0, [], .ro⟩]

/-- Classes of the OIDs 0xFC000 to 0xFCFFF, part 1. -/
def dictTime1 : List ObjClass := [
  ⟨"TS_ASYM", 0xFC018, 1, 4, 0, 1, 5, true, 0x7F, 0x17, 0, 11, 0, 0xFFFE7960, 0x186A0, false, 0, 0, [], .rw⟩,
  ⟨"TIME_GB_SEC_HI", 0xFC020, 0, 1, 0, 1, 2, false, 0x7F, 0, 0, 0, 0, 0, 0, false, 0, 0, [], .ro⟩,
  ⟨"TIME_GB_SEC_LO", 0xFC021, 0, 1, 0, 1, 4, false, 0x7F, 0, 0, 0, 0, 0, 0, false, 0, 0, [], .ro⟩,
  ⟨"TIME_GB_NS", 0xFC022, 0, 1, 0, 1, 4, false, 0x7F, 0, 0, 0, 0, 0, 0, false, 0, 0, [], .ro⟩,
  ⟨"TIME_GB_GN", 0xFC023, 0, 1, 0, 1, 4, false, 0x7F, 0, 0, 0, 0, 0, 0, false, 0, 0, [], .ro⟩,
  ⟨"GRAIN_ALIGNED", 0xFC024, 0, 1, 0, 1, 0, false, 0x7F, 0, 0, 0, 0, 0, 0, false, 0, 0, [], .ro⟩,
  ⟨"GPIO_TIME_OUT", 0xFC025, 0, 1, 0, 1, 4, false, 0x7F, 0x17, 0, 0, 0, 0, 0, false, 0, 0, [], .rw⟩,
  ⟨"TIME_STICKY", 0xFC026, 0, 1, 0, 1, 4, false, 0x7F, 0x1F, 0, 0, 0, 0, 0, false, 0xFFFFFFF0, 0, [], .w1c⟩,
  ⟨"TIME_CNT", 0xFC030, 1, 4, 0, 1, 4, false, 0x7F, 0x1F, 0, 0, 0, 0, 0, false, 0, 0, [], .cnt0⟩,
  ⟨"TA_DUE_SEC_HI", 0xFC800, 0x10, 128, 0, 1, 2, false, 0x7F, 0x17, 0, 0, 0, 0, 0, false, 0, 0, [], .rw⟩,
  ⟨"TA_DUE_SEC_LO", 0xFC801, 0x10, 128, 0, 1, 4, false, 0x7F, 0x17, 0, 0, 0, 0, 0, false, 0, 0, [], .rw⟩,
  ⟨"TA_DUE_NS", 0xFC802, 0x10, 128, 0, 1, 4, false, 0x7F, 0x17, 0, 0, 0, 0, 0x3B9AC9FF, false, 0, 0, [], .rw⟩,
  ⟨"TA_CFG", 0xFC803, 0x10, 128, 0, 1, 4, false, 0x7F, 0x17, 0, 0, 0, 0, 0, false, 0xFFFFFFC0, 0, [], .rw⟩,
  ⟨"TA_ARG", 0xFC804, 0x10, 128, 0, 1, 4, false, 0x7F, 0x17, 0, 0, 0, 0, 0, false, 0, 0, [], .rw⟩,
  ⟨"TA_PERIOD", 0xFC805, 0x10, 128, 0, 1, 4, false, 0x7F, 0x17, 0, 6, 0, 0, 0, false, 0, 0, [], .rw⟩,
  ⟨"TA_WIDTH", 0xFC806, 0x10, 128, 0, 1, 4, false, 0x7F, 0x17, 0, 6, 0x3E8, 0, 0, false, 0, 0, [], .rw⟩,
  ⟨"TA_STATUS", 0xFC807, 0x10, 128, 0, 1, 1, false, 0x7F, 0x1F, 0, 0, 0, 0, 0, false, 0xE0, 0, [], .rw⟩,
  ⟨"TA_FIRE_CNT", 0xFC808, 0x10, 128, 0, 1, 4, false, 0x7F, 0x1F, 0, 0, 0, 0, 0, false, 0, 0, [], .cnt0⟩,
  ⟨"TA_LATE_CNT", 0xFC809, 0x10, 128, 0, 1, 4, false, 0x7F, 0x1F, 0, 0, 0, 0, 0, false, 0, 0, [], .cnt0⟩,
  ⟨"TA_MISSED_CNT", 0xFC80A, 0x10, 128, 0, 1, 4, false, 0x7F, 0x1F, 0, 0, 0, 0, 0, false, 0, 0, [], .cnt0⟩,
  ⟨"TA_IDLE_CNT", 0xFC80B, 0x10, 128, 0, 1, 4, false, 0x7F, 0x1F, 0, 0, 0, 0, 0, false, 0, 0, [], .cnt0⟩,
  ⟨"CAP_CFG", 0xFC400, 0x10, 16, 0, 1, 4, false, 0x7F, 0x17, 0, 0, 0, 0, 0, false, 0xFFFFFE00, 0, [], .rw⟩,
  ⟨"CAP_SEQ", 0xFC401, 0x10, 16, 0, 1, 4, false, 0x7F, 0, 0, 0, 0, 0, 0, false, 0, 0, [], .ro⟩,
  ⟨"CAP_SEC_HI", 0xFC402, 0x10, 16, 0, 1, 2, false, 0x7F, 0, 0, 0, 0, 0, 0, false, 0, 0, [], .ro⟩]

/-- Classes of the OIDs 0xFC000 to 0xFCFFF, part 2. -/
def dictTime2 : List ObjClass := [
  ⟨"CAP_SEC_LO", 0xFC403, 0x10, 16, 0, 1, 4, false, 0x7F, 0, 0, 0, 0, 0, 0, false, 0, 0, [], .ro⟩,
  ⟨"CAP_NS", 0xFC404, 0x10, 16, 0, 1, 4, false, 0x7F, 0, 0, 0, 0, 0, 0, false, 0, 0, [], .ro⟩,
  ⟨"CAP_FRAC", 0xFC405, 0x10, 16, 0, 1, 2, false, 0x7F, 0, 0, 0, 0, 0, 0, false, 0, 0, [], .ro⟩,
  ⟨"CAP_STICKY", 0xFC406, 0x10, 16, 0, 1, 1, false, 0x7F, 0x1F, 0, 0, 0, 0, 0, false, 0xFE, 0, [], .w1c⟩,
  ⟨"CAP_OVR_CNT", 0xFC407, 0x10, 16, 0, 1, 4, false, 0x7F, 0x1F, 0, 0, 0, 0, 0, false, 0, 0, [], .cnt0⟩]

/-- Classes of the OIDs 0xFC000 to 0xFCFFF. -/
def dictTime : List ObjClass := dictTime0 ++ dictTime1 ++ dictTime2

/-- Classes of the OIDs 0xFD000 to 0xFE7FF, part 0. -/
def dictNet0 : List ObjClass := [
  ⟨"LANE_CFG", 0xFD000, 0x40, 4, 0, 1, 4, false, 0x7F, 0x17, 0, 0, 0, 0, 0, false, 0xFFFFFF80, 0, [], .rw⟩,
  ⟨"LANE_STATE", 0xFD001, 0x40, 4, 0, 1, 8, false, 0x7F, 0, 0, 0, 0, 0, 0, false, 0, 0, ["OFF", "DOWN", "UP"], .ro⟩,
  ⟨"LANE_MAC_HI", 0xFD002, 0x40, 4, 0, 1, 2, false, 0x7F, 0x17, 0, 0, 0, 0, 0, false, 0, 0, [], .rw⟩,
  ⟨"LANE_MAC_LO", 0xFD003, 0x40, 4, 0, 1, 4, false, 0x7F, 0x17, 0, 0, 0, 0, 0, false, 0, 0, [], .rw⟩,
  ⟨"LANE_IPV4", 0xFD004, 0x40, 4, 0, 1, 4, false, 0x7F, 0x17, 0, 0, 0, 0, 0, false, 0, 0, [], .rw⟩,
  ⟨"LANE_NETMASK", 0xFD005, 0x40, 4, 0, 1, 4, false, 0x7F, 0x17, 0, 0, 0, 0, 0, false, 0, 0, [], .rw⟩,
  ⟨"LANE_GATEWAY", 0xFD006, 0x40, 4, 0, 1, 4, false, 0x7F, 0x17, 0, 0, 0, 0, 0, false, 0, 0, [], .rw⟩,
  ⟨"LANE_STICKY", 0xFD007, 0x40, 4, 0, 1, 4, false, 0x7F, 0x1F, 0, 0, 0, 0, 0, false, 0xFFFFFF00, 0, [], .w1c⟩,
  ⟨"LANE_CNT", 0xFD010, 0x40, 4, 1, 8, 4, false, 0x7F, 0x1F, 0, 0, 0, 0, 0, false, 0, 0, [], .cnt0⟩,
  ⟨"LANE_RX_FRAMES", 0xFD018, 0x40, 4, 0, 1, 4, false, 0x7F, 0x1F, 0, 0, 0, 0, 0, false, 0, 0, [], .cnt0⟩,
  ⟨"LANE_TX_FRAMES", 0xFD019, 0x40, 4, 0, 1, 4, false, 0x7F, 0x1F, 0, 0, 0, 0, 0, false, 0, 0, [], .cnt0⟩,
  ⟨"LANE_QDROP", 0xFD020, 0x40, 4, 1, 8, 4, false, 0x7F, 0x1F, 0, 0, 0, 0, 0, false, 0, 0, [], .cnt0⟩,
  ⟨"BRIDGE_MODE", 0xFD100, 0, 1, 0, 1, 8, false, 0x7F, 0x17, 0, 0, 0, 0, 0, false, 0, 0, ["SPLIT", "CHAIN", "RING"], .rw⟩,
  ⟨"BRIDGE_AGEING", 0xFD101, 0, 1, 0, 1, 4, false, 0x7F, 0x17, 0, 5, 0x12C, 0xA, 0xF4240, false, 0, 0, [], .rw⟩,
  ⟨"NET_PCP_TC", 0xFD102, 0, 1, 0, 1, 4, false, 0x7F, 0x17, 0, 0, 0xFAC688, 0, 0, false, 0xFF000000, 0, [], .rw⟩,
  ⟨"NET_TC_ROLES", 0xFD103, 0, 1, 0, 1, 4, false, 0x7F, 0x17, 0, 0, 0x17E, 0, 0, false, 0xFFFFF000, 0, [], .rw⟩,
  ⟨"NET_CUT_MASK", 0xFD104, 0, 1, 0, 1, 1, true, 0x7F, 0x17, 0, 0, 0xFF, 0, 0, false, 0, 0, [], .rw⟩,
  ⟨"NET_PAUSE_IMMUNE", 0xFD105, 0, 1, 0, 1, 1, false, 0x7F, 0x17, 0, 0, 0xC0, 0, 0, false, 0, 0, [], .rw⟩,
  ⟨"NET_FCP_PORT", 0xFD106, 0, 1, 0, 1, 2, false, 0x7F, 0x17, 0, 0, 0x12FC, 0x400, 0xFFFF, false, 0, 0, [], .rw⟩,
  ⟨"NET_FCP_INBAND", 0xFD107, 0, 1, 0, 1, 4, false, 0x7F, 7, 0, 0, 0, 0, 0, false, 0xFFFFE000, 0, [], .rw⟩,
  ⟨"NET_CLAIM_EXT_ID", 0xFD108, 0, 1, 0, 1, 1, true, 0x7F, 0x17, 0, 0, 5, 1, 0xE, false, 0, 0, [], .rw⟩,
  ⟨"NET_FADE_LEN", 0xFD109, 0, 1, 0, 1, 2, false, 0x7F, 0x17, 0, 9, 0x40, 0x10, 0x1000, false, 0, 0, [], .rw⟩,
  ⟨"NET_HOST_FILTER", 0xFD10A, 1, 4, 0, 1, 4, false, 0x7F, 0x17, 0, 0, 0, 0, 0, false, 0x7FF00000, 0, [], .rw⟩,
  ⟨"NET_DSCP_TC", 0xFD110, 1, 8, 0, 1, 4, false, 0x7F, 0x17, 0, 0, 0, 0, 0, false, 0xFF000000, 0, [], .rw⟩]

/-- Classes of the OIDs 0xFD000 to 0xFE7FF, part 1. -/
def dictNet1 : List ObjClass := [
  ⟨"GCL_CTRL", 0xFD120, 0x10, 2, 0, 1, 4, false, 0x7F, 0x17, 0, 0, 4, 0, 0, false, 0xFFFFF000, 0, [], .rw⟩,
  ⟨"GCL_ADMIN_CYCLE", 0xFD121, 0x10, 2, 0, 1, 4, false, 0x7F, 0x17, 0, 6, 0xF4240, 0, 0, false, 0, 0, [], .rw⟩,
  ⟨"GCL_ADMIN_BASE_SEC_HI", 0xFD122, 0x10, 2, 0, 1, 2, false, 0x7F, 0x17, 0, 0, 0, 0, 0, false, 0, 0, [], .rw⟩,
  ⟨"GCL_ADMIN_BASE_SEC_LO", 0xFD123, 0x10, 2, 0, 1, 4, false, 0x7F, 0x17, 0, 0, 0, 0, 0, false, 0, 0, [], .rw⟩,
  ⟨"GCL_ADMIN_BASE_NS", 0xFD124, 0x10, 2, 0, 1, 4, false, 0x7F, 0x17, 0, 0, 0, 0, 0, false, 0, 0, [], .rw⟩,
  ⟨"GCL_OPER_LEN", 0xFD125, 0x10, 2, 0, 1, 2, false, 0x7F, 0, 0, 0, 0, 0, 0, false, 0, 0, [], .ro⟩,
  ⟨"GCL_OPER_CYCLE", 0xFD126, 0x10, 2, 0, 1, 4, false, 0x7F, 0, 0, 6, 0, 0, 0, false, 0, 0, [], .ro⟩,
  ⟨"GCL_CHANGE_SEC_LO", 0xFD127, 0x10, 2, 0, 1, 4, false, 0x7F, 0, 0, 0, 0, 0, 0, false, 0, 0, [], .ro⟩,
  ⟨"GCL_CHANGE_NS", 0xFD128, 0x10, 2, 0, 1, 4, false, 0x7F, 0, 0, 0, 0, 0, 0, false, 0, 0, [], .ro⟩,
  ⟨"NET_SHAPER", 0xFD140, 0x10, 2, 1, 8, 4, false, 0x7F, 0x17, 0, 0, 0, 0, 0, false, 0x7F000000, 0, [], .rw⟩,
  ⟨"NET_FDB_LO", 0xFD200, 2, 128, 0, 1, 4, false, 0x7F, 0x17, 0, 0, 0, 0, 0, false, 0, 0, [], .rw⟩,
  ⟨"NET_FDB_HI", 0xFD201, 2, 128, 0, 1, 4, false, 0x7F, 0x17, 0, 0, 0, 0, 0, false, 0, 0, [], .rw⟩,
  ⟨"NET_RX_CFG", 0xFD800, 0x10, 128, 0, 1, 4, false, 0x7F, 0x17, 0, 0, 0, 0, 0, false, 0xC0000000, 0, [], .rw⟩,
  ⟨"NET_RX_MATCH_LO", 0xFD801, 0x10, 128, 0, 1, 4, false, 0x7F, 0x17, 0, 0, 0, 0, 0, false, 0, 0, [], .rw⟩,
  ⟨"NET_RX_MATCH_HI", 0xFD802, 0x10, 128, 0, 1, 4, false, 0x7F, 0x17, 0, 0, 0, 0, 0, false, 0, 0, [], .rw⟩,
  ⟨"NET_RX_SRC_A", 0xFD803, 0x10, 128, 0, 1, 4, false, 0x7F, 0x17, 0, 0, 0, 0, 0, false, 0, 0, [], .rw⟩,
  ⟨"NET_RX_SRC_B", 0xFD804, 0x10, 128, 0, 1, 4, false, 0x7F, 0x17, 0, 0, 0, 0, 0, false, 0, 0, [], .rw⟩,
  ⟨"NET_RX_PRES_OFFSET", 0xFD805, 0x10, 128, 0, 1, 2, false, 0x7F, 0x17, 0, 9, 0x30, 4, 0x3E8, false, 0, 0, [], .rw⟩,
  ⟨"NET_RX_TS_OFFSET", 0xFD806, 0x10, 128, 0, 1, 4, false, 0x7F, 0x17, 0, 0, 0, 0, 0, false, 0, 0, [], .rw⟩,
  ⟨"NET_RX_STATUS", 0xFD807, 0x10, 128, 0, 1, 4, false, 0x7F, 0, 0, 0, 0, 0, 0, false, 0xE0, 0, [], .ro⟩,
  ⟨"NET_RX_STICKY", 0xFD808, 0x10, 128, 0, 1, 4, false, 0x7F, 0x1F, 0, 0, 0, 0, 0, false, 0xFFFFFF80, 0, [], .w1c⟩,
  ⟨"NET_RX_CNT", 0xFD809, 0x10, 128, 1, 7, 4, false, 0x7F, 0x1F, 0, 0, 0, 0, 0, false, 0, 0, [], .cnt0⟩,
  ⟨"NET_TX_CFG", 0xFE000, 8, 128, 0, 1, 4, false, 0x7F, 0x17, 0, 0, 0, 0, 0, false, 0xC0000000, 0, [], .rw⟩,
  ⟨"NET_TX_DEST", 0xFE001, 8, 128, 0, 1, 4, false, 0x7F, 0x17, 0, 0, 0, 0, 0, false, 0, 0, [], .rw⟩]

/-- Classes of the OIDs 0xFD000 to 0xFE7FF, part 2. -/
def dictNet2 : List ObjClass := [
  ⟨"NET_TX_PORT", 0xFE002, 8, 128, 0, 1, 4, false, 0x7F, 0x17, 0, 0, 0x22138C, 0, 0, false, 0xFFC00000, 0, [], .rw⟩,
  ⟨"NET_TX_VLAN", 0xFE003, 8, 128, 0, 1, 2, false, 0x7F, 0x17, 0, 0, 0, 0, 0, false, 0, 0, [], .rw⟩,
  ⟨"NET_TX_SSRC", 0xFE004, 8, 128, 0, 1, 4, false, 0x7F, 0x17, 0, 0, 0, 0, 0, false, 0, 0, [], .rw⟩,
  ⟨"NET_TX_TS_OFFSET", 0xFE005, 8, 128, 0, 1, 4, false, 0x7F, 0x17, 0, 6, 0, 0, 0, false, 0, 0, [], .rw⟩,
  ⟨"NET_TX_FRAMES", 0xFE006, 8, 128, 0, 1, 1, false, 0x7F, 0x17, 0, 0, 0x30, 1, 0xC0, false, 0, 0, [], .rw⟩,
  ⟨"NET_TX_STATE", 0xFE007, 8, 128, 0, 1, 8, false, 0x7F, 0, 0, 0, 0, 0, 0, false, 0, 0, ["OFF", "WAIT", "RUN", "HELD"], .ro⟩,
  ⟨"GCL_ADMIN", 0xFD400, 0x100, 2, 1, 256, 4, false, 0x7F, 0x17, 0, 0, 0xF4240FF, 0, 0, false, 0, 0, [], .rw⟩,
  ⟨"GCL_OPER", 0xFD600, 0x100, 2, 1, 256, 4, false, 0x7F, 0, 0, 0, 0, 0, 0, false, 0, 0, [], .ro⟩]

/-- Classes of the OIDs 0xFD000 to 0xFE7FF. -/
def dictNet : List ObjClass := dictNet0 ++ dictNet1 ++ dictNet2

/-- Classes of the OIDs 0xFE800 to 0xFEBFF. -/
def dictHost : List ObjClass := [
  ⟨"PCIE_STATUS", 0xFE800, 0, 1, 0, 1, 4, false, 0x7F, 0, 0, 0, 0, 0, 0, false, 0xFFFFFFE0, 0, [], .ro⟩,
  ⟨"PCIE_SUBSYS", 0xFE801, 0, 1, 0, 1, 4, false, 0x7F, 3, 0, 0, 0, 0, 0, false, 0, 0, [], .rw⟩,
  ⟨"HOST_STICKY", 0xFE802, 0, 1, 0, 1, 4, false, 0x7F, 0x1F, 0, 0, 0, 0, 0, false, 0xFFFFFF80, 0, [], .w1c⟩,
  ⟨"HOST_CNT", 0xFE808, 1, 7, 0, 1, 4, false, 0x7F, 0x1F, 0, 0, 0, 0, 0, false, 0, 0, [], .cnt0⟩,
  ⟨"BUS_PRI", 0xFE810, 1, 10, 0, 1, 4, true, 0x7F, 3, 0, 0, 0, 0, 0, false, 0, 0, [], .rw⟩,
  ⟨"BUS_AGE_LIMIT", 0xFE81A, 0, 1, 0, 1, 2, true, 0x7F, 3, 0, 0, 0x400, 0x40, 0xFFFF, false, 0, 0, [], .rw⟩,
  ⟨"BUS_ERR_TOTAL", 0xFE81B, 0, 1, 0, 1, 4, false, 0x7F, 0x1F, 0, 0, 0, 0, 0, false, 0, 0, [], .cnt0⟩,
  ⟨"BUS_ERR_NEWEST", 0xFE81C, 0, 1, 0, 1, 1, false, 0x7F, 0, 0, 0, 0xFF, 0, 0, false, 0, 0, [], .ro⟩,
  ⟨"BUS_ERR_CTRL", 0xFE81D, 0, 1, 0, 1, 4, false, 0, 0x1F, 0, 0, 0, 0, 0, false, 0xFFFFFFFE, 0, [], .wo⟩,
  ⟨"BUSERR_ADDR", 0xFE820, 4, 16, 0, 1, 4, false, 0x1F, 0, 0, 0, 0, 0, 0, false, 0, 0, [], .ro⟩,
  ⟨"BUSERR_INFO", 0xFE821, 4, 16, 0, 1, 4, false, 0x1F, 0, 0, 0, 0, 0, 0, false, 0xC000, 0, [], .ro⟩,
  ⟨"BUSERR_DT_SEC", 0xFE822, 4, 16, 0, 1, 4, false, 0x1F, 0, 0, 0, 0, 0, 0, false, 0, 0, [], .ro⟩,
  ⟨"BUSERR_DT_NS", 0xFE823, 4, 16, 0, 1, 4, false, 0x1F, 0, 0, 0, 0, 0, 0, false, 0, 0, [], .ro⟩]

/-- Classes of the OIDs 0xFEC00 to 0xFEFFF. -/
def dictTwin : List ObjClass := [
  ⟨"TWIN_CFG", 0xFEC00, 0, 1, 0, 1, 4, false, 0x7F, 0x17, 0, 0, 0x80104, 0, 0, false, 0xFFF000E0, 0, [], .rw⟩,
  ⟨"TWIN_CTRL", 0xFEC01, 0, 1, 0, 1, 4, false, 0, 0x17, 0, 0, 0, 0, 0, false, 0xFFFFFFF8, 0, [], .wo⟩,
  ⟨"TWIN_STATE", 0xFEC02, 0, 1, 0, 1, 8, false, 0x7F, 0, 0, 0, 0, 0, 0, false, 0, 0, ["OFF", "SOLO", "ACTIVE", "RECEIVING", "CONVERGING", "STANDBY", "ISOLATED", "FAILED"], .ro⟩,
  ⟨"TWIN_STATUS", 0xFEC03, 0, 1, 0, 1, 4, false, 0x7F, 0, 0, 0, 0, 0, 0, false, 0xFFFFFF80, 0, [], .ro⟩,
  ⟨"TWIN_CLAIM", 0xFEC04, 0, 1, 0, 1, 4, false, 0x7F, 0, 0, 0, 0, 0, 0, false, 0xFF000000, 0, [], .ro⟩,
  ⟨"TWIN_PEER_CLAIM", 0xFEC05, 0, 1, 0, 1, 4, false, 0x7F, 0, 0, 0, 0, 0, 0, false, 0, 0, [], .ro⟩,
  ⟨"TWIN_WTR", 0xFEC06, 0, 1, 0, 1, 2, false, 0x7F, 0x17, 0, 5, 0xA, 0, 0xE10, false, 0, 0, [], .rw⟩,
  ⟨"TWIN_WTR_REM", 0xFEC07, 0, 1, 0, 1, 2, false, 0x7F, 0, 0, 5, 0, 0, 0, false, 0, 0, [], .ro⟩,
  ⟨"TWIN_SYNC_GRAINS", 0xFEC08, 0, 1, 0, 1, 4, false, 0x7F, 0x17, 0, 0, 0x2EE0, 0x64, 0xF4240, false, 0, 0, [], .rw⟩,
  ⟨"TWIN_CONV_LIMIT", 0xFEC09, 0, 1, 0, 1, 2, false, 0x7F, 0x17, 0, 5, 0xA, 1, 0x258, false, 0, 0, [], .rw⟩,
  ⟨"TWIN_ALT_WAIT", 0xFEC0A, 0, 1, 0, 1, 2, false, 0x7F, 0x17, 0, 4, 0x14, 2, 0x3E8, false, 0, 0, [], .rw⟩,
  ⟨"TWIN_COPY_SIZE", 0xFEC0B, 0, 1, 0, 1, 4, false, 0x7F, 0, 0, 0, 0, 0, 0, false, 0, 0, [], .ro⟩,
  ⟨"TWIN_COPY_PROG", 0xFEC0C, 0, 1, 0, 1, 4, false, 0x7F, 0, 0, 0, 0, 0, 0, false, 0, 0, [], .ro⟩,
  ⟨"TWIN_OFFSET", 0xFEC0D, 0, 1, 0, 1, 5, true, 0x7F, 0, 0, 11, 0, 0, 0, false, 0, 0, [], .ro⟩,
  ⟨"TWIN_LAST_CAUSE", 0xFEC0E, 0, 1, 0, 1, 8, false, 0x7F, 0, 0, 0, 0, 0, 0, false, 0, 0, ["NONE", "FAIL", "BEACON", "ALT", "PLANNED", "NOT_SYNCED", "PARTIAL"], .ro⟩,
  ⟨"TWIN_STICKY", 0xFEC0F, 0, 1, 0, 1, 4, false, 0x7F, 0x1F, 0, 0, 0, 0, 0, false, 0xFFFFFE00, 0, [], .w1c⟩,
  ⟨"TWIN_CNT", 0xFEC10, 1, 9, 0, 1, 4, false, 0x7F, 0x1F, 0, 0, 0, 0, 0, false, 0, 0, [], .cnt0⟩,
  ⟨"TWIN_SIG_RUN", 0xFEC19, 0, 1, 0, 1, 4, true, 0x7F, 0, 0, 0, 0, 0, 0, false, 0, 0, [], .ro⟩]

/-- Classes of the OIDs 0xFF000 to 0xFF3FF. -/
def dictPwr : List ObjClass := [
  ⟨"PWR_STATE", 0xFF000, 0, 1, 0, 1, 8, false, 0x7F, 0, 0, 0, 2, 0, 0, false, 0, 0, ["STANDBY", "WAKING", "ECLOSION", "RUN", "RECOVERY"], .ro⟩,
  ⟨"PWR_CTRL", 0xFF001, 0, 1, 0, 1, 4, false, 0, 3, 0, 0, 0, 0, 0, false, 0xFFFFFFF0, 0, [], .wo⟩,
  ⟨"PWR_DOMAINS", 0xFF002, 0, 1, 0, 1, 4, false, 0x7F, 0, 0, 0, 0xFFF, 0, 0, false, 0xFFFFF000, 0, [], .ro⟩,
  ⟨"PWR_QUAD_STATE", 0xFF003, 0, 1, 0, 1, 4, false, 0x7F, 0, 0, 0, 0, 0, 0, false, 0xFC, 0, [], .ro⟩,
  ⟨"PWR_QGATE_EN", 0xFF004, 0, 1, 0, 1, 1, false, 0x7F, 0x17, 0, 0, 0xF, 0, 0, false, 0xF0, 0, [], .rw⟩,
  ⟨"PWR_QGATE_MIN_RUN", 0xFF005, 0, 1, 0, 1, 2, false, 0x7F, 0x17, 0, 4, 0x64, 0xA, 0xEA60, false, 0, 0, [], .rw⟩,
  ⟨"PWR_AUTOSTART", 0xFF006, 0, 1, 0, 1, 4, false, 0x7F, 0x17, 0, 0, 0xFFFFFF, 0, 0, false, 0xFF000000, 0, [], .rw⟩,
  ⟨"PWR_BOOT_CLK_WAIT", 0xFF007, 0, 1, 0, 1, 2, true, 0x7F, 0x17, 0, 4, 0x1F4, 0, 0x2710, false, 0, 0, [], .rw⟩,
  ⟨"PWR_BOOT_QUAL", 0xFF008, 0, 1, 0, 1, 2, true, 0x7F, 0x17, 0, 4, 0xC8, 0x64, 0x7D0, false, 0, 0, [], .rw⟩,
  ⟨"PWR_BOOT_INFO", 0xFF009, 0, 1, 0, 1, 4, false, 0x7F, 0, 0, 0, 0, 0, 0, false, 0xFFF00000, 0, [], .ro⟩,
  ⟨"PWR_BOOT_TIME", 0xFF00A, 0, 1, 0, 1, 4, false, 0x7F, 0, 0, 4, 0, 0, 0, false, 0, 0, [], .ro⟩,
  ⟨"PWR_STICKY", 0xFF00B, 0, 1, 0, 1, 4, false, 0x7F, 0x1F, 0, 0, 0, 0, 0, false, 0xFFFFFF80, 0, [], .w1c⟩,
  ⟨"PWR_CNT", 0xFF010, 1, 7, 0, 1, 4, false, 0x7F, 0x1F, 0, 0, 0, 0, 0, false, 0, 0, [], .cnt0⟩,
  ⟨"CHR_RTC_HI", 0xFF020, 0, 1, 0, 1, 2, false, 0x7F, 3, 0, 0, 0, 0, 0, false, 0, 0, [], .rw⟩,
  ⟨"CHR_RTC_LO", 0xFF021, 0, 1, 0, 1, 4, false, 0x7F, 3, 0, 0, 0, 0, 0, false, 0, 0, [], .rw⟩,
  ⟨"CHR_ALARM_HI", 0xFF022, 0, 1, 0, 1, 2, false, 0x7F, 3, 0, 0, 0, 0, 0, false, 0, 0, [], .rw⟩,
  ⟨"CHR_ALARM_LO", 0xFF023, 0, 1, 0, 1, 4, false, 0x7F, 3, 0, 0, 0, 0, 0, false, 0, 0, [], .rw⟩,
  ⟨"CHR_WAKE_CFG", 0xFF024, 0, 1, 0, 1, 4, false, 0x7F, 3, 0, 0, 1, 0, 0, false, 0xFFFFFFFC, 0, [], .rw⟩,
  ⟨"CHR_USER", 0xFF028, 1, 8, 0, 1, 4, false, 0x7F, 0x17, 0, 0, 0, 0, 0, false, 0, 0, [], .rw⟩]

/-- Classes of the OIDs 0xFF400 to 0xFFFFF. -/
def dictJnl : List ObjClass := [
  ⟨"JNL_STATE", 0xFF400, 0, 1, 0, 1, 8, false, 0x7F, 0, 0, 0, 0, 0, 0, false, 0, 0, ["OFF", "RUN", "STOPPED", "FULL", "CLEARED"], .ro⟩,
  ⟨"JNL_CTRL", 0xFF401, 0, 1, 0, 1, 4, false, 0, 3, 0, 0, 0, 0, 0, false, 0xFFFFFFFC, 0, [], .wo⟩,
  ⟨"JNL_SEQ", 0xFF402, 0, 1, 0, 1, 4, false, 0x7F, 0, 0, 0, 0, 0, 0, false, 0, 0, [], .ro⟩,
  ⟨"JNL_QUEUED", 0xFF403, 0, 1, 0, 1, 4, false, 0x7F, 0, 0, 0, 0, 0, 0, false, 0, 0, [], .ro⟩,
  ⟨"JNL_FILL", 0xFF404, 0, 1, 0, 1, 1, false, 0x7F, 0, 0, 12, 0, 0, 0, false, 0, 0, [], .ro⟩,
  ⟨"JNL_COMPACTING", 0xFF405, 0, 1, 0, 1, 0, false, 0x7F, 0, 0, 0, 0, 0, 0, false, 0, 0, [], .ro⟩,
  ⟨"JNL_SNAP_GEN", 0xFF406, 0, 1, 0, 1, 4, false, 0x7F, 0, 0, 0, 0, 0, 0, false, 0, 0, [], .ro⟩,
  ⟨"JNL_SNAP_BYTES", 0xFF407, 0, 1, 0, 1, 4, false, 0x7F, 0, 0, 0, 0, 0, 0, false, 0, 0, [], .ro⟩,
  ⟨"JNL_SNAP_CAP", 0xFF408, 0, 1, 0, 1, 4, false, 0x7F, 0, 0, 0, 0, 0, 0, false, 0, 0, [], .ro⟩,
  ⟨"JNL_FLASH_MIB", 0xFF409, 0, 1, 0, 1, 2, false, 0x7F, 0, 0, 0, 0, 0, 0, false, 0, 0, [], .ro⟩,
  ⟨"JNL_ERASE_MAX", 0xFF40A, 0, 1, 0, 1, 4, true, 0x7F, 0, 0, 0, 0, 0, 0, false, 0, 0, [], .ro⟩,
  ⟨"JNL_REPLAYED", 0xFF40B, 0, 1, 0, 1, 4, false, 0x7F, 0, 0, 0, 0, 0, 0, false, 0, 0, [], .ro⟩,
  ⟨"JNL_DISCARDED", 0xFF40C, 0, 1, 0, 1, 4, false, 0x7F, 0, 0, 0, 0, 0, 0, false, 0, 0, [], .ro⟩,
  ⟨"JNL_STICKY", 0xFF40D, 0, 1, 0, 1, 4, false, 0x7F, 0x1F, 0, 0, 0, 0, 0, false, 0xFFFFFF00, 0, [], .w1c⟩,
  ⟨"JNL_CNT", 0xFF410, 1, 8, 0, 1, 4, false, 0x7F, 0x1F, 0, 0, 0, 0, 0, false, 0, 0, [], .cnt0⟩,
  ⟨"DIE_TEMP", 0xFF800, 0, 1, 0, 1, 3, false, 0x7F, 0, 0, 0, 0, 0, 0, false, 0, 0, [], .ro⟩,
  ⟨"DIE_TEMP_MAX", 0xFF801, 0, 1, 0, 1, 3, false, 0x7F, 3, 0, 0, 0, 0, 0, false, 0, 0, [], .rw⟩]

/-- The classes among which OID `oid` is looked up. -/
def dictFor (oid : Nat) : List ObjClass :=
  if oid < 0xC0000 then dictXp
  else if oid < 0xD0000 then dictStrip
  else if oid < 0xD8000 then dictBus
  else if oid < 0xE0000 then dictOut
  else if oid < 0xF0000 then dictPatch
  else if oid < 0xF0800 then dictDev
  else if oid < 0xF4000 then dictGuard
  else if oid < 0xF5000 then dictTile
  else if oid < 0xF6000 then dictImg
  else if oid < 0xF7000 then dictMoult
  else if oid < 0xF9000 then dictDmem
  else if oid < 0xFA000 then dictConv
  else if oid < 0xFB000 then dictPort
  else if oid < 0xFC000 then dictClk
  else if oid < 0xFD000 then dictTime
  else if oid < 0xFE800 then dictNet
  else if oid < 0xFEC00 then dictHost
  else if oid < 0xFF000 then dictTwin
  else if oid < 0xFF400 then dictPwr
  else if oid < 0x100000 then dictJnl
  else []

/-- The place of an OID in a class, as the pair (i, j) of its numbers, or nothing. -/
def ObjClass.place (c : ObjClass) (oid : Nat) : Option (Nat × Nat) :=
  if oid < c.base then none else
  let d := oid - c.base
  let i := if c.stride = 0 then 0 else d / c.stride
  let r := d - c.stride * i
  let j := if c.stride2 = 0 then 0 else r / c.stride2
  if i < c.count ∧ j < c.count2 ∧ c.stride * i + c.stride2 * j = d then some (i, j) else none

/-- The class of an OID with its place, among the classes of a list. -/
def findIn (oid : Nat) : List ObjClass → Option (ObjClass × Nat × Nat)
  | [] => none
  | c :: r => match c.place oid with
    | some p => some (c, p)
    | none => findIn oid r

/-- A patch sink number that R170 implements. -/
def sinkExists (s : Nat) : Bool :=
  s < 0x300 || (0x400 ≤ s && s < 0x800) || (0x800 ≤ s && s < 0x900) || (0x2000 ≤ s && s < 0x3000)

/-- A patch source number that R170 implements, 0xFFFF included. -/
def sourceExists (s : Nat) : Bool :=
  s < 0x340 || (0x400 ≤ s && s < 0x900) || (0x1000 ≤ s && s < 0x2000) || s = 0xFFFF

/-- The class of an implemented scalar object (R406), with its place. PATCH objects exist only for the sinks of R170,
and PATCH_GAIN and PATCH_MUTE not for TIC sinks (R174). -/
def findObj (oid : Nat) : Option (ObjClass × Nat × Nat) :=
  match findIn oid (dictFor oid) with
  | none => none
  | some (c, i, j) =>
    if 0x0E0000 ≤ oid ∧ oid < 0x0F0000 then
      if sinkExists i ∧ ¬(0x2000 ≤ i ∧ (c.base = 0x0E3000 ∨ c.base = 0x0E6000)) then some (c, i, j) else none
    else some (c, i, j)

end Sys2Proof.Machine
end

