-- ==== Sys2Proof/Machine/Float.lean ====
section
/-!
DEFINITION. IEEE 754 binary32 arithmetic with round-to-nearest-even (R213, R407), computed exactly on integers and
rounded once, and its conversions to the fixed-point formats (R43, R124).
-/

namespace Sys2Proof.Machine

/-- The word of −∞. -/
def f32NegInf : Word := 0xFF800000
/-- The word of +∞. -/
def f32Inf : Word := 0x7F800000
/-- A quiet NaN. -/
def f32NaN : Word := 0x7FC00000

/-- A NaN word. -/
def f32IsNaN (w : Word) : Bool := fld w 30 23 = 255 && fld w 22 0 ≠ 0
/-- An infinite word. -/
def f32IsInf (w : Word) : Bool := fld w 30 23 = 255 && fld w 22 0 = 0
/-- The sign bit. -/
def f32Neg? (w : Word) : Bool := bit w 31
/-- Zero of either sign. -/
def f32IsZero (w : Word) : Bool := fld w 30 0 = 0

/-- The signed significand of a finite word: its value is `f32Man w × 2 ^ (f32Exp w − 149)`. -/
def f32Man (w : Word) : Int :=
  let m : Nat := if fld w 30 23 = 0 then fld w 22 0 else fld w 22 0 + 2 ^ 23
  if bit w 31 then -(m : Int) else m
/-- The scaled exponent of a finite word. -/
def f32Exp (w : Word) : Nat := if fld w 30 23 = 0 then 0 else fld w 30 23 - 1

/-- The number of bits of a natural number. -/
def natBits (n : Nat) : Nat := if n = 0 then 0 else Nat.log2 n + 1

/-- The binary32 word nearest to `n / d × 2^0`, ties to even: a non-negative rational `n / d` with `d > 0`, and the
sign. Overflow gives ∞. -/
def f32OfRat (neg : Bool) (n d : Nat) : Word :=
  let sgn : Word := if neg then 0x80000000 else 0
  if n = 0 then sgn else
  -- scale so that n / d × 2^149 has its unit at the smallest subnormal
  let nb := natBits n + 149
  let db := natBits d
  -- exponent shift `e` with 2^23 ≤ n·2^149/(d·2^e) < 2^25, or 0 for subnormals
  let e0 := if nb < db + 24 then 0 else nb - db - 24
  let q (e : Nat) : Int := rneDiv (n * 2 ^ 149 : Nat) (d * 2 ^ e : Nat)
  let e := if (n * 2 ^ 149) / (d * 2 ^ e0) ≥ 2 ^ 24 then e0 + 1 else e0
  let m := (q e).toNat
  let (m, e) := if m ≥ 2 ^ 24 then (m / 2, e + 1) else (m, e)
  if m < 2 ^ 23 then sgn ||| BitVec.ofNat 32 m
  else if e + 1 ≥ 255 then sgn ||| f32Inf
  else sgn ||| BitVec.ofNat 32 ((e + 1) * 2 ^ 23 + (m - 2 ^ 23))

/-- The binary32 word of the integer `i` divided by the natural number `d`. -/
def f32OfInt (i : Int) (d : Nat) : Word := f32OfRat (i < 0) i.natAbs d

/-- The sum (R213). -/
def f32Add (a b : Word) : Word :=
  if f32IsNaN a || f32IsNaN b then f32NaN
  else if f32IsInf a then (if f32IsInf b && a ≠ b then f32NaN else a)
  else if f32IsInf b then b
  else
    let i := f32Man a * 2 ^ f32Exp a + f32Man b * 2 ^ f32Exp b
    if i = 0 then (if bit a 31 && bit b 31 then 0x80000000 else 0)
    else f32OfInt i (2 ^ 149)

/-- The negative. -/
def f32Negate (a : Word) : Word := a ^^^ 0x80000000
/-- The difference (R213). -/
def f32Sub (a b : Word) : Word := f32Add a (f32Negate b)

/-- The product (R213). -/
def f32Mul (a b : Word) : Word :=
  let neg := bit a 31 != bit b 31
  if f32IsNaN a || f32IsNaN b then f32NaN
  else if f32IsInf a || f32IsInf b then
    (if f32IsZero a || f32IsZero b then f32NaN else if neg then f32NegInf else f32Inf)
  else f32OfRat neg ((f32Man a).natAbs * (f32Man b).natAbs * 2 ^ (f32Exp a + f32Exp b)) (2 ^ 298)

/-- The quotient (R213). -/
def f32Div (a b : Word) : Word :=
  let neg := bit a 31 != bit b 31
  if f32IsNaN a || f32IsNaN b then f32NaN
  else if f32IsInf a then (if f32IsInf b then f32NaN else if neg then f32NegInf else f32Inf)
  else if f32IsInf b then (if neg then 0x80000000 else 0)
  else if f32IsZero b then (if f32IsZero a then f32NaN else if neg then f32NegInf else f32Inf)
  else f32OfRat neg ((f32Man a).natAbs * 2 ^ f32Exp a) ((f32Man b).natAbs * 2 ^ f32Exp b)

/-- A key that orders binary32 words other than NaN by value. -/
def f32Key (a : Word) : Int := if bit a 31 then -(fld a 30 0 : Int) else fld a 30 0
/-- Less than. -/
def f32Lt (a b : Word) : Bool := !f32IsNaN a && !f32IsNaN b && decide (f32Key a < f32Key b)
/-- Less than or equal. -/
def f32Le (a b : Word) : Bool := !f32IsNaN a && !f32IsNaN b && decide (f32Key a ≤ f32Key b)
/-- The smaller. -/
def f32Min (a b : Word) : Word := if f32Lt b a then b else a

/-- A natural number in binary32. -/
def f32OfNat (n : Nat) : Word := f32OfRat false n 1
/-- A finite value as an exact fraction over 2^149. -/
def f32Num (a : Word) : Int := f32Man a * 2 ^ f32Exp a

/-- The value times `2^frac`, rounded RNE and saturated to `bits` bits two's complement: a fixed-point word (R124). -/
def f32ToFix (bits frac : Nat) (a : Word) : Int :=
  if f32IsNaN a then 0
  else if f32IsInf a then satInt bits (if bit a 31 then -(2 ^ 200) else 2 ^ 200)
  else satInt bits (rneDiv (f32Num a * 2 ^ frac) (2 ^ 149))

/-- The value as a fixed-point word of 32 bits with `frac` fraction bits. -/
def f32ToQ (frac : Nat) (a : Word) : Word := wdI (f32ToFix 32 frac a)

/-- A fixed-point word with `frac` fraction bits in binary32. -/
def f32OfQ (frac : Nat) (w : Word) : Word := f32OfInt w.toInt (2 ^ frac)

/-- The value rounded to the nearest integer, ties away from zero (R191). -/
def f32Round (a : Word) : Int :=
  if f32IsNaN a || f32IsInf a then 0
  else
    let n := (f32Num a).natAbs
    let q : Nat := (2 * n + 2 ^ 149) / 2 ^ 150
    if bit a 31 then -(q : Int) else q

/-- The value rounded to the nearest integer, ties to even (R596). -/
def f32Rne (a : Word) : Int := if f32IsNaN a || f32IsInf a then 0 else rneDiv (f32Num a) (2 ^ 149)

end Sys2Proof.Machine
end

