-- ==== Sys2Proof/Machine/Maps.lean ====
section
/-!
DEFINITION. Reading and writing the sparse maps of the state. `dflt k` is what an unlisted key `k` reads as.
-/

namespace Sys2Proof.Machine

/-- The value at key `k`. -/
def mapGet {α : Type} (dflt : Nat → α) : SMap α → Nat → α
  | [], k => dflt k
  | (i, v) :: r, k => if k = i then v else if k < i then dflt k else mapGet dflt r k

/-- Insert or replace key `k`, keeping the keys rising. -/
def mapPut {α : Type} (k : Nat) (v : α) : SMap α → SMap α
  | [] => [(k, v)]
  | (i, w) :: r => if k = i then (k, v) :: r else if k < i then (k, v) :: (i, w) :: r else (i, w) :: mapPut k v r

/-- Remove key `k`. -/
def mapDel {α : Type} (k : Nat) : SMap α → SMap α
  | [] => []
  | (i, w) :: r => if k = i then r else if k < i then (i, w) :: r else (i, w) :: mapDel k r

/-- Write key `k`: writing what an unlisted key reads as removes the entry, so equal maps are equal lists. -/
def mapSet {α : Type} [DecidableEq α] (dflt : Nat → α) (m : SMap α) (k : Nat) (v : α) : SMap α :=
  if v = dflt k then mapDel k m else mapPut k v m

/-- Every key of the list is above `lo`, keys rise strictly and no value is its key's default. -/
def mapWfFrom {α : Type} [DecidableEq α] (dflt : Nat → α) : Nat → SMap α → Bool
  | _, [] => true
  | lo, (k, v) :: r => decide (lo ≤ k) && decide (v ≠ dflt k) && mapWfFrom dflt (k + 1) r

/-- The canonical form of a sparse map. -/
def mapWf {α : Type} [DecidableEq α] (dflt : Nat → α) (m : SMap α) : Bool := mapWfFrom dflt 0 m

/-- Apply `f` to the value at `k`. -/
def mapMod {α : Type} [DecidableEq α] (dflt : Nat → α) (m : SMap α) (k : Nat) (f : α → α) : SMap α :=
  mapSet dflt m k (f (mapGet dflt m k))

/-- Write consecutive keys from `k`. -/
def mapSetFrom {α : Type} [DecidableEq α] (dflt : Nat → α) (m : SMap α) (k : Nat) : List α → SMap α
  | [] => m
  | v :: r => mapSetFrom dflt (mapSet dflt m k v) (k + 1) r

/-- Read `n` consecutive keys from `k`. -/
def mapRead {α : Type} (dflt : Nat → α) (m : SMap α) (k : Nat) : Nat → List α
  | 0 => []
  | n + 1 => mapGet dflt m k :: mapRead dflt m (k + 1) n

/-- Apply `f i` for `i` from 0 to `n − 1`, in rising order. -/
def forUpTo {σ : Type} (n : Nat) (f : Nat → σ → σ) (s : σ) : σ :=
  (List.range n).foldl (fun t i => f i t) s

end Sys2Proof.Machine
end

