-- ==== Sys2Proof/Machine/Oids.lean ====
section
/-!
DEFINITION. The OIDs of the named objects, as the chapters' object maps give them (R405).
-/

namespace Sys2Proof.Machine

/-- TILE_STATE. -/
abbrev oidTileState (i : Nat) : Nat := 0xF4000 + 0x40 * i
/-- TILE_STICKY. -/
abbrev oidTileSticky (i : Nat) : Nat := 0xF4002 + 0x40 * i
/-- GUARD_OVF_CNT. -/
abbrev oidGuardOvfCnt (i : Nat) : Nat := 0xF4003 + 0x40 * i
/-- DM_CE_CNT. -/
abbrev oidDmCeCnt (i : Nat) : Nat := 0xF4004 + 0x40 * i
/-- DM_UE_CNT. -/
abbrev oidDmUeCnt (i : Nat) : Nat := 0xF4005 + 0x40 * i
/-- PM_CE_CNT. -/
abbrev oidPmCeCnt (i : Nat) : Nat := 0xF4006 + 0x40 * i
/-- PM_UE_CNT. -/
abbrev oidPmUeCnt (i : Nat) : Nat := 0xF4007 + 0x40 * i
/-- TXB_ERR_CNT. -/
abbrev oidTxbErrCnt (i : Nat) : Nat := 0xF4008 + 0x40 * i
/-- GRAIN_FAIL_CNT. -/
abbrev oidGrainFailCnt (i : Nat) : Nat := 0xF4009 + 0x40 * i
/-- OVF_PM_ADDR. -/
abbrev oidOvfPmAddr (i : Nat) : Nat := 0xF400A + 0x40 * i
/-- OVF_INSTAR. -/
abbrev oidOvfInstar (i : Nat) : Nat := 0xF400B + 0x40 * i
/-- OVF_LANES. -/
abbrev oidOvfLanes (i : Nat) : Nat := 0xF400C + 0x40 * i
/-- SAT_CNT. -/
abbrev oidSatCnt (i j : Nat) : Nat := 0xF4010 + 0x40 * i + j
/-- AS_GEOM. -/
abbrev oidAsGeom (i j : Nat) : Nat := 0xF4020 + 0x40 * i + j
/-- AS_STEPMOD. -/
abbrev oidAsStepmod (i j : Nat) : Nat := 0xF4030 + 0x40 * i + j
/-- TILE_STICKY_MAP_LO. -/
abbrev oidTileStickyMapLo : Nat := 0xF4F00
/-- TILE_STICKY_MAP_HI. -/
abbrev oidTileStickyMapHi : Nat := 0xF4F01
/-- IMG_CTRL. -/
abbrev oidImgCtrl : Nat := 0xF5000
/-- IMG_PEND_STATE. -/
abbrev oidImgPendState : Nat := 0xF5001
/-- IMG_WR_OFFSET. -/
abbrev oidImgWrOffset : Nat := 0xF5002
/-- IMG_WR_DATA. -/
abbrev oidImgWrData : Nat := 0xF5003
/-- IMG_ERR_CODE. -/
abbrev oidImgErrCode : Nat := 0xF5004
/-- IMG_ERR_TILE. -/
abbrev oidImgErrTile : Nat := 0xF5005
/-- IMG_ERR_LOC. -/
abbrev oidImgErrLoc : Nat := 0xF5006
/-- IMG_ACTIVE_ID. -/
abbrev oidImgActiveId : Nat := 0xF5007
/-- IMG_PEND_ID. -/
abbrev oidImgPendId : Nat := 0xF5008
/-- IMG_ACTIVE_FORM. -/
abbrev oidImgActiveForm : Nat := 0xF5009
/-- IMG_FADE_LEN. -/
abbrev oidImgFadeLen : Nat := 0xF500A
/-- IMG_LAST_GAP. -/
abbrev oidImgLastGap : Nat := 0xF500B
/-- IMG_SPARE_STATE. -/
abbrev oidImgSpareState : Nat := 0xF500C
/-- IMG_CHAN_RETIRED_CNT. -/
abbrev oidImgChanRetiredCnt : Nat := 0xF500D
/-- IMG_CKPT_AGE. -/
abbrev oidImgCkptAge : Nat := 0xF500E
/-- TRIM. -/
abbrev oidTrim (i : Nat) : Nat := 0xC0000 + 0x80 * i
/-- POLARITY. -/
abbrev oidPolarity (i : Nat) : Nat := 0xC0001 + 0x80 * i
/-- DELAY. -/
abbrev oidDelay (i : Nat) : Nat := 0xC0002 + 0x80 * i
/-- GATE_ON. -/
abbrev oidGateOn (i : Nat) : Nat := 0xC0003 + 0x80 * i
/-- GATE_THRESH. -/
abbrev oidGateThresh (i : Nat) : Nat := 0xC0004 + 0x80 * i
/-- GATE_RANGE. -/
abbrev oidGateRange (i : Nat) : Nat := 0xC0005 + 0x80 * i
/-- GATE_ATTACK. -/
abbrev oidGateAttack (i : Nat) : Nat := 0xC0006 + 0x80 * i
/-- GATE_HOLD. -/
abbrev oidGateHold (i : Nat) : Nat := 0xC0007 + 0x80 * i
/-- GATE_RELEASE. -/
abbrev oidGateRelease (i : Nat) : Nat := 0xC0008 + 0x80 * i
/-- COMP_ON. -/
abbrev oidCompOn (i : Nat) : Nat := 0xC0009 + 0x80 * i
/-- COMP_THRESH. -/
abbrev oidCompThresh (i : Nat) : Nat := 0xC000A + 0x80 * i
/-- COMP_RATIO. -/
abbrev oidCompRatio (i : Nat) : Nat := 0xC000B + 0x80 * i
/-- COMP_KNEE. -/
abbrev oidCompKnee (i : Nat) : Nat := 0xC000C + 0x80 * i
/-- COMP_ATTACK. -/
abbrev oidCompAttack (i : Nat) : Nat := 0xC000D + 0x80 * i
/-- COMP_RELEASE. -/
abbrev oidCompRelease (i : Nat) : Nat := 0xC000E + 0x80 * i
/-- COMP_MAKEUP. -/
abbrev oidCompMakeup (i : Nat) : Nat := 0xC000F + 0x80 * i
/-- MUTE. -/
abbrev oidMute (i : Nat) : Nat := 0xC0010 + 0x80 * i
/-- FADER. -/
abbrev oidFader (i : Nat) : Nat := 0xC0011 + 0x80 * i
/-- DIRECT_ON. -/
abbrev oidDirectOn (i : Nat) : Nat := 0xC0012 + 0x80 * i
/-- DIRECT_TAP. -/
abbrev oidDirectTap (i : Nat) : Nat := 0xC0013 + 0x80 * i
/-- DIRECT_LEVEL. -/
abbrev oidDirectLevel (i : Nat) : Nat := 0xC0014 + 0x80 * i
/-- SC_ROUTE. -/
abbrev oidScRoute (i : Nat) : Nat := 0xC0015 + 0x80 * i
/-- DIRECT_XF_LEN. -/
abbrev oidDirectXfLen (i : Nat) : Nat := 0xC0016 + 0x80 * i
/-- DYN_CTRL_SOURCE. -/
abbrev oidDynCtrlSource (i : Nat) : Nat := 0xC0017 + 0x80 * i
/-- GATE_ATK_COEF. -/
abbrev oidGateAtkCoef (i : Nat) : Nat := 0xC0018 + 0x80 * i
/-- GATE_REL_COEF. -/
abbrev oidGateRelCoef (i : Nat) : Nat := 0xC0019 + 0x80 * i
/-- COMP_ATK_COEF. -/
abbrev oidCompAtkCoef (i : Nat) : Nat := 0xC001A + 0x80 * i
/-- COMP_REL_COEF. -/
abbrev oidCompRelCoef (i : Nat) : Nat := 0xC001B + 0x80 * i
/-- COMP_SLOPE. -/
abbrev oidCompSlope (i : Nat) : Nat := 0xC001C + 0x80 * i
/-- STRIP_PRESENT. -/
abbrev oidStripPresent (i : Nat) : Nat := 0xC001D + 0x80 * i
/-- XP_LEVEL. -/
abbrev oidXpLevel (i : Nat) : Nat := 0 + i
/-- XP_ON. -/
abbrev oidXpOn (i : Nat) : Nat := 0x20000 + i
/-- XP_PAN. -/
abbrev oidXpPan (i : Nat) : Nat := 0x40000 + i
/-- XP_TAP. -/
abbrev oidXpTap (i : Nat) : Nat := 0x60000 + i
/-- XP_COEF_PRE. -/
abbrev oidXpCoefPre (i : Nat) : Nat := 0x80000 + i
/-- XP_COEF_POST. -/
abbrev oidXpCoefPost (i : Nat) : Nat := 0xA0000 + i
/-- BUS_TRIM. -/
abbrev oidBusTrim (i : Nat) : Nat := 0xD0000 + 0x80 * i
/-- BUS_POLARITY. -/
abbrev oidBusPolarity (i : Nat) : Nat := 0xD0001 + 0x80 * i
/-- BUS_DELAY. -/
abbrev oidBusDelay (i : Nat) : Nat := 0xD0002 + 0x80 * i
/-- BUS_COMP_ON. -/
abbrev oidBusCompOn (i : Nat) : Nat := 0xD0003 + 0x80 * i
/-- BUS_COMP_THRESH. -/
abbrev oidBusCompThresh (i : Nat) : Nat := 0xD0004 + 0x80 * i
/-- BUS_COMP_RATIO. -/
abbrev oidBusCompRatio (i : Nat) : Nat := 0xD0005 + 0x80 * i
/-- BUS_COMP_KNEE. -/
abbrev oidBusCompKnee (i : Nat) : Nat := 0xD0006 + 0x80 * i
/-- BUS_COMP_ATTACK. -/
abbrev oidBusCompAttack (i : Nat) : Nat := 0xD0007 + 0x80 * i
/-- BUS_COMP_RELEASE. -/
abbrev oidBusCompRelease (i : Nat) : Nat := 0xD0008 + 0x80 * i
/-- BUS_COMP_MAKEUP. -/
abbrev oidBusCompMakeup (i : Nat) : Nat := 0xD0009 + 0x80 * i
/-- BUS_MUTE. -/
abbrev oidBusMute (i : Nat) : Nat := 0xD000A + 0x80 * i
/-- BUS_FADER. -/
abbrev oidBusFader (i : Nat) : Nat := 0xD000B + 0x80 * i
/-- BUS_LINK. -/
abbrev oidBusLink (i : Nat) : Nat := 0xD000C + 0x80 * i
/-- BUS_PAN_LAW. -/
abbrev oidBusPanLaw (i : Nat) : Nat := 0xD000D + 0x80 * i
/-- BUS_XF_LEN. -/
abbrev oidBusXfLen (i : Nat) : Nat := 0xD000E + 0x80 * i
/-- BUS_FEED_ON. -/
abbrev oidBusFeedOn (i : Nat) : Nat := 0xD000F + 0x80 * i
/-- BUS_FEED_LEVEL. -/
abbrev oidBusFeedLevel (i : Nat) : Nat := 0xD0010 + 0x80 * i
/-- BUS_FEED_DEST. -/
abbrev oidBusFeedDest (i : Nat) : Nat := 0xD0011 + 0x80 * i
/-- XP_CTRL_SOURCE. -/
abbrev oidXpCtrlSource (i : Nat) : Nat := 0xD0012 + 0x80 * i
/-- BUS_DYN_CTRL_SOURCE. -/
abbrev oidBusDynCtrlSource (i : Nat) : Nat := 0xD0013 + 0x80 * i
/-- BUS_COMP_ATK_COEF. -/
abbrev oidBusCompAtkCoef (i : Nat) : Nat := 0xD0014 + 0x80 * i
/-- BUS_COMP_REL_COEF. -/
abbrev oidBusCompRelCoef (i : Nat) : Nat := 0xD0015 + 0x80 * i
/-- BUS_COMP_SLOPE. -/
abbrev oidBusCompSlope (i : Nat) : Nat := 0xD0016 + 0x80 * i
/-- BUS_PRESENT. -/
abbrev oidBusPresent (i : Nat) : Nat := 0xD0017 + 0x80 * i
/-- OUT_GAIN. -/
abbrev oidOutGain (i : Nat) : Nat := 0xD8000 + 0x40 * i
/-- OUT_POLARITY. -/
abbrev oidOutPolarity (i : Nat) : Nat := 0xD8001 + 0x40 * i
/-- OUT_DELAY. -/
abbrev oidOutDelay (i : Nat) : Nat := 0xD8002 + 0x40 * i
/-- OUT_FIR_ON. -/
abbrev oidOutFirOn (i : Nat) : Nat := 0xD8003 + 0x40 * i
/-- OUT_FIR_SET. -/
abbrev oidOutFirSet (i : Nat) : Nat := 0xD8004 + 0x40 * i
/-- OUT_MUTE. -/
abbrev oidOutMute (i : Nat) : Nat := 0xD8005 + 0x40 * i
/-- OUT_XF_LEN. -/
abbrev oidOutXfLen (i : Nat) : Nat := 0xD8006 + 0x40 * i
/-- OUT_PRESENT. -/
abbrev oidOutPresent (i : Nat) : Nat := 0xD8007 + 0x40 * i
/-- PATCH_SRC. -/
abbrev oidPatchSrc (i : Nat) : Nat := 0xE0000 + i
/-- PATCH_GAIN. -/
abbrev oidPatchGain (i : Nat) : Nat := 0xE3000 + i
/-- PATCH_MUTE. -/
abbrev oidPatchMute (i : Nat) : Nat := 0xE6000 + i
/-- PATCH_XF. -/
abbrev oidPatchXf (i : Nat) : Nat := 0xE9000 + i
/-- PATCH_STATUS. -/
abbrev oidPatchStatus (i : Nat) : Nat := 0xEC000 + i
/-- SIL_ENABLE. -/
abbrev oidSilEnable (i : Nat) : Nat := 0xDC000 + i
/-- SIL_THRESH. -/
abbrev oidSilThresh (i : Nat) : Nat := 0xDD000 + i
/-- SIL_HOLD. -/
abbrev oidSilHold (i : Nat) : Nat := 0xDE000 + i
/-- SIL_STATE. -/
abbrev oidSilState (i : Nat) : Nat := 0xDF000 + i
/-- SEC_TYPE. -/
abbrev oidSecType (i j : Nat) : Nat := 0xC0020 + 0x80 * i + 8 * j
/-- SEC_FREQ. -/
abbrev oidSecFreq (i j : Nat) : Nat := 0xC0021 + 0x80 * i + 8 * j
/-- SEC_Q. -/
abbrev oidSecQ (i j : Nat) : Nat := 0xC0022 + 0x80 * i + 8 * j
/-- SEC_GAIN. -/
abbrev oidSecGain (i j : Nat) : Nat := 0xC0023 + 0x80 * i + 8 * j
/-- SEC_CTRL_SOURCE. -/
abbrev oidSecCtrlSource (i j : Nat) : Nat := 0xC0024 + 0x80 * i + 8 * j
/-- SEC_STATUS. -/
abbrev oidSecStatus (i j : Nat) : Nat := 0xC0025 + 0x80 * i + 8 * j
/-- SEC_POLE_RADIUS. -/
abbrev oidSecPoleRadius (i j : Nat) : Nat := 0xC0026 + 0x80 * i + 8 * j
/-- SEC_NUMBER. -/
abbrev oidSecNumber (i j : Nat) : Nat := 0xC0027 + 0x80 * i + 8 * j
/-- INSTAR. -/
abbrev oidInstar : Nat := 0xF6800
/-- GRAIN_NUMBER. -/
abbrev oidGrainNumber : Nat := 0xF6801
/-- MOULT_LAST_M. -/
abbrev oidMoultLastM : Nat := 0xF6802
/-- MOULT_ARMED. -/
abbrev oidMoultArmed : Nat := 0xF6803
/-- MOULT_ARMED_INSTAR. -/
abbrev oidMoultArmedInstar : Nat := 0xF6804
/-- STAGED_CNT. -/
abbrev oidStagedCnt : Nat := 0xF6805
/-- RAMPING_CNT. -/
abbrev oidRampingCnt : Nat := 0xF6806
/-- FOLDING_CNT. -/
abbrev oidFoldingCnt : Nat := 0xF6807
/-- MOULT_CTRL. -/
abbrev oidMoultCtrl : Nat := 0xF6808
/-- SCENE_GO_CFG. -/
abbrev oidSceneGoCfg : Nat := 0xF6809
/-- MOULT_STICKY. -/
abbrev oidMoultSticky : Nat := 0xF680A
/-- MOULT_CNT. -/
abbrev oidMoultCnt (i : Nat) : Nat := 0xF6810 + i
/-- SESS_STAGED_CNT. -/
abbrev oidSessStagedCnt (i : Nat) : Nat := 0xF6841 + i
/-- DMEM_STICKY. -/
abbrev oidDmemSticky : Nat := 0xF7000
/-- DMEM_UE_ADDR. -/
abbrev oidDmemUeAddr : Nat := 0xF7001
/-- DL_COUNT. -/
abbrev oidDlCount : Nat := 0xF7002
/-- DL_XF_LEN. -/
abbrev oidDlXfLen : Nat := 0xF7003
/-- BULK_CTRL. -/
abbrev oidBulkCtrl : Nat := 0xF7004
/-- DMEM_LOAD. -/
abbrev oidDmemLoad : Nat := 0xF7005
/-- DMEM_CNT. -/
abbrev oidDmemCnt (i : Nat) : Nat := 0xF7010 + i
/-- FIR_SET_LEN. -/
abbrev oidFirSetLen (i : Nat) : Nat := 0xF7100 + i
/-- FIR_SET_STATE. -/
abbrev oidFirSetState (i : Nat) : Nat := 0xF7200 + i
/-- TABLE_STATE. -/
abbrev oidTableState (i : Nat) : Nat := 0xF72C0 + i
/-- DL_FX_SAMPLES. -/
abbrev oidDlFxSamples (i : Nat) : Nat := 0xF7800 + i
/-- DL_SAMPLES. -/
abbrev oidDlSamples (i : Nat) : Nat := 0xF8000 + i
/-- FIR_CAP. -/
abbrev oidFirCap (i : Nat) : Nat := 0xF8700 + i
/-- DOM_RATE_A. -/
abbrev oidDomRateA : Nat := 0xF9000
/-- DOM_RATE_B. -/
abbrev oidDomRateB : Nat := 0xF9001
/-- DOM_RATE_C. -/
abbrev oidDomRateC : Nat := 0xF9002
/-- DOM_PPM. -/
abbrev oidDomPpm (i : Nat) : Nat := 0xF9004 + i
/-- PORT_DOMAIN. -/
abbrev oidPortDomain (i : Nat) : Nat := 0xF9010 + i
/-- MODCLK_CFG. -/
abbrev oidModclkCfg (i : Nat) : Nat := 0xF9030 + i
/-- NET_RX_DOMAIN. -/
abbrev oidNetRxDomain (i : Nat) : Nat := 0xF9040 + i
/-- NET_TX_DOMAIN. -/
abbrev oidNetTxDomain (i : Nat) : Nat := 0xF90C0 + i
/-- BRG_GRP_CFG. -/
abbrev oidBrgGrpCfg (i : Nat) : Nat := 0xF9200 + i
/-- BRG_GRP_STATUS. -/
abbrev oidBrgGrpStatus (i : Nat) : Nat := 0xF9210 + i
/-- BRG_GRP_RATIO. -/
abbrev oidBrgGrpRatio (i : Nat) : Nat := 0xF9220 + i
/-- BRG_GRP_DELAY. -/
abbrev oidBrgGrpDelay (i : Nat) : Nat := 0xF9230 + i
/-- BRG_FADE_LEN. -/
abbrev oidBrgFadeLen : Nat := 0xF9240
/-- BRG_TRACK_BW. -/
abbrev oidBrgTrackBw : Nat := 0xF9241
/-- CONV_STICKY. -/
abbrev oidConvSticky : Nat := 0xF9242
/-- CONV_CNT. -/
abbrev oidConvCnt (i : Nat) : Nat := 0xF9250 + i
/-- BRG_FAR. -/
abbrev oidBrgFar (i : Nat) : Nat := 0xF9300 + i
/-- MOD_CFG. -/
abbrev oidModCfg (i : Nat) : Nat := 0xF9400 + i
/-- MOD_MODI. -/
abbrev oidModModi (i : Nat) : Nat := 0xF9440 + i
/-- MOD_STATUS. -/
abbrev oidModStatus (i : Nat) : Nat := 0xF9480 + i
/-- AC_CFG. -/
abbrev oidAcCfg (i : Nat) : Nat := 0xF9500 + i
/-- AC_SRC. -/
abbrev oidAcSrc (i : Nat) : Nat := 0xF9510 + i
/-- AC_WIDX. -/
abbrev oidAcWidx (i : Nat) : Nat := 0xF9520 + i
/-- METER_PROFILE. -/
abbrev oidMeterProfile (i : Nat) : Nat := 0xF9600 + i
/-- DEC_SYNC_CFG. -/
abbrev oidDecSyncCfg : Nat := 0xF9700
/-- DEC_SYNC_CMD. -/
abbrev oidDecSyncCmd : Nat := 0xF9701
/-- PORT_CTRL. -/
abbrev oidPortCtrl (i : Nat) : Nat := 0xFA000 + 0x20 * i
/-- PORT_STATE. -/
abbrev oidPortState (i : Nat) : Nat := 0xFA001 + 0x20 * i
/-- PORT_FRAME. -/
abbrev oidPortFrame (i : Nat) : Nat := 0xFA002 + 0x20 * i
/-- PORT_TIMING. -/
abbrev oidPortTiming (i : Nat) : Nat := 0xFA003 + 0x20 * i
/-- PORT_TIMING_SRC. -/
abbrev oidPortTimingSrc (i : Nat) : Nat := 0xFA004 + 0x20 * i
/-- PORT_REENTRY. -/
abbrev oidPortReentry (i : Nat) : Nat := 0xFA005 + 0x20 * i
/-- PORT_ZC_TIMEOUT. -/
abbrev oidPortZcTimeout (i : Nat) : Nat := 0xFA006 + 0x20 * i
/-- PORT_FADE_LEN. -/
abbrev oidPortFadeLen (i : Nat) : Nat := 0xFA007 + 0x20 * i
/-- PORT_RATE_TOL. -/
abbrev oidPortRateTol (i : Nat) : Nat := 0xFA008 + 0x20 * i
/-- PORT_TX_MASK. -/
abbrev oidPortTxMask (i : Nat) : Nat := 0xFA009 + 0x20 * i
/-- PORT_ALIGN. -/
abbrev oidPortAlign (i : Nat) : Nat := 0xFA00A + 0x20 * i
/-- PORT_TX_SHARE. -/
abbrev oidPortTxShare (i : Nat) : Nat := 0xFA00B + 0x20 * i
/-- PORT_MEAS_BPF. -/
abbrev oidPortMeasBpf (i : Nat) : Nat := 0xFA00C + 0x20 * i
/-- PORT_MEAS_RATE. -/
abbrev oidPortMeasRate (i : Nat) : Nat := 0xFA00D + 0x20 * i
/-- PORT_MEAS_PHASE. -/
abbrev oidPortMeasPhase (i : Nat) : Nat := 0xFA00E + 0x20 * i
/-- PORT_STICKY. -/
abbrev oidPortSticky (i : Nat) : Nat := 0xFA00F + 0x20 * i
/-- PORT_CNT. -/
abbrev oidPortCnt (i j : Nat) : Nat := 0xFA010 + 0x20 * i + j
/-- PORT_CAUSE. -/
abbrev oidPortCause (i : Nat) : Nat := 0xFA018 + 0x20 * i
/-- ALIGN_CTRL. -/
abbrev oidAlignCtrl : Nat := 0xFA300
/-- ALIGN_MEMBERS. -/
abbrev oidAlignMembers : Nat := 0xFA301
/-- TWIN_OE_STATE. -/
abbrev oidTwinOeState : Nat := 0xFA302
/-- REF_CFG. -/
abbrev oidRefCfg (i : Nat) : Nat := 0xFB000 + 0x20 * i
/-- REF_QL_SW. -/
abbrev oidRefQlSw (i : Nat) : Nat := 0xFB001 + 0x20 * i
/-- REF_RANK. -/
abbrev oidRefRank (i : Nat) : Nat := 0xFB002 + 0x20 * i
/-- REF_STATE. -/
abbrev oidRefState (i : Nat) : Nat := 0xFB003 + 0x20 * i
/-- REF_OFFSET. -/
abbrev oidRefOffset (i : Nat) : Nat := 0xFB004 + 0x20 * i
/-- REF_DRIFT. -/
abbrev oidRefDrift (i : Nat) : Nat := 0xFB005 + 0x20 * i
/-- REF_LIMITS. -/
abbrev oidRefLimits (i : Nat) : Nat := 0xFB006 + 0x20 * i
/-- REF_DRIFT_LIM. -/
abbrev oidRefDriftLim (i : Nat) : Nat := 0xFB007 + 0x20 * i
/-- REF_QUAL_TIME. -/
abbrev oidRefQualTime (i : Nat) : Nat := 0xFB008 + 0x20 * i
/-- REF_WTR. -/
abbrev oidRefWtr (i : Nat) : Nat := 0xFB009 + 0x20 * i
/-- REF_QL_RAW. -/
abbrev oidRefQlRaw (i : Nat) : Nat := 0xFB00A + 0x20 * i
/-- REF_STICKY. -/
abbrev oidRefSticky (i : Nat) : Nat := 0xFB00B + 0x20 * i
/-- REF_CNT. -/
abbrev oidRefCnt (i j : Nat) : Nat := 0xFB010 + 0x20 * i + j
/-- DPLL_MODE. -/
abbrev oidDpllMode (i : Nat) : Nat := 0xFB100 + 0x40 * i
/-- DPLL_MANUAL_REF. -/
abbrev oidDpllManualRef (i : Nat) : Nat := 0xFB101 + 0x40 * i
/-- DPLL_FALLBACK. -/
abbrev oidDpllFallback (i j : Nat) : Nat := 0xFB102 + 0x40 * i + j
/-- DPLL_MIN_RANK. -/
abbrev oidDpllMinRank (i : Nat) : Nat := 0xFB109 + 0x40 * i
/-- DPLL_TRACK_BW. -/
abbrev oidDpllTrackBw (i : Nat) : Nat := 0xFB10A + 0x40 * i
/-- DPLL_STATE. -/
abbrev oidDpllState (i : Nat) : Nat := 0xFB10B + 0x40 * i
/-- DPLL_SELECTED. -/
abbrev oidDpllSelected (i : Nat) : Nat := 0xFB10C + 0x40 * i
/-- DPLL_RANK. -/
abbrev oidDpllRank (i : Nat) : Nat := 0xFB10D + 0x40 * i
/-- DPLL_PHASE_ERR. -/
abbrev oidDpllPhaseErr (i : Nat) : Nat := 0xFB10E + 0x40 * i
/-- DPLL_BUILDOUT. -/
abbrev oidDpllBuildout (i : Nat) : Nat := 0xFB10F + 0x40 * i
/-- DPLL_SLOPE. -/
abbrev oidDpllSlope (i : Nat) : Nat := 0xFB110 + 0x40 * i
/-- DPLL_HO_FREQ. -/
abbrev oidDpllHoFreq (i : Nat) : Nat := 0xFB111 + 0x40 * i
/-- DPLL_HO_HIST. -/
abbrev oidDpllHoHist (i : Nat) : Nat := 0xFB112 + 0x40 * i
/-- DPLL_CTRL_SOURCE. -/
abbrev oidDpllCtrlSource (i : Nat) : Nat := 0xFB113 + 0x40 * i
/-- DPLL_DCO. -/
abbrev oidDpllDco (i : Nat) : Nat := 0xFB114 + 0x40 * i
/-- DPLL_STICKY. -/
abbrev oidDpllSticky (i : Nat) : Nat := 0xFB115 + 0x40 * i
/-- DPLL_CNT. -/
abbrev oidDpllCnt (i j : Nat) : Nat := 0xFB118 + 0x40 * i + j
/-- OG_CFG. -/
abbrev oidOgCfg (i : Nat) : Nat := 0xFB210 + 0x10 * i
/-- OG_SLOPE. -/
abbrev oidOgSlope (i : Nat) : Nat := 0xFB211 + 0x10 * i
/-- OG_STATE. -/
abbrev oidOgState (i : Nat) : Nat := 0xFB212 + 0x10 * i
/-- OG_PHASE_REM. -/
abbrev oidOgPhaseRem (i : Nat) : Nat := 0xFB213 + 0x10 * i
/-- MCLK_CFG. -/
abbrev oidMclkCfg (i : Nat) : Nat := 0xFB280 + i
/-- XO_CAL. -/
abbrev oidXoCal : Nat := 0xFB300
/-- XO_STATE. -/
abbrev oidXoState : Nat := 0xFB301
/-- DT_SEC_HI. -/
abbrev oidDtSecHi : Nat := 0xFC000
/-- DT_SEC_LO. -/
abbrev oidDtSecLo : Nat := 0xFC001
/-- DT_NS. -/
abbrev oidDtNs : Nat := 0xFC002
/-- DT_FRAC. -/
abbrev oidDtFrac : Nat := 0xFC003
/-- TIME_CTRL. -/
abbrev oidTimeCtrl : Nat := 0xFC004
/-- TIME_SET_SEC_HI. -/
abbrev oidTimeSetSecHi : Nat := 0xFC005
/-- TIME_SET_SEC_LO. -/
abbrev oidTimeSetSecLo : Nat := 0xFC006
/-- TIME_SET_NS. -/
abbrev oidTimeSetNs : Nat := 0xFC007
/-- TIME_ADJ_NS. -/
abbrev oidTimeAdjNs : Nat := 0xFC008
/-- SERVO_CFG. -/
abbrev oidServoCfg : Nat := 0xFC009
/-- SERVO_STATE. -/
abbrev oidServoState : Nat := 0xFC00A
/-- SERVO_OFFSET. -/
abbrev oidServoOffset : Nat := 0xFC00B
/-- SERVO_FREQ. -/
abbrev oidServoFreq : Nat := 0xFC00C
/-- SERVO_BW. -/
abbrev oidServoBw : Nat := 0xFC00D
/-- SERVO_STEP_NS. -/
abbrev oidServoStepNs : Nat := 0xFC00E
/-- PPS_QUALITY. -/
abbrev oidPpsQuality : Nat := 0xFC00F
/-- PTP_CFG. -/
abbrev oidPtpCfg : Nat := 0xFC010
/-- PTP_PRIORITY. -/
abbrev oidPtpPriority : Nat := 0xFC011
/-- PTP_PORT_STATE. -/
abbrev oidPtpPortState : Nat := 0xFC012
/-- PTP_PARENT_ID_HI. -/
abbrev oidPtpParentIdHi : Nat := 0xFC013
/-- PTP_PARENT_ID_LO. -/
abbrev oidPtpParentIdLo : Nat := 0xFC014
/-- PTP_PARENT_QUALITY. -/
abbrev oidPtpParentQuality : Nat := 0xFC015
/-- PTP_PATH_DELAY. -/
abbrev oidPtpPathDelay : Nat := 0xFC016
/-- PTP_UTC_OFFSET. -/
abbrev oidPtpUtcOffset : Nat := 0xFC017
/-- TS_ASYM. -/
abbrev oidTsAsym (i : Nat) : Nat := 0xFC018 + i
/-- TIME_GB_SEC_HI. -/
abbrev oidTimeGbSecHi : Nat := 0xFC020
/-- TIME_GB_SEC_LO. -/
abbrev oidTimeGbSecLo : Nat := 0xFC021
/-- TIME_GB_NS. -/
abbrev oidTimeGbNs : Nat := 0xFC022
/-- TIME_GB_GN. -/
abbrev oidTimeGbGn : Nat := 0xFC023
/-- GRAIN_ALIGNED. -/
abbrev oidGrainAligned : Nat := 0xFC024
/-- GPIO_TIME_OUT. -/
abbrev oidGpioTimeOut : Nat := 0xFC025
/-- TIME_STICKY. -/
abbrev oidTimeSticky : Nat := 0xFC026
/-- TIME_CNT. -/
abbrev oidTimeCnt (i : Nat) : Nat := 0xFC030 + i
/-- TA_DUE_SEC_HI. -/
abbrev oidTaDueSecHi (i : Nat) : Nat := 0xFC800 + 0x10 * i
/-- TA_DUE_SEC_LO. -/
abbrev oidTaDueSecLo (i : Nat) : Nat := 0xFC801 + 0x10 * i
/-- TA_DUE_NS. -/
abbrev oidTaDueNs (i : Nat) : Nat := 0xFC802 + 0x10 * i
/-- TA_CFG. -/
abbrev oidTaCfg (i : Nat) : Nat := 0xFC803 + 0x10 * i
/-- TA_ARG. -/
abbrev oidTaArg (i : Nat) : Nat := 0xFC804 + 0x10 * i
/-- TA_PERIOD. -/
abbrev oidTaPeriod (i : Nat) : Nat := 0xFC805 + 0x10 * i
/-- TA_WIDTH. -/
abbrev oidTaWidth (i : Nat) : Nat := 0xFC806 + 0x10 * i
/-- TA_STATUS. -/
abbrev oidTaStatus (i : Nat) : Nat := 0xFC807 + 0x10 * i
/-- TA_FIRE_CNT. -/
abbrev oidTaFireCnt (i : Nat) : Nat := 0xFC808 + 0x10 * i
/-- TA_LATE_CNT. -/
abbrev oidTaLateCnt (i : Nat) : Nat := 0xFC809 + 0x10 * i
/-- TA_MISSED_CNT. -/
abbrev oidTaMissedCnt (i : Nat) : Nat := 0xFC80A + 0x10 * i
/-- TA_IDLE_CNT. -/
abbrev oidTaIdleCnt (i : Nat) : Nat := 0xFC80B + 0x10 * i
/-- CAP_CFG. -/
abbrev oidCapCfg (i : Nat) : Nat := 0xFC400 + 0x10 * i
/-- CAP_SEQ. -/
abbrev oidCapSeq (i : Nat) : Nat := 0xFC401 + 0x10 * i
/-- CAP_SEC_HI. -/
abbrev oidCapSecHi (i : Nat) : Nat := 0xFC402 + 0x10 * i
/-- CAP_SEC_LO. -/
abbrev oidCapSecLo (i : Nat) : Nat := 0xFC403 + 0x10 * i
/-- CAP_NS. -/
abbrev oidCapNs (i : Nat) : Nat := 0xFC404 + 0x10 * i
/-- CAP_FRAC. -/
abbrev oidCapFrac (i : Nat) : Nat := 0xFC405 + 0x10 * i
/-- CAP_STICKY. -/
abbrev oidCapSticky (i : Nat) : Nat := 0xFC406 + 0x10 * i
/-- CAP_OVR_CNT. -/
abbrev oidCapOvrCnt (i : Nat) : Nat := 0xFC407 + 0x10 * i
/-- LANE_CFG. -/
abbrev oidLaneCfg (i : Nat) : Nat := 0xFD000 + 0x40 * i
/-- LANE_STATE. -/
abbrev oidLaneState (i : Nat) : Nat := 0xFD001 + 0x40 * i
/-- LANE_MAC_HI. -/
abbrev oidLaneMacHi (i : Nat) : Nat := 0xFD002 + 0x40 * i
/-- LANE_MAC_LO. -/
abbrev oidLaneMacLo (i : Nat) : Nat := 0xFD003 + 0x40 * i
/-- LANE_IPV4. -/
abbrev oidLaneIpv4 (i : Nat) : Nat := 0xFD004 + 0x40 * i
/-- LANE_NETMASK. -/
abbrev oidLaneNetmask (i : Nat) : Nat := 0xFD005 + 0x40 * i
/-- LANE_GATEWAY. -/
abbrev oidLaneGateway (i : Nat) : Nat := 0xFD006 + 0x40 * i
/-- LANE_STICKY. -/
abbrev oidLaneSticky (i : Nat) : Nat := 0xFD007 + 0x40 * i
/-- LANE_CNT. -/
abbrev oidLaneCnt (i j : Nat) : Nat := 0xFD010 + 0x40 * i + j
/-- LANE_RX_FRAMES. -/
abbrev oidLaneRxFrames (i : Nat) : Nat := 0xFD018 + 0x40 * i
/-- LANE_TX_FRAMES. -/
abbrev oidLaneTxFrames (i : Nat) : Nat := 0xFD019 + 0x40 * i
/-- LANE_QDROP. -/
abbrev oidLaneQdrop (i j : Nat) : Nat := 0xFD020 + 0x40 * i + j
/-- BRIDGE_MODE. -/
abbrev oidBridgeMode : Nat := 0xFD100
/-- BRIDGE_AGEING. -/
abbrev oidBridgeAgeing : Nat := 0xFD101
/-- NET_PCP_TC. -/
abbrev oidNetPcpTc : Nat := 0xFD102
/-- NET_TC_ROLES. -/
abbrev oidNetTcRoles : Nat := 0xFD103
/-- NET_CUT_MASK. -/
abbrev oidNetCutMask : Nat := 0xFD104
/-- NET_PAUSE_IMMUNE. -/
abbrev oidNetPauseImmune : Nat := 0xFD105
/-- NET_FCP_PORT. -/
abbrev oidNetFcpPort : Nat := 0xFD106
/-- NET_FCP_INBAND. -/
abbrev oidNetFcpInband : Nat := 0xFD107
/-- NET_CLAIM_EXT_ID. -/
abbrev oidNetClaimExtId : Nat := 0xFD108
/-- NET_FADE_LEN. -/
abbrev oidNetFadeLen : Nat := 0xFD109
/-- NET_HOST_FILTER. -/
abbrev oidNetHostFilter (i : Nat) : Nat := 0xFD10A + i
/-- NET_DSCP_TC. -/
abbrev oidNetDscpTc (i : Nat) : Nat := 0xFD110 + i
/-- GCL_CTRL. -/
abbrev oidGclCtrl (i : Nat) : Nat := 0xFD120 + 0x10 * i
/-- GCL_ADMIN_CYCLE. -/
abbrev oidGclAdminCycle (i : Nat) : Nat := 0xFD121 + 0x10 * i
/-- GCL_ADMIN_BASE_SEC_HI. -/
abbrev oidGclAdminBaseSecHi (i : Nat) : Nat := 0xFD122 + 0x10 * i
/-- GCL_ADMIN_BASE_SEC_LO. -/
abbrev oidGclAdminBaseSecLo (i : Nat) : Nat := 0xFD123 + 0x10 * i
/-- GCL_ADMIN_BASE_NS. -/
abbrev oidGclAdminBaseNs (i : Nat) : Nat := 0xFD124 + 0x10 * i
/-- GCL_OPER_LEN. -/
abbrev oidGclOperLen (i : Nat) : Nat := 0xFD125 + 0x10 * i
/-- GCL_OPER_CYCLE. -/
abbrev oidGclOperCycle (i : Nat) : Nat := 0xFD126 + 0x10 * i
/-- GCL_CHANGE_SEC_LO. -/
abbrev oidGclChangeSecLo (i : Nat) : Nat := 0xFD127 + 0x10 * i
/-- GCL_CHANGE_NS. -/
abbrev oidGclChangeNs (i : Nat) : Nat := 0xFD128 + 0x10 * i
/-- NET_SHAPER. -/
abbrev oidNetShaper (i j : Nat) : Nat := 0xFD140 + 0x10 * i + j
/-- NET_FDB_LO. -/
abbrev oidNetFdbLo (i : Nat) : Nat := 0xFD200 + 2 * i
/-- NET_FDB_HI. -/
abbrev oidNetFdbHi (i : Nat) : Nat := 0xFD201 + 2 * i
/-- NET_RX_CFG. -/
abbrev oidNetRxCfg (i : Nat) : Nat := 0xFD800 + 0x10 * i
/-- NET_RX_MATCH_LO. -/
abbrev oidNetRxMatchLo (i : Nat) : Nat := 0xFD801 + 0x10 * i
/-- NET_RX_MATCH_HI. -/
abbrev oidNetRxMatchHi (i : Nat) : Nat := 0xFD802 + 0x10 * i
/-- NET_RX_SRC_A. -/
abbrev oidNetRxSrcA (i : Nat) : Nat := 0xFD803 + 0x10 * i
/-- NET_RX_SRC_B. -/
abbrev oidNetRxSrcB (i : Nat) : Nat := 0xFD804 + 0x10 * i
/-- NET_RX_PRES_OFFSET. -/
abbrev oidNetRxPresOffset (i : Nat) : Nat := 0xFD805 + 0x10 * i
/-- NET_RX_TS_OFFSET. -/
abbrev oidNetRxTsOffset (i : Nat) : Nat := 0xFD806 + 0x10 * i
/-- NET_RX_STATUS. -/
abbrev oidNetRxStatus (i : Nat) : Nat := 0xFD807 + 0x10 * i
/-- NET_RX_STICKY. -/
abbrev oidNetRxSticky (i : Nat) : Nat := 0xFD808 + 0x10 * i
/-- NET_RX_CNT. -/
abbrev oidNetRxCnt (i j : Nat) : Nat := 0xFD809 + 0x10 * i + j
/-- NET_TX_CFG. -/
abbrev oidNetTxCfg (i : Nat) : Nat := 0xFE000 + 8 * i
/-- NET_TX_DEST. -/
abbrev oidNetTxDest (i : Nat) : Nat := 0xFE001 + 8 * i
/-- NET_TX_PORT. -/
abbrev oidNetTxPort (i : Nat) : Nat := 0xFE002 + 8 * i
/-- NET_TX_VLAN. -/
abbrev oidNetTxVlan (i : Nat) : Nat := 0xFE003 + 8 * i
/-- NET_TX_SSRC. -/
abbrev oidNetTxSsrc (i : Nat) : Nat := 0xFE004 + 8 * i
/-- NET_TX_TS_OFFSET. -/
abbrev oidNetTxTsOffset (i : Nat) : Nat := 0xFE005 + 8 * i
/-- NET_TX_FRAMES. -/
abbrev oidNetTxFrames (i : Nat) : Nat := 0xFE006 + 8 * i
/-- NET_TX_STATE. -/
abbrev oidNetTxState (i : Nat) : Nat := 0xFE007 + 8 * i
/-- DEV_ID. -/
abbrev oidDevId : Nat := 0xF0000
/-- DEV_REV. -/
abbrev oidDevRev : Nat := 0xF0001
/-- FW_VERSION. -/
abbrev oidFwVersion : Nat := 0xF0002
/-- OD_VERSION. -/
abbrev oidOdVersion : Nat := 0xF0003
/-- SESS_OPEN_CNT. -/
abbrev oidSessOpenCnt : Nat := 0xF0004
/-- TAG_POOL_USED. -/
abbrev oidTagPoolUsed : Nat := 0xF0005
/-- FCP_PC_ENABLE. -/
abbrev oidFcpPcEnable : Nat := 0xF0006
/-- SESS_EXPERT_MASK. -/
abbrev oidSessExpertMask : Nat := 0xF0007
/-- MGMT_LOAD. -/
abbrev oidMgmtLoad : Nat := 0xF0008
/-- FCP_STICKY. -/
abbrev oidFcpSticky : Nat := 0xF0009
/-- FCP_CNT. -/
abbrev oidFcpCnt (i : Nat) : Nat := 0xF0010 + i
/-- INT_CFG. -/
abbrev oidIntCfg (i : Nat) : Nat := 0xF0020 + i
/-- INT_PENDING. -/
abbrev oidIntPending (i : Nat) : Nat := 0xF0024 + i
/-- INT_EVT_CNT. -/
abbrev oidIntEvtCnt (i : Nat) : Nat := 0xF0040 + i
/-- SESS_INFO. -/
abbrev oidSessInfo (i : Nat) : Nat := 0xF0104 + 4 * i
/-- SESS_PEER_IP. -/
abbrev oidSessPeerIp (i : Nat) : Nat := 0xF0105 + 4 * i
/-- SESS_PEER_PORT. -/
abbrev oidSessPeerPort (i : Nat) : Nat := 0xF0106 + 4 * i
/-- SESS_EVT_MASK. -/
abbrev oidSessEvtMask (i : Nat) : Nat := 0xF0107 + 4 * i
/-- PCIE_STATUS. -/
abbrev oidPcieStatus : Nat := 0xFE800
/-- PCIE_SUBSYS. -/
abbrev oidPcieSubsys : Nat := 0xFE801
/-- HOST_STICKY. -/
abbrev oidHostSticky : Nat := 0xFE802
/-- HOST_CNT. -/
abbrev oidHostCnt (i : Nat) : Nat := 0xFE808 + i
/-- BUS_PRI. -/
abbrev oidBusPri (i : Nat) : Nat := 0xFE810 + i
/-- BUS_AGE_LIMIT. -/
abbrev oidBusAgeLimit : Nat := 0xFE81A
/-- BUS_ERR_TOTAL. -/
abbrev oidBusErrTotal : Nat := 0xFE81B
/-- BUS_ERR_NEWEST. -/
abbrev oidBusErrNewest : Nat := 0xFE81C
/-- BUS_ERR_CTRL. -/
abbrev oidBusErrCtrl : Nat := 0xFE81D
/-- BUSERR_ADDR. -/
abbrev oidBuserrAddr (i : Nat) : Nat := 0xFE820 + 4 * i
/-- BUSERR_INFO. -/
abbrev oidBuserrInfo (i : Nat) : Nat := 0xFE821 + 4 * i
/-- BUSERR_DT_SEC. -/
abbrev oidBuserrDtSec (i : Nat) : Nat := 0xFE822 + 4 * i
/-- BUSERR_DT_NS. -/
abbrev oidBuserrDtNs (i : Nat) : Nat := 0xFE823 + 4 * i
/-- TWIN_CFG. -/
abbrev oidTwinCfg : Nat := 0xFEC00
/-- TWIN_CTRL. -/
abbrev oidTwinCtrl : Nat := 0xFEC01
/-- TWIN_STATE. -/
abbrev oidTwinState : Nat := 0xFEC02
/-- TWIN_STATUS. -/
abbrev oidTwinStatus : Nat := 0xFEC03
/-- TWIN_CLAIM. -/
abbrev oidTwinClaim : Nat := 0xFEC04
/-- TWIN_PEER_CLAIM. -/
abbrev oidTwinPeerClaim : Nat := 0xFEC05
/-- TWIN_WTR. -/
abbrev oidTwinWtr : Nat := 0xFEC06
/-- TWIN_WTR_REM. -/
abbrev oidTwinWtrRem : Nat := 0xFEC07
/-- TWIN_SYNC_GRAINS. -/
abbrev oidTwinSyncGrains : Nat := 0xFEC08
/-- TWIN_CONV_LIMIT. -/
abbrev oidTwinConvLimit : Nat := 0xFEC09
/-- TWIN_ALT_WAIT. -/
abbrev oidTwinAltWait : Nat := 0xFEC0A
/-- TWIN_COPY_SIZE. -/
abbrev oidTwinCopySize : Nat := 0xFEC0B
/-- TWIN_COPY_PROG. -/
abbrev oidTwinCopyProg : Nat := 0xFEC0C
/-- TWIN_OFFSET. -/
abbrev oidTwinOffset : Nat := 0xFEC0D
/-- TWIN_LAST_CAUSE. -/
abbrev oidTwinLastCause : Nat := 0xFEC0E
/-- TWIN_STICKY. -/
abbrev oidTwinSticky : Nat := 0xFEC0F
/-- TWIN_CNT. -/
abbrev oidTwinCnt (i : Nat) : Nat := 0xFEC10 + i
/-- TWIN_SIG_RUN. -/
abbrev oidTwinSigRun : Nat := 0xFEC19
/-- GUARD_CTRL. -/
abbrev oidGuardCtrl : Nat := 0xF0800
/-- GUARD_UNLOCK. -/
abbrev oidGuardUnlock : Nat := 0xF0801
/-- GUARD_STATE. -/
abbrev oidGuardState : Nat := 0xF0802
/-- GUARD_STICKY. -/
abbrev oidGuardSticky : Nat := 0xF0803
/-- GUARD_FADE_IN. -/
abbrev oidGuardFadeIn : Nat := 0xF0804
/-- GUARD_HOLD. -/
abbrev oidGuardHold : Nat := 0xF0805
/-- GUARD_CLAMP_REL. -/
abbrev oidGuardClampRel : Nat := 0xF0806
/-- GUARD_MUTED_CNT. -/
abbrev oidGuardMutedCnt : Nat := 0xF0807
/-- GUARD_CNT. -/
abbrev oidGuardCnt (i : Nat) : Nat := 0xF0810 + i
/-- GUARD_DISC_CNT. -/
abbrev oidGuardDiscCnt : Nat := 0xF0819
/-- GUARD_FUSE_RANGE. -/
abbrev oidGuardFuseRange (i : Nat) : Nat := 0xF0820 + i
/-- GUARD_FUSE_CEIL. -/
abbrev oidGuardFuseCeil (i : Nat) : Nat := 0xF0830 + i
/-- FAULT_NEWEST. -/
abbrev oidFaultNewest : Nat := 0xF0900
/-- FAULT_TOTAL. -/
abbrev oidFaultTotal : Nat := 0xF0901
/-- FAULT_CTRL. -/
abbrev oidFaultCtrl : Nat := 0xF0902
/-- FAULT_WORD. -/
abbrev oidFaultWord (i : Nat) : Nat := 0xF0A00 + 4 * i
/-- FAULT_INSTAR. -/
abbrev oidFaultInstar (i : Nat) : Nat := 0xF0A01 + 4 * i
/-- FAULT_DT_SEC. -/
abbrev oidFaultDtSec (i : Nat) : Nat := 0xF0A02 + 4 * i
/-- FAULT_DT_NS. -/
abbrev oidFaultDtNs (i : Nat) : Nat := 0xF0A03 + 4 * i
/-- GUARD_CFG. -/
abbrev oidGuardCfg (i : Nat) : Nat := 0xF1000 + i
/-- GUARD_CEIL. -/
abbrev oidGuardCeil (i : Nat) : Nat := 0xF1800 + i
/-- GUARD_STATUS. -/
abbrev oidGuardStatus (i : Nat) : Nat := 0xF2000 + i
/-- PWR_STATE. -/
abbrev oidPwrState : Nat := 0xFF000
/-- PWR_CTRL. -/
abbrev oidPwrCtrl : Nat := 0xFF001
/-- PWR_DOMAINS. -/
abbrev oidPwrDomains : Nat := 0xFF002
/-- PWR_QUAD_STATE. -/
abbrev oidPwrQuadState : Nat := 0xFF003
/-- PWR_QGATE_EN. -/
abbrev oidPwrQgateEn : Nat := 0xFF004
/-- PWR_QGATE_MIN_RUN. -/
abbrev oidPwrQgateMinRun : Nat := 0xFF005
/-- PWR_AUTOSTART. -/
abbrev oidPwrAutostart : Nat := 0xFF006
/-- PWR_BOOT_CLK_WAIT. -/
abbrev oidPwrBootClkWait : Nat := 0xFF007
/-- PWR_BOOT_QUAL. -/
abbrev oidPwrBootQual : Nat := 0xFF008
/-- PWR_BOOT_INFO. -/
abbrev oidPwrBootInfo : Nat := 0xFF009
/-- PWR_BOOT_TIME. -/
abbrev oidPwrBootTime : Nat := 0xFF00A
/-- PWR_STICKY. -/
abbrev oidPwrSticky : Nat := 0xFF00B
/-- PWR_CNT. -/
abbrev oidPwrCnt (i : Nat) : Nat := 0xFF010 + i
/-- CHR_RTC_HI. -/
abbrev oidChrRtcHi : Nat := 0xFF020
/-- CHR_RTC_LO. -/
abbrev oidChrRtcLo : Nat := 0xFF021
/-- CHR_ALARM_HI. -/
abbrev oidChrAlarmHi : Nat := 0xFF022
/-- CHR_ALARM_LO. -/
abbrev oidChrAlarmLo : Nat := 0xFF023
/-- CHR_WAKE_CFG. -/
abbrev oidChrWakeCfg : Nat := 0xFF024
/-- CHR_USER. -/
abbrev oidChrUser (i : Nat) : Nat := 0xFF028 + i
/-- JNL_STATE. -/
abbrev oidJnlState : Nat := 0xFF400
/-- JNL_CTRL. -/
abbrev oidJnlCtrl : Nat := 0xFF401
/-- JNL_SEQ. -/
abbrev oidJnlSeq : Nat := 0xFF402
/-- JNL_QUEUED. -/
abbrev oidJnlQueued : Nat := 0xFF403
/-- JNL_FILL. -/
abbrev oidJnlFill : Nat := 0xFF404
/-- JNL_COMPACTING. -/
abbrev oidJnlCompacting : Nat := 0xFF405
/-- JNL_SNAP_GEN. -/
abbrev oidJnlSnapGen : Nat := 0xFF406
/-- JNL_SNAP_BYTES. -/
abbrev oidJnlSnapBytes : Nat := 0xFF407
/-- JNL_SNAP_CAP. -/
abbrev oidJnlSnapCap : Nat := 0xFF408
/-- JNL_FLASH_MIB. -/
abbrev oidJnlFlashMib : Nat := 0xFF409
/-- JNL_ERASE_MAX. -/
abbrev oidJnlEraseMax : Nat := 0xFF40A
/-- JNL_REPLAYED. -/
abbrev oidJnlReplayed : Nat := 0xFF40B
/-- JNL_DISCARDED. -/
abbrev oidJnlDiscarded : Nat := 0xFF40C
/-- JNL_STICKY. -/
abbrev oidJnlSticky : Nat := 0xFF40D
/-- JNL_CNT. -/
abbrev oidJnlCnt (i : Nat) : Nat := 0xFF410 + i
/-- DIE_TEMP. -/
abbrev oidDieTemp : Nat := 0xFF800
/-- DIE_TEMP_MAX. -/
abbrev oidDieTempMax : Nat := 0xFF801
/-- PATCH_DEFER_CNT. -/
abbrev oidPatchDeferCnt : Nat := 0xF6000
/-- GCL_ADMIN. -/
abbrev oidGclAdmin (i j : Nat) : Nat := 0xFD400 + 0x100 * i + j
/-- GCL_OPER. -/
abbrev oidGclOper (i j : Nat) : Nat := 0xFD600 + 0x100 * i + j

end Sys2Proof.Machine
end

