-- ==== Sys2Proof/Machine/State.lean ====
section
/-!
DEFINITION. The state of the SH9512 as plain data: one structure per block, the objects of the system area in one
sparse map, and the queue of waiting commands. Every numbered collection is a sparse map (`SMap`) whose unlisted
entries read as the block's reset record.
-/

namespace Sys2Proof.Machine

/-- The reasons for which the machine stops. No rule of the spec stops the block: refusals are status codes (R434) and
bus errors are log entries (R472). The one reason is never answered; it keeps the type inhabited. Safe. -/
inductive Fault where
  /-- Raised by no command. Safe: it only withholds behaviour. -/
  | unreachable
  deriving DecidableEq, Repr

/-- The reasons for which a command has no meaning. -/
inductive Refusal where
  /-- Raised by an arm of `exec` whose command has no meaning yet. Safe: nothing is claimed of it. -/
  | notModelled (mnemonic : String)
  deriving DecidableEq, Repr

/-! ### Compute tiles (R38, R60, R73, R75, R106) -/

/-- One accumulator of one lane: 80 bits, AOV and OSGN (R38, R46). -/
structure AccVal where
  v : Acc := 0
  aov : Bool := false
  osgn : Bool := false
  deriving DecidableEq, Repr

/-- One address register set (R61). Before an image has loaded the tile, its sets hold these values (DESIGN CHOICE, log 8). -/
structure AddrSet where
  base : Nat := 0
  len : Nat := 1
  ptr : Nat := 0
  step : Int := 0
  mode : Nat := 0
  brw : Nat := 0
  deriving DecidableEq, Repr

/-- The pending writes of one address register set (R65): BASE, LEN, STEP and MOD, each alone. -/
structure AsShadow where
  base : Option Nat := none
  len : Option Nat := none
  step : Option Int := none
  md : Option (Nat × Nat) := none
  deriving DecidableEq, Repr

/-- One loop level (R105): active while `left` is not zero. -/
structure LoopLevel where
  first : Nat := 0
  last : Nat := 0
  left : Nat := 0
  deriving DecidableEq, Repr

/-- What a result in flight writes when it lands (R73). -/
inductive LandOp where
  /-- A data register, in the lanes of the mask. -/
  | reg (d : Nat) (mask : Byte) (vals : List Word)
  /-- A predicate, in the lanes of the mask. -/
  | pred (k : Nat) (mask : Byte) (vals : Byte)
  /-- The value of an accumulator that stores and foreign ACCADD sources see. -/
  | acc (i : Nat) (mask : Byte) (vals : List AccVal)
  /-- A pointer of an address set. -/
  | ptr (k : Nat) (p : Nat)
  /-- Contributions to BEXP. -/
  | bexp (v : Nat)
  /-- A DM word, in the lanes of the mask. -/
  | mem (a : Nat) (mask : Byte) (vals : List Word)
  deriving DecidableEq, Repr

/-- A result in flight: the ecyc from which it is seen, the priority of R74 (larger wins), the order of issue. -/
structure Land where
  at' : Nat
  prio : Nat
  seq : Nat
  op : LandOp
  deriving DecidableEq, Repr

/-- A send on the TXB that has issued (R71). -/
structure TxbSend where
  cyc : Nat
  ch : Nat
  vals : List Word
  deriving DecidableEq, Repr

/-- The overflow mute of one marked store in one lane (R52): 0 none, 1 down from position `p`, 2 up at sample `k`. -/
structure OvfMute where
  phase : Nat := 0
  p : Nat := 0
  k : Nat := 0
  deriving DecidableEq, Repr

/-- The checkpoint engine's record of one tile (R136): the last complete pass, the pass in progress, its age. -/
structure Ckpt where
  valid : Bool := false
  area : SMap Word := []
  age : Nat := 0
  pos : Nat := 0
  pass : SMap Word := []
  deriving DecidableEq, Repr

/-- An access through the tile configuration window that waits for a window cycle (R59): a word of DM lane `addr`
(8 × word + lane), to be read, or to be written in the bytes of `bytes`. -/
structure T3Acc where
  write : Bool
  addr : Nat
  data : Word := 0
  bytes : BitVec 4 := 15
  deriving DecidableEq, Repr

/-- The slots and fields that a PM word may carry (R108), with phase 1 of the cycle for a window access (R59). -/
inductive SlotKind where
  | mac
  | store
  | mem0
  | mem1
  | alu
  | agu (unit : Nat)
  | send (ch : Nat)
  | recv (ch : Nat)
  | loop
  | window
  deriving DecidableEq, Repr

/-- One compute tile (R38). DM is keyed by 8 × word + lane; D by 8 × register + lane; A by 8 × i + lane; K by
8 × k + lane; `ptr96` holds the pointers in force at ecyc 96 of the grain in progress (R447). `used` lists
what the word at `ip` has carried so far in ecyc `cyc`, `pmErr` the PM words whose check bits fail in the grain in progress, with
true for an uncorrectable one, `pmHits` those that have issued and are not yet counted, newest first (R60). -/
structure Tile where
  d : SMap Word := []
  a : SMap AccVal := []
  aSeen : SMap AccVal := []
  k : SMap Bool := []
  sets : SMap AddrSet := []
  shadows : SMap AsShadow := []
  bexp : Nat := 31
  ip : Nat := 0
  loops : SMap LoopLevel := []
  dm : SMap Word := []
  pm : SMap PmWord := []
  cyc : Nat := 96
  seq : Nat := 0
  lands : List Land := []
  sends : List TxbSend := []
  failed : Bool := false
  ovfLogged : Bool := false
  stCount : SMap Nat := []
  mutes : SMap OvfMute := []
  t3used : Nat := 0
  ckpt : Ckpt := {}
  fails : List Nat := []
  t3q : List T3Acc := []
  ptr96 : SMap Nat := []
  used : List SlotKind := []
  pmErr : List (Nat × Bool) := []
  pmHits : List (Nat × Bool) := []
  deriving DecidableEq, Repr

/-! ### Schedule images (R110, R111, R137–R145) -/

/-- An image buffer of 16 MiB: its bytes (an unlisted byte reads 0) and the bytes received (R110, R112). -/
structure ImgBuf where
  bytes : SMap Byte := []
  recv : Nat := 0
  deriving DecidableEq, Repr

/-- The activation in progress (R137, R138): `phase` 0 none, 1 waits for b0, 3 fades out over `len` samples, 4 stopped
and loading, 5 loaded. `back` says that the previous image was loaded in place of a refused one (R231), `copied`
that the carried state came with a twin's copy (R492), `peerWait` that the standby has not yet verified the image, `b0` the first boundary at which it may begin (R488). -/
structure Activation where
  phase : Nat := 0
  partial' : Bool := false
  atTime : Bool := false
  fired : Bool := false
  samples : Nat := 0
  changed : List Nat := []
  fadeSet : List Nat := []
  carried : SMap (List Word) := []
  len : Nat := 0
  back : Bool := false
  copied : Bool := false
  peerWait : Bool := false
  b0 : Option Word := none
  deriving DecidableEq, Repr

/-- The weight the patch unit gives the samples released from one TOC (R138, R144, R145): zero while `zero`, else
(L − k)/L of a running fade-out times (k + 1)/L of a running fade-in. `wait` counts the grain boundaries until the first
output grain, with which the fade-in over `inLen` begins; `soon` says that zero begins with the next grain; `retired` marks a TOC without placement. -/
structure TocFade where
  zero : Bool := false
  outLen : Nat := 0
  outK : Nat := 0
  inLen : Nat := 0
  inK : Nat := 0
  wait : Nat := 0
  soon : Bool := false
  retired : Bool := false
  deriving DecidableEq, Repr

/-- A reload or a takeover in progress (R144, R526): the tile whose work is loaded, the tile that receives it (the
carrier itself for a reload), the fallback set; `phase` 1 loading, 2 loaded. -/
structure Takeover where
  work : Nat
  onto : Nat
  phase : Nat
  fallback : List Nat
  deriving DecidableEq, Repr

/-- The image engine. `fromNor` says that PENDING was read from a NOR slot and `norBad` that the slot holds no
image; `retirePend` lists the tiles whose retirement waits for the start of a new image (R142); `retired` and `failGns` are PD2's record of retired tiles and of the grain numbers of failures
(R75, R525); `quadRun` counts the grains for which a quadrant has been ON (R538); `relock` says that DA relocks for a new
rate, `relockStop` that the tiles are stopped under R27; `spare q` is the tile whose work the spare of quadrant q carries. -/
structure ImgSt where
  active : ImgBuf := {}
  running : Bool := false
  pend : ImgBuf := {}
  nor0 : Option ImgBuf := none
  nor1 : Option ImgBuf := none
  bootSlot : Bool := false
  norBad : Bool := false
  fromNor : Bool := false
  act : Activation := {}
  autoAct : Bool := false
  toc : SMap TocFade := []
  takeovers : List Takeover := []
  engaged : SMap Nat := []
  retired : List Nat := []
  retirePend : List Nat := []
  failGns : SMap (List Nat) := []
  quadRun : SMap Nat := []
  relock : Bool := false
  relockStop : Bool := false
  deriving DecidableEq, Repr

/-! ### Patch unit, routing and silence (R161, R172–R178, R182–R184) -/

/-- One patch sink: the route in force, the crossfade running, the waiting change, the validity fade. `vdir` 0 valid,
1 fading to zero, 2 zero, 3 fading in. -/
structure PatchSink where
  src : Nat := 0xFFFF
  xfOld : Nat := 0xFFFF
  xfK : Nat := 0
  xfL : Nat := 0
  xfGain : Bool := false
  waiting : Option Nat := none
  vdir : Nat := 0
  vk : Nat := 0
  vlen : Nat := 0
  deriving DecidableEq, Repr

/-- A route switch of R161 that fades: `p0` and `tgt` are binary32 positions, `mb` the first grain of the fade, `len`
its length in samples. For DIRECT_TAP, the tap faded from, the tap faded to and the change that waits. An unlisted
switch is at rest. -/
structure Switch where
  run : Bool := false
  p0 : Word := 0
  tgt : Word := 0
  mb : Word := 0
  len : Nat := 0
  fromTap : Nat := 0
  toTap : Nat := 0
  waiting : Option Nat := none
  deriving DecidableEq, Repr

/-- One silence detector (R184). Times are counts of the silence clock: the last loud sample (or restart) of the
input, the last loud report of the tail. `level` is the last tail report, the larger sum of squares of T5 and T6, `reported` whether there was one
since the tiles started. -/
structure SilDet where
  loudAt : Nat := 0
  tailAt : Nat := 0
  level : Nat := 0
  reported : Bool := false
  deriving DecidableEq, Repr

/-- The patch unit and the grain staging. `srcNow` is the sample each port source delivers in this sample period,
`srcPrev` the one before, which the patch unit takes; `ticBuf` holds the input grain under assembly and `ticGrain` the
grain delivered last, keyed 16 × TIC + position; `tocGrain` and `tocPrev` hold the output grains, keyed 16 × TOC +
position; `sinkOut` what each port sink was released last, `sinkGrain` the grain of releases that the signature covers
(R495). `pos` is the position of the next sample in the grain. The silence clock `silClock` counts samples of domain A
while the tiles run, from `silBase` since the last restart of every timer. -/
structure MixSt where
  sinks : SMap PatchSink := []
  switches : SMap Switch := []
  dets : SMap SilDet := []
  srcNow : SMap Word := []
  srcPrev : SMap Word := []
  ticBuf : SMap Word := []
  ticGrain : SMap Word := []
  tocGrain : SMap Word := []
  tocPrev : SMap Word := []
  sinkOut : SMap Word := []
  sinkGrain : SMap Word := []
  pos : Nat := 0
  silClock : Nat := 0
  silBase : Nat := 0
  silHeld : Bool := false
  silIn : Nat := 0
  silOut : Nat := 0
  silChg : Bool := false
  deriving DecidableEq, Repr

/-! ### Sessions (R413–R441) -/

/-- An event record (R436). `sent` says that it has been sent in an EVENT frame (R438). -/
structure EvRecord where
  code : Nat
  seq : Nat
  instar : Word
  sec : Word
  ns : Word
  arg0 : Word
  arg1 : Word
  sent : Bool := false
  deriving DecidableEq, Repr

/-- A completion or a direct response: the device frame of R419. -/
structure Completion where
  opcode : Nat := 0
  session : Nat := 0
  tag : Nat := 0
  status : Nat := 0
  phase : Nat := 0
  index : Nat := 0
  instar : Word := 0
  body : List Byte := []
  deriving DecidableEq, Repr

/-- A command that executes and has not finished (R430): a write that publishes the sets `sets`, which are
being prepared, or SYNC_SUMMARY. -/
structure Waiting where
  tag : Nat
  opcode : Nat
  sets : List Nat
  deriving DecidableEq, Repr

/-- One session (R415). `st` 0 FREE, 1 OPEN, 2 CLOSING. Head and tail of the completion queue count completions since
the session opened; entry index and pass follow from them (R431). `tags t`: 0 free, 1 executing, 2 + n holding
completion number n. `meters` says that the session holds meter reads enabled (R281). -/
structure Session where
  st : Nat := 0
  reason : Nat := 0
  pc : Nat := 0
  expert : Bool := false
  credit : Nat := 0
  timeout : Nat := 0
  port : Nat := 0
  ip : Word := 0
  udp : Nat := 0
  openTag : Nat := 0
  closeTag : Option Nat := none
  cq : SMap Completion := []
  head : Nat := 0
  tail : Nat := 0
  tags : SMap Nat := []
  waiting : List Waiting := []
  mask : Word := 0
  evq : List EvRecord := []
  evSeq : Nat := 0
  dropped : Nat := 0
  lost : Nat := 0
  meters : Bool := false
  txLane : Nat := 0
  txFrame : List Byte := []
  overwritten : Nat := 0
  deriving DecidableEq, Repr

/-- What the last command answered (R434): the status, the OID concerned, the entry, the body. -/
structure Answer where
  status : Nat := 0
  oid : Nat := 0xFFFFFFFF
  index : Nat := 0
  body : List Byte := []
  deriving DecidableEq, Repr

/-! ### Parameter store and moult engine (R190, R202) -/

/-- The parameter store entry of a staged scalar (R190). START is a binary32 word for the laws that ramp. -/
structure PsEntry where
  start : Word := 0
  target : Word := 0
  mb : Word := 0
  n : Nat := 0
  inst : Word := 0
  sval : Word := 0
  staged : Bool := false
  owner : Nat := 0
  nramp : Nat := 0x3FFF
  deriving DecidableEq, Repr

/-- A commit (R202): `st` 0 ARMED, 1 FOLDING, 2 RAMPING. `mode` 0 IMMEDIATE, 1 AT_TIME, 2 ON_PIN. `ready` says that
its latch boundary has come (R204), `lb` the first boundary that may latch it (R204, R488); `set` and `bulk` are fixed at the latch. -/
structure Commit where
  instar : Word
  mode : Nat
  all : Bool
  session : Nat
  ramp : Option Nat
  st : Nat := 0
  lb : Word := 0
  ready : Bool := false
  m : Word := 0
  begun : Bool := false
  set : List Nat := []
  bulk : List (Nat × Nat) := []
  deriving DecidableEq, Repr

/-- The moult engine and the CSU. `csuAll` is the grain in which the CSU recomputes every section for a new Fs_A. -/
structure MoultSt where
  commits : List Commit := []
  assigned : Word := 0
  secFlags : SMap Nat := []
  csuAll : Option Word := none
  deriving DecidableEq, Repr

/-! ### DMEM: delay lines, bulk sets, FIR outputs (R229–R248) -/

/-- A delay line of an owner (R233–R239). `ring` is the ring number plus one, 0 while unserved; `d` the realised delay
in force, `dOld` the tap faded from, `k` and `len` the crossfade (`len` 0 while none runs). `wMode` 0 at rest, 1 W_L
rising, 2 W_L falling, from grain `wMb` over `wLen` samples. -/
structure Line where
  ring : Nat := 0
  d : Nat := 0
  dOld : Nat := 0
  k : Nat := 0
  len : Nat := 0
  waiting : Option Nat := none
  last : Word := 0
  wMode : Nat := 0
  wMb : Word := 0
  wLen : Nat := 0
  deriving DecidableEq, Repr

/-- A bulk set (R242): `st` 0 CLEAN, 1 DIRTY, 2 PUBLISHED, 3 COPYING. -/
structure BulkSet where
  st : Nat := 0
  owner : Nat := 0
  damaged : Bool := false
  overR : Bool := false
  preparing : Bool := false
  lenCur : Nat := 0
  lenEdit : Nat := 0
  deriving DecidableEq, Repr

/-- The FIR selection of an output (R245–R248): the bank in force and its set; a load in progress. `phase` 0 idle,
1 loading set `next` into the idle bank (`words` DM words written), 2 slice complete, 3 fading from grain `mb` over
`len` samples. `stale`: the selection is loaded into bank A when the tile next starts. -/
structure FirOut where
  bankB : Bool := false
  sel : Nat := 0
  phase : Nat := 0
  next : Nat := 0
  words : Nat := 0
  mb : Word := 0
  len : Nat := 0
  waiting : Option Nat := none
  stale : Bool := false
  deriving DecidableEq, Repr

/-- DMEM beyond the image buffers. Rings are keyed 262,144 × ring + word; bulk words by OID; spectral words by
2^22 × set + word. `raw` holds the bytes that T2 has written into areas whose layout R229 does not give. `units` counts the
traffic of the grain in progress in units of 32 bytes, `loads` the traffic of those grains of the last second that no later
one has reached (R250, R251). -/
structure DmemSt where
  rings : SMap Word := []
  lines : SMap Line := []
  cur : SMap Word := []
  edit : SMap Word := []
  specCur : SMap Word := []
  specEdit : SMap Word := []
  sets : SMap BulkSet := []
  firs : SMap FirOut := []
  raw : SMap (Option Byte) := []
  units : Nat := 0
  loads : List (Nat × Nat) := []
  deriving DecidableEq, Repr

/-! ### Rate domains, bridges and decimation chains (R256–R287) -/

/-- A fade of a signal: `dir` 0 none, 1 to zero over 32 samples, 2 zero, 3 in over `len` samples; `k` samples done. -/
structure Fade where
  dir : Nat := 0
  k : Nat := 0
  len : Nat := 0
  deriving DecidableEq, Repr

/-- A bridge channel (R261, R262, R265): its last 552 input samples, newest first, the converter's outputs that have not left
(R266), the fade of its validity. -/
structure BrgCh where
  hist : List Word := []
  pipe : List Word := []
  fade : Fade := {}
  deriving DecidableEq, Repr

/-- A decimation chain (R270–R278), 0–63 modulator, 64–79 analysis. `st` 0 OFF, 1 UNSETTLED, 2 SETTLED, 3 FAULT. `integ`
and `comb` are the registers of the moving-average stages; `ph` inputs since the last stage output, `stages` the stage
outputs since the reset (last 512, newest first), `nst` their number, `cur` the output in force, `outs` outputs since the
reset; `fresh` says that the reset boundary is this one. `dep` is the accumulated departure of the edge count, `counts`
the last 64 counts, `silent` the periods without an edge, `stable` the periods within ±2; `fade` counts the fault fade. -/
structure Chain where
  st : Nat := 0
  integ : List Acc := []
  comb : List (List Acc) := []
  ph : Nat := 0
  stages : List Int := []
  nst : Nat := 0
  cur : Word := 0
  outs : Nat := 0
  fresh : Bool := false
  dep : Int := 0
  counts : List Nat := []
  silent : Nat := 0
  stable : Nat := 0
  fade : Fade := {}
  deriving DecidableEq, Repr

/-- A requested synchronising reset (R275): its source (0 ENABLE, 1 pin, 2 command, 3 time action, 4 re-entry or slip),
its masks, the chains still to be reset. -/
structure SyncReq where
  src : Nat
  modMask : Nat
  acMask : Nat
  left : List Nat
  deriving DecidableEq, Repr

/-- The conversion block. `rateA` is the domain A rate in force; `dom` the domain in force of every item, keyed
128 × kind + number (kinds 0 port, 1 receive stream, 2 transmit stream, 3 modulator clock); `grpFade` the fade of each
bridge group, `outCfg` the configuration under which it still fades out, `phases` its tracker's phase sample, `lockCnt` the
domain A samples for which an acquiring tracker's error has been small (R264); `farCnt` counts the boundaries of domains B
and C since the last of domain A. Meters are keyed by OID: `meters` as they read, `mhist` largest magnitude and sum of squares of the last
grains, newest first, `macc` those of the grain in progress. `settled` counts chains that settled in the grain. -/
structure ConvSt where
  rateA : Nat := 2
  dom : SMap Nat := []
  grpFade : SMap Fade := []
  outCfg : SMap (Option Word) := []
  phases : SMap Word := []
  lockCnt : SMap Nat := []
  farCnt : SMap Nat := []
  chs : SMap BrgCh := []
  chains : SMap Chain := []
  reqs : List SyncReq := []
  settled : Nat := 0
  meters : SMap Word := []
  mhist : SMap (List (Nat × Nat)) := []
  macc : SMap (Nat × Nat) := []
  deriving DecidableEq, Repr

/-! ### TDM ports (R288–R315) -/

/-- The level of a TXD pin: high impedance, driven low, driven high (R289, R290, R294). -/
inductive Txd where
  | z
  | low
  | high
  deriving DecidableEq, Repr

/-- One slot of one direction (R296–R298): `st` 0 carries zero, 1 waits for a zero crossing at zero, 2 fades in, 3 full,
4 runs to its crossing before a stop, 5 fades to zero after a timeout. `k` counts the fade-in over `len` samples; `w` is the
weight held during a stop, Q2.30; `j` counts the timeout fade; `prev` the signal's previous sample; `out` what the slot
carries. -/
structure PSlot where
  st : Nat := 0
  k : Nat := 0
  len : Nat := 0
  w : Int := 0
  j : Nat := 0
  prev : Option Word := none
  out : Word := 0
  deriving DecidableEq, Repr

/-- One port. `stable` counts stable frames, `bpf0` the BPF of the frame before, `win` the deviations of the last 256
frame periods, newest first; `phase` the phase of its last FS; `lockBpf` and `ph0` the BPF and phase recorded at lock;
`offs` the consecutive frames with a period outside ±0.5 %; `oddBpf` and `odds` the consecutive frames of one BPF that is
not the locked one; `ferrs` the times of framing errors; `tick` counts boundaries of the port's domain. `frame` is the good
frame that has arrived since the last boundary, `wait` the one before it, `hand` the one handed over at this boundary;
`twice` that a frame has arrived since the last boundary. `subst` counts the substitutes of R301; `entry` says that the
slots start at the next boundary; `held` that the port waits for its group, `been` that it has entered since START; `zc`
counts boundaries since the entry or the STOP; `again` that a START follows the stop. `drives` says that the port drives
TXD, `drives0` that it does so at position 0 of the next frame; `line` holds the levels of TXD in the bit periods of the
last frame that arrived; `timing` is PORT_TIMING in force since START; `fsw` is PORT_MEAS_FSW. -/
structure Port where
  stable : Nat := 0
  bpf0 : Option Nat := none
  win : List Int := []
  phase : Int := 0
  lockBpf : Nat := 0
  ph0 : Int := 0
  offs : Nat := 0
  oddBpf : Nat := 0
  odds : Nat := 0
  ferrs : List Nat := []
  tick : Nat := 0
  frame : Option (List Word) := none
  wait : Option (List Word) := none
  hand : Option (List Word) := none
  twice : Bool := false
  subst : Option Nat := none
  entry : Bool := false
  held : Bool := false
  been : Bool := false
  zc : Nat := 0
  again : Bool := false
  drives : Bool := true
  drives0 : Bool := true
  line : List Txd := []
  timing : Word := 1
  fsw : Nat := 0
  rx : SMap PSlot := []
  tx : SMap PSlot := []
  deriving DecidableEq, Repr

/-- An alignment group (R304, R305): the FS phase of the member with which it entered, the number of boundaries from that FS
to its handover, the frame index. -/
structure AlignGrp where
  phase : Int := 0
  hand : Int := 0
  index : Nat := 0
  deriving DecidableEq, Repr

/-! ### DPLLs and output groups (R328–R334) -/

/-- One DPLL. `freq` is its output offset in ppb; `stage` the acquisition stage; `locked` says that it has been LOCKED
since OFF, `lastRef` on which reference last; `direct` that its next acquisition aligns directly, `first` that the one in
progress does (R331); `hist` the offsets of
the last 61 s in LOCKED, one per 100 ms, newest first; `revert` that a reversion waits for LOCKED; `cause` why it last
lost its reference. -/
structure Dpll where
  freq : Int := 0
  stage : Nat := 0
  locked : Bool := false
  lastRef : Nat := 8
  direct : Bool := true
  first : Bool := false
  hist : List Int := []
  revert : Bool := false
  cause : Nat := 0
  deriving DecidableEq, Repr

/-- The monitor of one reference (R317, R321): the mean offsets of the last ten intervals of 100 ms, corrected, and the
one-second offsets of the last 15.1 s, newest first, in ppb; whether the offset is above the soft limit; the updates for
which the requalification conditions have held. -/
structure RefMon where
  parts : List Int := []
  offs : List Int := []
  soft : Bool := false
  good : Nat := 0
  deriving DecidableEq, Repr

/-- The clock block: the DPLLs, the monitors of the references, and the offset of each output group against DA's grid in ps (R334). -/
structure ClkSt where
  dplls : SMap Dpll := []
  refs : SMap RefMon := []
  ogOff : SMap Int := []
  deriving DecidableEq, Repr
/-! ### The time unit (R344–R363) -/

/-- The message engine (R349, R351, R353): the last Sync that waits for its Follow_Up (sequence, ingress time, correction),
the last t2 − t1 − correction and its t1, the priority that the parent announced; by lane, the last request sent (sequence,
egress time), a peer response that waits for its follow-up (sequence, t4 − t1, t2, correction) and meanPathDelay; the
message sent last; times in 2^−16 ns. -/
structure PtpSt where
  sync : Option (Nat × Int × Int) := none
  down : Int := 0
  origin : Int := 0
  prio : Half := 0
  req : SMap (Option (Nat × Int)) := []
  presp : SMap (Option (Nat × Int × Int × Int)) := []
  delay : SMap Int := []
  sent : Option PtpMsg := none
  deriving DecidableEq, Repr

/-- The time unit. `dt` is DT in units of 2^−48 ns; `y` the servo's frequency in 2^−48 ns per cycle (R347); `cyc` counts
time-clock cycles; `lockedAt` and `yHist` the cycle at which LOCKED began and the values of y since, newest first, each
with the cycle it began, `yMean` its mean over the last 16 s of LOCKED when that ended; `good` and `bad` the runs of samples of R350; `sample` an offset sample in ns that the servo has
not taken. `gb` is the DT of the last grain boundary and `gbDur` the length of the grain that ended at it, as DT (R354).
`late` names the entries that fire late (R359), `pulses` the pins of pulses that run, by entry, `gpio` the levels that
time actions drive; `capAt` the cycle of the last record of a channel (R362); `sb` the DT of the last sample boundary of each domain (R386). -/
structure TimeSt where
  dt : Nat := 0
  y : Int := 0
  cyc : Nat := 0
  lockedAt : Nat := 0
  yHist : List (Nat × Int) := []
  yMean : Option Int := none
  good : Nat := 0
  bad : Nat := 0
  sample : Option Int := none
  gb : Nat := 0
  gbDur : Nat := 0
  late : List Nat := []
  pulses : SMap Nat := []
  gpio : Word := 0
  capAt : SMap (Option Nat) := []
  ptp : PtpSt := {}
  sb : SMap Nat := []
  deriving DecidableEq, Repr

/-! ### The network (R370–R396) -/

/-- A descriptor of a ring (R393): where its buffer lies in T7 and how long it is, the bytes in it, FLAGS, the timestamp. -/
structure Desc where
  addr : Nat
  bufLen : Nat
  len : Nat
  flags : Nat
  tsSec : Nat
  tsNs : Nat
  deriving DecidableEq, Repr

/-- A frame in a queue: its length with FCS, its class, the port it came from (0–3 a lane, 8 the device), the DT of its
ingress in 2^−48 ns, its bytes from the destination address on, or the media packet it carries; whether its FCS leaves
inverted (R374), the time-clock cycle before which it does not start (R374), the transmit ring and the descriptors that it
came from (R393). -/
structure Frame where
  len : Nat
  tc : Nat
  src : Nat
  at' : Nat
  bytes : List Byte
  pkt : Option MediaPkt := none
  bad : Bool := false
  ready : Nat := 0
  descs : Nat × List Desc := (0, [])
  deriving DecidableEq, Repr

/-- A pause frame that a lane sends: priority pause while `pfc`, the priorities it names, the quanta (R383). -/
structure PauseFrame where
  pfc : Bool
  enable : Nat
  quanta : Nat
  deriving DecidableEq, Repr

/-- A gate control list (R377): entries, cycle time in ns, base time in ns. -/
structure GclList where
  entries : List Word := []
  cycle : Nat := 0
  base : Nat := 0
  deriving DecidableEq, Repr

/-- The gates of a lane (R377, R378): the pending list and its change time, the list in force, the entry in force, the DT
in ns at which its cycle began. -/
structure Gcl where
  pend : Option GclList := none
  change : Nat := 0
  oper : GclList := {}
  idx : Nat := 0
  start : Nat := 0
  deriving DecidableEq, Repr

/-- One slot of a receive buffer (R390): the claim and the sample of every channel. -/
structure RxSlot where
  claim : Nat
  vals : List Word
  deriving DecidableEq, Repr

/-- A receive stream (R389–R391); its state stands in NET_RX_STATUS. `pos` is the media count of the sample at the
position, `begun` says that the position has been reached; `slots` by media count; `k` counts the fade that runs, `out`
that it is a fade-out before `next`, `len` the fade length latched at its start, `wn`/`wd` the weight that the channels
had when a fade-out began; `cfg` the configuration that the channels follow; `last` what each channel delivered before the
fade-out, `vals` what it delivers; `seqs` the last sequence number by lane and source; `paths` the time-clock cycle of the last packet by lane; `fmtAt` that
of the last NET_RX_FORMAT. -/
structure NetRx where
  pos : Nat := 0
  begun : Bool := false
  slots : SMap RxSlot := []
  k : Nat := 0
  out : Bool := false
  next : Nat := 0
  len : Nat := 1
  wn : Nat := 1
  wd : Nat := 1
  cfg : Word := 0
  last : List Word := []
  vals : List Word := []
  seqs : List ((Nat × Nat) × Nat) := []
  paths : SMap (Option Nat) := []
  fmtAt : Option Nat := none
  deriving DecidableEq, Repr

/-- A transmit stream (R386): the samples of the packet that fills, its first media count and the DT of that boundary in
ns, the packet that is full, the next sequence number. -/
structure NetTx where
  fill : List (List Word) := []
  first : Nat := 0
  firstAt : Nat := 0
  full : Option MediaPkt := none
  seq : Nat := 0
  deriving DecidableEq, Repr

/-- The network. `fdb` holds learned entries (address, VID, lane, time-clock cycle of the last frame); queues are keyed
8 × lane + class, as are credits (10^−6 bit), their times, the cycles at which pauses in force run out and the quanta that
the peer of a lane was last sent; `pauseOut` is the pause frame that a lane sent last, `txEnd` is the cycle at which a lane's transmission ends, `txCls` its class, `sent` the last frame started;
`rings` the descriptors returned last, keyed 8 × lane + ring, the transmit rings from 4 on. -/
structure NetSt where
  fdb : List (Nat × Nat × Nat × Nat) := []
  queues : SMap (List Frame) := []
  txEnd : SMap Nat := []
  txCls : SMap Nat := []
  sent : SMap (Option Frame) := []
  cred : SMap Int := []
  credAt : SMap Nat := []
  paused : SMap Nat := []
  asked : SMap Nat := []
  pauseOut : SMap (Option PauseFrame) := []
  gcl : SMap Gcl := []
  rings : SMap (List Desc) := []
  rx : SMap NetRx := []
  tx : SMap NetTx := []
  deriving DecidableEq, Repr

/-! ### Hosts and the bus matrix (R446–R473) -/

/-- A SPI or SERVICE port (R460–R462): CRC_ERR, OVERRUN, the SENDs accepted, the direct responses written and the last
eight of them, each with its DIRECT_SEQ. -/
structure SpiPort where
  crcErr : Bool := false
  overrun : Bool := false
  sends : Nat := 0
  dseq : Nat := 0
  direct : List (Nat × List Byte) := []
  deriving DecidableEq, Repr

/-- A host channel (R451, R452): SQ_TAIL and SQ_HEAD with their WRAP bit, DRSP_SEQ and the DIRECT slot. -/
structure Chan where
  sqTail : Nat := 0
  sqHead : Nat := 0
  dseq : Nat := 0
  direct : List Byte := []
  deriving DecidableEq, Repr

/-- The host interfaces and the matrix. `sram` holds T4 and `netRam` T7 by address; `frx` counts FRAME_RX segments and
`frxSlots` holds the ring's slots; `msix` is the MSI-X table, `pba` its pending bits, `msi` counts the messages sent of each vector; `subsys` is the PCIE_SUBSYS presented; `locks`
names the master that holds a target locked plus one, `satAt` is the time-clock cycle of the last MGMT_SATURATED, `granted` the master last granted at a target plus one; `wait` the
requests not yet granted. -/
structure HostSt where
  spi : SMap SpiPort := []
  chans : SMap Chan := []
  sram : SMap Byte := []
  netRam : SMap Byte := []
  frx : Nat := 0
  frxSlots : SMap (List Byte) := []
  msix : SMap Word := []
  msi : SMap Nat := []
  pba : Word := 0
  subsys : Word := 0
  locks : SMap Nat := []
  granted : SMap Nat := []
  wait : List BusReq := []
  satAt : Option Nat := none
  deriving DecidableEq, Repr

/-! ### The twin (R477–R505) -/

/-- What a receiver has staged of a copy (R490): the engine's record, PS records by OID, the sets whose EDIT words came,
checkpoint words keyed 2^20 × tile + address; `fails` counts the CRC failures of the section in progress. -/
structure CopySt where
  engine : Option CopyData := none
  ps : SMap PsEntry := []
  sets : List Nat := []
  persist : SMap Word := []
  image : Bool := false
  fails : Nat := 0
  bytes : Nat := 0
  deriving DecidableEq, Repr

/-- The twin engine. `peer` is the peer's last HELLO while one is present; `wtrDone` says that the WTR has ended and
`wtrAt` the grain at which it began; `copy` is what the receiver has staged, `sAt` boundary S; `take` boundary H of a
handover; `adopted` says that GN has been taken from the active; `sigs` the own signatures of the last grains, newest
first; `sigBad` the run of unequal ones and `badGn` the first; `convFrom` the first grain that may match; `missed` the run of
missed beacons; `altWait` that the alternate path is waited for; `lost` why the active is lost; `queue` the records that
wait for their boundary; `rxSeq` the SEQ of the last MIRROR; `txSeq` the frames sent by KIND; `fails` the conditions of
R497 in force; `hold` the share hold after Eclosion; `again` that a copy restarts once the engine runs; `delay` the path
delay of L3 in ps; `copied` that a receiver has taken its copy; `yielded` the peer's YIELDED flag; `sent` the MIRROR records sent
last, newest first, at most 16 (the model's record of the lane). -/
structure TwinSt where
  peer : Option HelloMsg := none
  epoch : Nat := 0
  wtrDone : Bool := false
  wtrAt : Word := 0
  copy : CopySt := {}
  sAt : Option Word := none
  take : Option Word := none
  adopted : Bool := false
  sigs : List (Word × Word) := []
  sigBad : Nat := 0
  badGn : Word := 0
  convFrom : Word := 0
  missed : Nat := 0
  altWait : Bool := false
  lost : Option Nat := none
  queue : List MirrorRec := []
  rxSeq : Option Word := none
  txSeq : SMap Nat := []
  phases : List Word := []
  fails : List Nat := []
  hold : Bool := false
  again : Bool := false
  delay : Nat := 0
  copied : Bool := false
  yielded : Bool := false
  sent : List MirrorRec := []
  deriving DecidableEq, Repr

/-! ### The Sluice (R507–R535) -/

/-- One instance of the guard on one channel (R508, R514–R517): the last two input samples, newest first; the clamp gain in
binary32; the last two clamp outputs; the detectors' blocks and runs (a run's sign is that of its means), the state of the
fixed high-pass, the samples with a discontinuity; by detector bit (0 DC, 1 HF, 2 DISC) the conditions present, the
automatic trips, the latched trips and those latched under TRIP_ACTION 3, and the sample at which each condition ended;
the mute gain in Q2.30 with the value and sample count since its direction last changed. -/
structure GInst where
  xs : List Word := [0, 0]
  g : Word := 0x3F800000
  y1 : Word := 0
  y2 : Word := 0
  dcSum : Int := 0
  dcCnt : Nat := 0
  dcRun : Int := 0
  hf : List Word := []
  hfSum : Nat := 0
  hfCnt : Nat := 0
  hfRun : Nat := 0
  disc : List Nat := []
  present : Nat := 0
  auto : Nat := 0
  latch : Nat := 0
  safe : Nat := 0
  clear : List Nat := [0, 0, 0]
  m : Nat := 0
  m0 : Nat := 0
  k : Nat := 0
  up : Bool := false
  deriving DecidableEq, Repr

/-- One guard channel (R508–R519). `st` 0 IDLE, 1 PASS, 2 MUTING, 3 MUTED, 4 FADING_IN; `n` counts its samples. The
watchdog: `seq` is the sequence number that it expects, `stale` counts substitutes while it substitutes, `fresh` the run of fresh samples since, `fadeIn` the samples of
the fade after it plus one (0 while none runs), `last` what it delivered last. `dis` is cause DISAGREE, `differ` that the
last sample differed, `agreeAt` the sample since which the instances agree, `onsets` the times of disagreements, newest
first, `retired` cause RETIRED. -/
structure GCh where
  st : Nat := 0
  n : Nat := 0
  seq : Option Byte := none
  stale : Option Nat := none
  fresh : Nat := 0
  fadeIn : Nat := 0
  last : Word := 0
  ia : GInst := {}
  ib : GInst := {}
  dis : Bool := false
  differ : Bool := false
  agreeAt : Nat := 0
  onsets : List Nat := []
  retired : Bool := false
  deriving DecidableEq, Repr

/-- The guard (R507–R535). `out` is what each channel released last, by guard channel; `safe` the causes of SAFE_MUTE_N
that stand, in the order in which they arose; `sys` cause SYS; `osc` the oscillators out of range (2 × site + instance);
`cfgBad` that the last scrub failed; `first` the session that has written the first unlock word, `holder` the session that
holds the unlock; `level` the level of SAFE_OK; `logged` and `logCls` count the fault-log entries of the grain and hold the
newest CLASS, `released` counts the channels that reached PASS in the grain. -/
structure GuardSt where
  chs : SMap GCh := []
  out : SMap Word := []
  safe : List Nat := [0]
  sys : Bool := true
  osc : List Nat := []
  cfgBad : Bool := false
  first : Option Nat := none
  holder : Option Nat := none
  level : Bool := false
  logged : Nat := 0
  logCls : Nat := 0
  released : Nat := 0
  deriving DecidableEq, Repr

/-! ### Power and the journal (R541–R575) -/

/-- The power sequencer. `off` says that VAON is out of range; `groups` counts the rail groups good in WAKING; `stage` is the
running step of Eclosion (9 complete, 15 RECOVERY); `fwTried` and `imgTried` that the boot slot has failed and the other one
is tried; `noImage` that Eclosion goes on without an image; `rate` the DOM_RATE_A of the retention boot record; `bootFw` the
boot firmware slot of the layout table (R560); `rtc` the counter as last loaded; `qready` the waking quadrants that are
ready; `lateLock` that DA was in FREERUN when step 7 began and has not locked since (R551); `down` that the management
processor restarts; `fw` the header of the firmware in MGMT SRAM and `fwSha` the digest taken as it was read (R549,
R561); `otpKey` and `otpMin` the digest of the firmware's key and the minimum security version that OTP holds (R549). -/
structure PowerSt where
  off : Bool := false
  groups : Nat := 0
  stage : Nat := 1
  fwTried : Bool := false
  imgTried : Bool := false
  noImage : Bool := false
  rate : Option Nat := none
  bootFw : Bool := false
  rtc : Nat := 0
  qready : Nat := 0
  lateLock : Bool := false
  down : Bool := false
  fw : List Byte := []
  fwSha : List Byte := []
  otpKey : BitVec 256 := Config.fwKeyDigest
  otpMin : Word := Config.fwMinVersion
  deriving DecidableEq, Repr

/-- A journal record (R563, R564); `data` holds the five words of a DATA record. -/
structure JRec where
  seq : Word
  oid : Nat := 0
  kind : Nat
  value : Word := 0
  instar : Word := 0
  session : Nat := 0
  count : Word := 0
  data : List Word := []
  deriving DecidableEq, Repr

/-- A segment of the ring with the records programmed into it (R565). -/
structure JSeg where
  idx : Nat
  recs : List JRec
  deriving DecidableEq, Repr

/-- A snapshot region's contents (R568): scalars by OID, sets by key with their lengths and words. -/
structure Snap where
  gen : Word
  cut : Word
  instar : Word
  close : Word := 0
  scalars : List (Nat × Word) := []
  sets : List (Nat × Nat × List Word) := []
  bytes : Nat := 0
  deriving DecidableEq, Repr

/-- A compaction in progress (R567): the region (false A), the cut, the instar at the cut, whether the body is complete and
whether it was begun again. -/
structure Comp where
  region : Bool
  cut : Word
  instar : Word
  body : Bool := false
  again : Bool := false
  deriving DecidableEq, Repr

/-- The journal. `next` is the SEQ of the next record; `queue` the records that wait; `page` the page in flight and `pageSeg`
its segment; `live` the segments in use, oldest first, of which the newest takes no more pages while `shut`; `snapA` and `snapB` the sealed snapshots, `base` the region of the
base; `draft` a body that waits for its seal; `want` that a compaction has been asked for; `dirty` what waits for its erase
(a segment index, or 2^20 and 2^20 + 1 for the regions); `erases` the erase counts by the same keys; `bad` BAD_MAP; `wr` and
`wrCut` the bytes programmed since the base's CUT and since that of the running compaction; `layGen` the GEN of the layout table
and `layB` that copy B holds it (R560). -/
structure JnlSt where
  next : Word := 1
  queue : List JRec := []
  page : List JRec := []
  pageSeg : Nat := 0
  shut : Bool := false
  live : List JSeg := []
  snapA : Option Snap := none
  snapB : Option Snap := none
  base : Option Bool := none
  draft : Option Snap := none
  comp : Option Comp := none
  want : Bool := false
  dirty : List Nat := []
  erases : SMap Nat := []
  bad : List Nat := []
  wr : Nat := 0
  wrCut : Nat := 0
  layGen : Word := 0
  layB : Bool := false
  deriving DecidableEq, Repr


/-! ### The whole -/

/-- The state of the block. `obj` holds the value of every object of the system area and PATCH_STATUS by OID (an
unlisted OID reads its class default); `ps` the entries of the staged scalars (an unlisted entry reads its class
default); `faultQ` the fault-log entries of the grain in progress (R529); `marks` the events already raised in the
grain whose chapter limits them to one per grain; `grainInstar` the instar with which the grain in progress opened;
`ports` the TDM ports and `shares` the share groups that this unit owns (R307); `freeCtr` counts the free values taken, the model's own. -/
structure State where
  obj : SMap Word := []
  ps : SMap PsEntry := []
  tiles : SMap Tile := []
  img : ImgSt := {}
  mix : MixSt := {}
  moult : MoultSt := {}
  dmem : DmemSt := {}
  conv : ConvSt := {}
  ports : SMap Port := []
  aligns : SMap AlignGrp := []
  shares : Nat := 15
  clk : ClkSt := {}
  time : TimeSt := {}
  net : NetSt := {}
  host : HostSt := {}
  twin : TwinSt := {}
  guard : GuardSt := {}
  pwr : PowerSt := {}
  jnl : JnlSt := {}
  sess : SMap Session := []
  faultQ : List (Nat × Nat) := []
  marks : List Nat := []
  grainInstar : Word := 0
  freeCtr : Nat := 0
  answer : Answer := {}
  pending : List Instr := []
  deriving DecidableEq, Repr

/-- The machine right after reset: every object at its default, nothing loaded, nothing waiting (R14, R15). -/
def State.reset : State := {}

end Sys2Proof.Machine
end

