-- ==== Sys2Proof/Machine/Ops.lean ====
section
/-!
DEFINITION. The named operations that every family of commands shares: reading and writing objects, sticky flags with
their counters (R11), events (R435–R439), the fault log (R529, R530), the bus error log (R473–R475), and the check of
an object access (R412, R422).
-/

namespace Sys2Proof.Machine

/-- What a command answers. -/
abbrev Out := Host.Outcome State Fault Refusal

/-! ### Objects -/

/-- The value that an object has while the journal holds none for it (R14): its class default, with the values the
maps give for single objects of a class. -/
def oidDflt (oid : Nat) : Word :=
  if oid = oidRefCfg 1 ∨ oid = oidRefCfg 2 ∨ oid = oidRefCfg 4 ∨ oid = oidRefCfg 5 then 2
  else if oid = oidLaneCfg 2 then 0xB
  else if oid = oidLaneCfg 0 ∨ oid = oidLaneCfg 1 then 0xA
  else if oid = oidNetDscpTc 4 then 0x180
  else if oid = oidNetDscpTc 5 then 0x1C0000
  else if oid = oidDevRev then Config.devRev
  else if oid = oidPcieSubsys then Config.pcieSubsys
  else if oid = oidJnlFlashMib then Config.flashMiB.setWidth 32
  else match findObj oid with
    | none => 0
    | some (c, i, j) =>
      if c.base = oidLaneMacHi 0 then (Config.macHi i).setWidth 32
      else if c.base = oidLaneMacLo 0 then Config.macLo i
      else if c.base = 0xC0027 then wd (12 * i + j)
      else if c.base = 0xD0047 then wd (6144 + 8 * i + j)
      else if c.base = oidBusPri 0 then
        -- R469: the default priorities per master and target
        nth 0 [0x00FF0000, 0x88888808, 0x06060000, 0x06060000, 0x06060000, 0xA00A0000, 0x0000EEE0, 0x000C00C0,
          0xD000DDD0, 0x44444444] i
      else c.dflt

/-- The value of a system object. -/
def State.ob (s : State) (oid : Nat) : Word := mapGet oidDflt s.obj oid
/-- The value of a system object as a number. -/
def State.obn (s : State) (oid : Nat) : Nat := (s.ob oid).toNat
/-- Write a system object. -/
def State.put (s : State) (oid : Nat) (v : Word) : State := { s with obj := mapSet oidDflt s.obj oid v }
/-- Write a number to a system object. -/
def State.putn (s : State) (oid : Nat) (n : Nat) : State := s.put oid (wd n)
/-- Count one more, saturating (R11). -/
def State.count (s : State) (oid : Nat) : State := s.put oid (satInc (s.ob oid))
/-- Write one field of a system object. -/
def State.putFld (s : State) (oid hi lo v : Nat) : State := s.put oid (setFld (s.ob oid) hi lo v)

/-- Set a sticky flag and count the setting in the counter beside it (R11). -/
def State.sticky (s : State) (flags n cnt : Nat) : State :=
  (s.put flags (setBit (s.ob flags) n true)).count cnt

/-- Take a free value: a word of which nothing is known. -/
def State.free (s : State) : Word × State := (Config.freeWord s.freeCtr, { s with freeCtr := s.freeCtr + 1 })

/-! ### Collections -/

/-- Tile `n`. -/
def State.tile (s : State) (n : Nat) : Tile := mapGet (fun _ => {}) s.tiles n
/-- Replace tile `n`. -/
def State.setTile (s : State) (n : Nat) (t : Tile) : State := { s with tiles := mapSet (fun _ => {}) s.tiles n t }
/-- Session `n`. -/
def State.ses (s : State) (n : Nat) : Session := mapGet (fun _ => {}) s.sess n
/-- Replace session `n`. -/
def State.setSes (s : State) (n : Nat) (q : Session) : State := { s with sess := mapSet (fun _ => {}) s.sess n q }
/-- Patch sink `n`. -/
def State.sink (s : State) (n : Nat) : PatchSink := mapGet (fun _ => {}) s.mix.sinks n
/-- Replace patch sink `n`. -/
def State.setSink (s : State) (n : Nat) (p : PatchSink) : State :=
  { s with mix := { s.mix with sinks := mapSet (fun _ => {}) s.mix.sinks n p } }
/-- The fade of TOC `n`. -/
def State.tocFade (s : State) (n : Nat) : TocFade := mapGet (fun _ => {}) s.img.toc n
/-- Replace the fade of TOC `n`. -/
def State.setTocFade (s : State) (n : Nat) (f : TocFade) : State :=
  { s with img := { s.img with toc := mapSet (fun _ => {}) s.img.toc n f } }

/-! ### The engine's figures -/

/-- Nominal sample rate of a rate ENUM code in Hz (R408); 0 for OFF. -/
def rateHz (code : Nat) : Nat := nth 0 [0, 44100, 48000, 88200, 96000, 176400, 192000] code
/-- C_s of a rate ENUM code (R12). -/
def rateCs (code : Nat) : Nat := nth 0 [0, 9216, 9216, 4608, 4608, 2304, 2304] code
/-- Fs_A, nominal, of the domain A rate in force, in Hz. -/
def State.fsA (s : State) : Nat := rateHz s.conv.rateA
/-- The domain in force of an item: 0 A, 1 B, 2 C; kinds 0 port, 1 receive stream, 2 transmit stream, 3 modulator clock
(R257). -/
def State.domOf (s : State) (kind n : Nat) : Nat := mapGet (fun _ => 0) s.conv.dom (128 * kind + n)
/-- The nominal rate of a domain in Hz; 0 while OFF (R256). -/
def State.domHz (s : State) (d : Nat) : Nat :=
  if d = 0 then s.fsA else if d = 1 then rateHz (s.obn oidDomRateB) else rateHz (s.obn oidDomRateC)
/-- C_s of the ACTIVE image. -/
def State.cs (s : State) : Nat := fld (s.ob oidImgActiveForm) 15 0
/-- The grain size G in force (R12), of the ACTIVE image; the default 8 while no image is active. -/
def State.gsize (s : State) : Nat :=
  let g := fld (s.ob oidImgActiveForm) 23 16
  if g = 0 then 8 else g
/-- The length of a grain in ecyc (R13). -/
def State.grainCyc (s : State) : Nat := s.cs * s.gsize
/-- GN, the grain number (R193). -/
def State.gn (s : State) : Word := s.ob oidGrainNumber

/-! ### Device time (R344, R345) -/

/-- DT in whole ns. -/
def State.dtTotal (s : State) : Nat := s.time.dt / 2 ^ 48
/-- DT in whole seconds. -/
def State.dtSec (s : State) : Nat := s.dtTotal / 10 ^ 9
/-- NANOSECONDS. -/
def State.dtNs (s : State) : Nat := s.dtTotal % 10 ^ 9
/-- FRACTION. -/
def State.dtFrac (s : State) : Nat := s.time.dt / 2 ^ 32 % 65536

/-! ### Events (R435–R439) -/

/-- Pack the items of an event, each a size in bytes and a value, from the low byte of ARG0 onward; an item that does
not fit in the rest of ARG0 starts ARG1, and what does not fit in both starts the next record (R436). -/
def packItems : List (Nat × Nat) → Nat → Nat → List Nat
  | [], _, cur => [cur]
  | (sz, v) :: r, off, cur =>
    let o := if off < 4 ∧ off + sz > 4 ∧ ¬(off = 0 ∧ sz = 8) then 4 else off
    let x := v % 2 ^ (8 * sz)
    if o + sz ≤ 8 then packItems r (o + sz) (cur + x * 2 ^ (8 * o)) else cur :: packItems r sz x

/-- A signed time in ns as the eight bytes an event carries, saturated (R436). -/
def evTime (i : Int) : Nat := (BitVec.ofInt 64 (satInt 64 i)).toNat

/-- Enter the records of one event, together or not at all (R436). A full queue drops them, and the number dropped is
reported first when space next exists (R438). The first record of a session has SEQ 1 (DEDUCED, log 60). The flag says that the queue overflowed. -/
def Session.enter (q : Session) (code : Nat) (args : List Nat) (instar sec ns : Word) : Session × Bool :=
  let lostRec := if q.lost = 0 then 0 else 1
  if q.evq.length + lostRec + args.length > 256 then
    ({ q with dropped := q.dropped + args.length, lost := q.lost + args.length }, true)
  else
    let mk (c sq v : Nat) : EvRecord :=
      { code := c, seq := sq % 65536, instar := instar, sec := sec, ns := ns, arg0 := wd v, arg1 := wd (v / 2 ^ 32) }
    let lostL := if q.lost = 0 then [] else [mk 2 (q.evSeq + 1) q.lost]
    let recs := args.mapIdx (fun i v => mk (if i = 0 then code else code + 0x8000) (q.evSeq + lostRec + i + 1) v)
    ({ q with evq := q.evq ++ lostL ++ recs, evSeq := q.evSeq + lostRec + args.length, lost := 0 }, false)

/-- Vector `k` signals while the link is up: its message is sent, or is pending while its entry of the MSI-X table is masked
(R450, R456; the mask is PRESUMED from the PCI Express Base Specification, log 35). -/
def State.msiSend (s : State) (k : Nat) : State :=
  if !bit (s.ob oidPcieStatus) 0 then s
  else if bit (mapGet (fun _ => 0) s.host.msix (4 * k + 3)) 0 then { s with host := { s.host with pba := setBit s.host.pba k true } }
  else { s with host := { s.host with msi := mapMod (fun _ => 0) s.host.msi k (· + 1) } }
/-- A write of a word of the MSI-X table: a vector that is pending and no longer masked sends its message (R450, log 35). -/
def State.msixWrite (s : State) (i : Nat) (v : Word) : State :=
  let s := { s with host := { s.host with msix := mapSet (fun _ => 0) s.host.msix i v } }
  let k := i / 4
  if i % 4 = 3 ∧ !bit v 0 ∧ bit s.host.pba k then { s with host := { s.host with pba := setBit s.host.pba k false } }.msiSend k else s
/-- INT_PENDING and INT_EVT_CNT of a group (R439). An INT_PENDING_k that leaves zero sends the message of its vector while
the link is up (R456). -/
def State.intRaise (s : State) (g : Nat) : State :=
  let s := forUpTo 4 (fun k t =>
    let p := t.ob (oidIntPending k)
    if bit (t.ob (oidIntCfg k)) g then
      let t := t.put (oidIntPending k) (setBit p g true)
      if p = 0 then t.msiSend k else t
    else t) s
  s.count (oidIntEvtCnt g)

/-- Pin INTk_N is asserted (R439). -/
def State.intAsserted (s : State) (k : Nat) : Bool := s.ob (oidIntPending k) ≠ 0
/-- Enter an event in one session's queue; a SESS_EVENT_LOST record that goes before it is an event of group 0 (R438). -/
def State.enterEv (s : State) (n code : Nat) (args : List Nat) (sec ns : Word) : State :=
  let (q, overR) := (s.ses n).enter code args (s.ob oidInstar) sec ns
  let lost := decide ((s.ses n).lost ≠ 0)
  let s := s.setSes n q
  if overR then s.sticky oidFcpSticky 5 (oidFcpCnt 5) else if lost then s.intRaise 0 else s

/-- Raise an event of group `g`, row `i` of its chapter's table, with the DT it carries. `only` directs it to one
session (R437). -/
def State.raiseFull (s : State) (only : Option Nat) (sec ns : Word) (g i : Nat) (items : List (Nat × Nat)) : State :=
  let args := packItems items 0 0
  let code := 256 * g + i
  let takes (n : Nat) : Bool := (s.ses n).st = 1 && bit (s.ses n).mask g
  let s := match only with
    | some n => if takes n then s.enterEv n code args sec ns else s
    | none => forUpTo 64 (fun n t => if takes n then t.enterEv n code args sec ns else t) s
  s.intRaise g

/-- Raise an event with the DT of the grain boundary (R436). -/
def State.raise (s : State) (g i : Nat) (items : List (Nat × Nat)) : State :=
  s.raiseFull none (s.ob oidTimeGbSecLo) (s.ob oidTimeGbNs) g i items

/-- Raise an event of which at most one is raised per grain for the same `key`. -/
def State.raiseOnce (s : State) (key g i : Nat) (items : List (Nat × Nat)) : State :=
  let m := 65536 * (256 * g + i) + key
  if s.marks.contains m then s else ({ s with marks := m :: s.marks }).raise g i items

/-! ### The fault log (R529, R530) -/

/-- Put an entry at slot `e` of the fault log, before those of the `n` entries that precede it whose CLASS and LOC are higher
(R529). -/
def State.putFault (s : State) (instar sec ns : Word) (cls loc : Nat) : Nat → Nat → State
  | 0, e => (((s.put (oidFaultWord e) (wd (cls + 32 * loc))).put (oidFaultInstar e) instar).put (oidFaultDtSec e) sec).put (oidFaultDtNs e) ns
  | n + 1, e =>
    let b := (e + 63) % 64
    let w := s.ob (oidFaultWord b)
    if decide (fld w 4 0 < cls) || (decide (fld w 4 0 = cls) && decide (fld w 31 5 ≤ loc)) then
      (((s.put (oidFaultWord e) (wd (cls + 32 * loc))).put (oidFaultInstar e) instar).put (oidFaultDtSec e) sec).put (oidFaultDtNs e) ns
    else
      ((((s.put (oidFaultWord e) w).put (oidFaultInstar e) (s.ob (oidFaultInstar b))).put (oidFaultDtSec e) (s.ob (oidFaultDtSec b))).put
        (oidFaultDtNs e) (s.ob (oidFaultDtNs b))).putFault instar sec ns cls loc n b
/-- Write one entry of the fault log: CLASS, LOC, an instar and a DT; the entries of a grain stand in ascending CLASS, then LOC
(R529). FAULT_LOGGED follows at the end of the grain (R536). -/
def State.logFaultAt (s : State) (instar sec ns : Word) (cls loc : Nat) : State :=
  let e := if s.obn oidFaultNewest = 0xFF then 0 else (s.obn oidFaultNewest + 1) % 64
  let s := s.putFault instar sec ns cls loc (min 63 s.guard.logged) e
  let s := s.putn oidFaultNewest e
  let s := s.put oidFaultTotal (satInc16 (s.ob oidFaultTotal))
  { s with guard := { s.guard with logged := s.guard.logged + 1, logCls := fld (s.ob (oidFaultWord e)) 4 0 } }

/-- Write one entry with the DT of the grain boundary. -/
def State.logFaultWith (s : State) (instar : Word) (cls loc : Nat) : State :=
  s.logFaultAt instar (s.ob oidTimeGbSecLo) (s.ob oidTimeGbNs) cls loc

/-- FAULT_LOGGED: the newest CLASS and the count of the entries of a grain (R536). -/
def State.reportFaults (s : State) : State :=
  let g := s.guard
  if g.logged = 0 then s
  else ({ s with guard := { g with logged := 0, logCls := 0 } }).raise 13 8 [(1, g.logCls), (4, g.logged)]

/-- Write one entry of the fault log with the instar in force. -/
def State.logFault (s : State) (cls loc : Nat) : State := s.logFaultWith (s.ob oidInstar) cls loc

/-- Insert an entry in the order of CLASS, then LOC (R529). -/
def insertFault (e : Nat × Nat) : List (Nat × Nat) → List (Nat × Nat)
  | [] => [e]
  | f :: r => if e.1 < f.1 ∨ (e.1 = f.1 ∧ e.2 ≤ f.2) then e :: f :: r else f :: insertFault e r

/-- Keep a fault of the grain in progress, to be logged at the boundary that ends it (R526, R529). -/
def State.noteFault (s : State) (cls loc : Nat) : State := { s with faultQ := insertFault (cls, loc) s.faultQ }

/-- Log the faults of the grain that ends, in ascending CLASS, then LOC, with the instar of that grain. -/
def State.flushFaults (s : State) : State :=
  let s' := s.faultQ.foldl (fun t e => t.logFaultWith s.grainInstar e.1 e.2) s
  { s' with faultQ := [] }

/-! ### The bus error log (R473–R475) -/

/-- Record an error response: master, target (0xF when unmapped or of type CLASS), type, direction and address. -/
def State.busError (s : State) (master target ty : Nat) (write : Bool) (addr : Word) : State :=
  let e := if s.obn oidBusErrNewest = 0xFF then 0 else (s.obn oidBusErrNewest + 1) % 16
  let s := s.count oidBusErrTotal
  let info := master + 16 * target + 256 * ty + (if write then 4096 else 0) + 8192
    + 65536 * (s.obn oidBusErrTotal % 65536)
  let s := s.put (oidBuserrAddr e) addr
  let s := s.putn (oidBuserrInfo e) info
  let s := s.putn (oidBuserrDtSec e) s.dtSec
  let s := s.putn (oidBuserrDtNs e) s.dtNs
  let s := s.putn oidBusErrNewest e
  s.raiseOnce 0 11 3 [(1, master), (1, ty)]

/-! ### Access checks (R407, R412, R422) -/

/-- Status codes (R434). -/
def stOk : Nat := 0
def stDenied : Nat := 1
def stRange : Nat := 2
def stNotReady : Nat := 3
def stBusy : Nat := 4
def stUnimpl : Nat := 5
def stStale : Nat := 6
def stBadFrame : Nat := 7
def stBadSession : Nat := 8
def stBadCommand : Nat := 9

/-- The result of a write to one object: the next state, or a status. -/
abbrev Wr := Except Nat State

/-- The master that a refusal on port-class grounds records (R412). -/
def classMaster (pc : Nat) : Nat := nth 5 [9, 2, 3, 4, 5, 5, 5] pc

/-- A word breaks the encoding of its type (R407), or lies outside the limits of its class. Field-structured values
have no limits but their reserved bits (R9). -/
def encBad (c : ObjClass) (v : Word) : Bool :=
  let bounded := !(c.lo = 0 && c.hi = 0)
  match c.ty with
  | 0 => decide (v.toNat > 1)
  | 1 => decide (v.toNat > 0xFF) || (v &&& c.resv ≠ 0) || (bounded && (v.toNat < c.lo.toNat || v.toNat > c.hi.toNat))
  | 2 => decide (v.toNat > 0xFFFF) || (v &&& c.resv ≠ 0) || (bounded && (v.toNat < c.lo.toNat || v.toNat > c.hi.toNat))
  | 3 => decide (v.toInt < -32768 ∨ v.toInt > 32767) || (bounded && (v.toInt < c.lo.toInt || v.toInt > c.hi.toInt))
  | 4 => (v &&& c.resv ≠ 0) || (bounded && (v.toNat < c.lo.toNat || v.toNat > c.hi.toNat))
  | 5 => bounded && (v.toInt < c.lo.toInt || v.toInt > c.hi.toInt)
  | 6 => bounded && (v.toInt < c.lo.toInt || v.toInt > c.hi.toInt)
  | 7 => f32IsNaN v || (if v = f32NegInf then !c.negInf
      else f32IsInf v || (bounded && (f32Lt v c.lo || f32Lt c.hi v)))
  | 8 => decide (c.enums.length ≤ v.toNat)
  | _ => false

/-- A write of −0.0 to an F32 object is stored as +0.0 (R407). -/
def encNorm (c : ObjClass) (v : Word) : Word := if c.ty = 7 ∧ v = 0x80000000 then 0 else v

/-- A port class is in a class mask. -/
def pcIn (mask : Nat) (pc : Nat) : Bool := mask / 2 ^ pc % 2 = 1

/-- The refusal of an access on port-class or level ground (R2, R3, R412): ACCESS_DENIED is recorded in the bus error
log with type CLASS, and CLASS_DENIED is set (R444). -/
def State.denied (s : State) (acc : Access) (oid : Nat) (write : Bool) : State :=
  (s.busError (classMaster acc.pc) 0xF 6 write (wd oid)).sticky oidFcpSticky 7 (oidFcpCnt 7)

/-- A write to one DIRECT object passes orders 1 and 2 of R422: the class, or the status. `true` marks a refusal on
port-class or level ground. -/
def checkWrite (acc : Access) (oid : Nat) : Except (Nat × Bool) ObjClass :=
  match findObj oid with
  | none => if 0x100000 ≤ oid ∧ oid < 0x500000 then .error (stDenied, false) else .error (stUnimpl, false)
  | some (c, _, _) =>
    if !pcIn c.wr acc.pc || (c.expert && !acc.expert) then .error (stDenied, true)
    else if c.law ≠ 0 ∨ c.kind = .ro then .error (stDenied, false)
    else .ok c

/-- What a plain write stores (R10, R11): W1C clears the bits written as 1, a counter accepts 0 only. -/
def plainWrite (c : ObjClass) (oid : Nat) (v : Word) (s : State) : Wr :=
  match c.kind with
  | .ro => .error stDenied
  | .rw => .ok (s.put oid (encNorm c v))
  | .wo => .ok s
  | .w1c => .ok (s.put oid (s.ob oid &&& ~~~v))
  | .cnt0 => if v = 0 then .ok (s.put oid 0) else .error stRange

end Sys2Proof.Machine
end

