-- ==== Sys2Proof/Machine/Flags.lean ====
section
/-!
DEFINITION. The flag computations of a tile: AOV and OSGN of an accumulator (R46), saturation and the SAT bit (R48,
R53), comparison conditions (R99).
-/

namespace Sys2Proof.Machine

/-- An accumulator operation that may overflow: the low 80 bits of the exact result are kept; the first overflow sets
AOV and the sign of the exact result (R46). -/
def accResult (old : AccVal) (exact : Int) : AccVal :=
  let out := decide (exact < -(2 ^ 79 : Int) ∨ exact ≥ (2 ^ 79 : Int))
  { v := BitVec.ofInt 80 exact
    aov := old.aov || out
    osgn := if old.aov then old.osgn else if out then decide (exact < 0) else old.osgn }

/-- An accumulator operation that loads: AOV and OSGN are cleared (R45, R46). -/
def accLoad (exact : Int) : AccVal := { v := BitVec.ofInt 80 exact }

/-- A result saturated to 32 bits, and whether it saturated (R48, R53). -/
def sat32 (exact : Int) : Word × Bool :=
  let q := satInt 32 exact
  (wdI q, decide (q ≠ exact))

/-- The condition an ALC code selects, on signed operands; codes 6 and 7 select none (R99, R109). -/
def condition (c : Nat) (a b : Word) : Option Bool :=
  match c with
  | 0 => some (a = b)
  | 1 => some (a ≠ b)
  | 2 => some (a.toInt < b.toInt)
  | 3 => some (a.toInt ≤ b.toInt)
  | 4 => some (a.toInt > b.toInt)
  | 5 => some (a.toInt ≥ b.toInt)
  | _ => none

end Sys2Proof.Machine
end

