-- ==== Sys2Proof/Machine/Operands.lean ====
section
/-!
DEFINITION. The operand forms of a tile: format codes and alignment (R43, R44), the accumulator store's rounding
(R47–R50), ALU operations on 32-bit operands (R53, R96–R98), address arithmetic (R61–R63), predicates (R91).
-/

namespace Sys2Proof.Machine

/-- Fraction bits of a format code (R43). -/
def fmtFrac (f : Nat) : Nat := nth 31 [31, 30, 29, 27] f

/-- The aligned product of two operands (R44). -/
def alignedProduct (x y : Word) (fx fy : Nat) : Int := x.toInt * y.toInt * 2 ^ (62 - fmtFrac fx - fmtFrac fy)

/-- A data register sign-extended and aligned from its format (R45). -/
def alignedLoad (x : Word) (f : Nat) : Int := x.toInt * 2 ^ (62 - fmtFrac f)

/-- An accumulator shifted by `k`: left for positive `k`, right rounding toward −∞ for negative (R45). −32 acts as −31
(R109). -/
def accShift (a : Int) (k : Int) : Int :=
  let k := if k < -31 then -31 else k
  if k ≥ 0 then a * 2 ^ k.toNat else a / 2 ^ (-k).toNat

/-- `a / 2^n` in a rounding mode: 0 RNE, 1 to nearest with ties away from zero, 2 toward −∞ (R47). -/
def roundMode (rm : Nat) (a : Int) (n : Nat) : Int :=
  match rm with
  | 0 => rneShift a n
  | 1 => if a < 0 then -((2 * -a + 2 ^ n) / 2 ^ (n + 1)) else (2 * a + 2 ^ n) / 2 ^ (n + 1)
  | _ => a / 2 ^ n

/-- What an accumulator store writes, and whether it saturates (R47–R49). -/
def storeValue (a : AccVal) (f rm : Nat) : Word × Bool :=
  if a.aov then (if a.osgn then 0x80000000 else 0x7FFFFFFF, true)
  else sat32 (roundMode rm a.v.toInt (62 - fmtFrac f))

/-- What a residue store writes (R50). -/
def residueValue (a : AccVal) (f rm : Nat) : Word :=
  let n := 62 - fmtFrac f
  let q := roundMode rm a.v.toInt n
  if a.aov || decide (satInt 32 q ≠ q) then 0
  else
    let e := a.v.toInt - q * 2 ^ n
    -- e × 2^(f − 62) in Q1.31, truncated toward zero
    wdI (Int.tdiv (e * 2 ^ 31) (2 ^ n))

/-- The leading-sign count (R53). -/
def leadSign (w : Word) : Nat :=
  let x : Nat := if w.toInt < 0 then (~~~w).toNat else w.toNat
  31 - natBits x

/-- Left shift of the exact value that saturates (R53). -/
def shiftSat (a : Word) (n : Nat) : Word × Bool := sat32 (a.toInt * 2 ^ n)
/-- Arithmetic right shift with RNE; 0 gives the operand (R53, R98, R109). -/
def shiftRne (a : Word) (n : Nat) : Word := wdI (rneShift a.toInt n)
/-- The signed shift of ASHV by Db[5:0] (R98). -/
def shiftSigned (a b : Word) : Word × Bool :=
  let s : Int := (b.setWidth 6).toInt
  if s ≥ 0 then shiftSat a s.toNat else (shiftRne a (min 31 (-s).toNat), false)

/-- The order of the low `b` bits reversed (R63). -/
def bitRev : Nat → Nat → Nat
  | 0, _ => 0
  | b + 1, x => (x % 2) * 2 ^ b + bitRev b (x / 2)

/-- The pointer after an update by `d` in the set's mode; mode 3 acts as linear (R63). -/
def AddrSet.advance (k : AddrSet) (d : Int) : Nat :=
  match k.mode with
  | 1 => (((k.ptr : Int) + d) % (k.len : Int)).toNat
  | 2 => bitRev k.brw (((bitRev k.brw (k.ptr % 2 ^ k.brw) : Int) + d) % (2 ^ k.brw : Int)).toNat
  | _ => (((k.ptr : Int) + d) % 16384).toNat

/-- The effective address of a memory slot (R61). -/
def AddrSet.addr (k : AddrSet) : Nat := (k.base + k.ptr) % 16384

/-- The eight lanes of a tile, as a list. -/
def lanes {α : Type} (f : Nat → α) : List α := (List.range 8).map f

/-- The lane mask whose bit `l` is `f l`. -/
def laneMask (f : Nat → Bool) : Byte :=
  BitVec.ofNat 8 ((List.range 8).foldl (fun a l => a + (if f l then 2 ^ l else 0)) 0)

/-- Data register `d` of lane `l`. -/
def Tile.dr (t : Tile) (d l : Nat) : Word := mapGet (fun _ => 0) t.d (8 * d + l)
/-- Accumulator `i` of lane `l`, as a further accumulator operation sees it. -/
def Tile.ac (t : Tile) (i l : Nat) : AccVal := mapGet (fun _ => {}) t.a (8 * i + l)
/-- Accumulator `i` of lane `l`, as a store or a foreign ACCADD sees it (R73). -/
def Tile.acSeen (t : Tile) (i l : Nat) : AccVal := mapGet (fun _ => {}) t.aSeen (8 * i + l)
/-- What an unwritten predicate reads: predicates are zero when a quadrant powers up (R75). -/
def predDflt (_key : Nat) : Bool := false
/-- Predicate `k` of lane `l`; K0 always reads 1 (R69). -/
def Tile.pr (t : Tile) (k l : Nat) : Bool := if k = 0 then true else mapGet predDflt t.k (8 * k + l)
/-- Address set `k`. -/
def Tile.as' (t : Tile) (k : Nat) : AddrSet := mapGet (fun _ => {}) t.sets k
/-- DM word `a`, lane `l`. -/
def Tile.dmw (t : Tile) (a l : Nat) : Word := mapGet (fun _ => 0) t.dm (8 * a + l)
/-- A slot takes effect in a lane when K[selector] XOR sense is 1 (R91). -/
def Tile.on (t : Tile) (p : Pred) (l : Nat) : Bool := t.pr p.sel l != p.sense
/-- The lanes in which a slot takes effect. -/
def Tile.mask (t : Tile) (p : Pred) : Byte := laneMask (t.on p)

/-- Write data register `d` in the lanes of a mask. -/
def Tile.setD (t : Tile) (d : Nat) (m : Byte) (vals : List Word) : Tile :=
  forUpTo 8 (fun l t => if m.getLsbD l then { t with d := mapSet (fun _ => 0) t.d (8 * d + l) (nth 0 vals l) } else t) t
/-- Write accumulator `i` in the lanes of a mask. -/
def Tile.setA (t : Tile) (i : Nat) (m : Byte) (vals : List AccVal) : Tile :=
  forUpTo 8 (fun l t => if m.getLsbD l then { t with a := mapSet (fun _ => {}) t.a (8 * i + l) (nth {} vals l) } else t) t
/-- Let stores see accumulator `i` in the lanes of a mask. -/
def Tile.setASeen (t : Tile) (i : Nat) (m : Byte) (vals : List AccVal) : Tile :=
  forUpTo 8 (fun l t =>
    if m.getLsbD l then { t with aSeen := mapSet (fun _ => {}) t.aSeen (8 * i + l) (nth {} vals l) } else t) t
/-- Write predicate `k` in the lanes of a mask; writes to K0 are ignored (R69). -/
def Tile.setK (t : Tile) (k : Nat) (m vals : Byte) : Tile :=
  if k = 0 then t else
  forUpTo 8 (fun l t => if m.getLsbD l then { t with k := mapSet predDflt t.k (8 * k + l) (vals.getLsbD l) } else t) t
/-- Write a DM word in the lanes of a mask (R56). -/
def Tile.setDm (t : Tile) (a : Nat) (m : Byte) (vals : List Word) : Tile :=
  forUpTo 8 (fun l t =>
    if m.getLsbD l then { t with dm := mapSet (fun _ => 0) t.dm (8 * (a % 16384) + l) (nth 0 vals l) } else t) t
/-- Replace address set `k`. -/
def Tile.setAs (t : Tile) (k : Nat) (v : AddrSet) : Tile := { t with sets := mapSet (fun _ => {}) t.sets k v }

end Sys2Proof.Machine
end

