-- ==== Sys2Proof/Machine/Image.lean ====
section
/-!
DEFINITION. Reading a schedule image: header, directory, sections and records (R114–R129, R597), and which physical
tile carries which tile's work (R143).
-/

namespace Sys2Proof.Machine

/-- Byte `o` of an image buffer; a byte that no write has stored reads zero (R112). -/
def ImgBuf.byte (b : ImgBuf) (o : Nat) : Byte := mapGet (fun _ => 0) b.bytes o
/-- The little-endian number of `len` bytes at offset `o` (R8). -/
def ImgBuf.u (b : ImgBuf) (o : Nat) : Nat → Nat
  | 0 => 0
  | n + 1 => (b.byte o).toNat + 256 * b.u (o + 1) n
/-- The bytes `o` to `o + len − 1`. -/
def ImgBuf.slice (b : ImgBuf) (o len : Nat) : List Byte := mapRead (fun _ => 0) b.bytes o len

/-- Header fields (R114). -/
def ImgBuf.size (b : ImgBuf) : Nat := b.u 8 4
def ImgBuf.cs (b : ImgBuf) : Nat := b.u 12 2
def ImgBuf.g (b : ImgBuf) : Nat := b.u 14 1
def ImgBuf.partialOk (b : ImgBuf) : Bool := b.u 15 1 % 2 = 1
def ImgBuf.id (b : ImgBuf) : Nat := b.u 16 4
def ImgBuf.workMask (b : ImgBuf) : Nat := b.u 24 8
def ImgBuf.works (b : ImgBuf) (t : Nat) : Bool := b.workMask / 2 ^ t % 2 = 1
def ImgBuf.spareOf (b : ImgBuf) (q : Nat) : Nat := b.u (32 + q) 1
def ImgBuf.compat (b : ImgBuf) : Nat := b.u 36 4
def ImgBuf.dirOff (b : ImgBuf) : Nat := b.u 40 4
def ImgBuf.dirCount (b : ImgBuf) : Nat := b.u 44 2
def ImgBuf.tics (b : ImgBuf) : Nat := b.u 46 2
def ImgBuf.tocs (b : ImgBuf) : Nat := b.u 48 2

/-- A directory entry (R115). -/
structure Sec where
  ty : Nat
  tile : Nat
  off : Nat
  len : Nat
  count : Nat
  deriving DecidableEq, Repr

/-- Directory entry `i` (R115). -/
def ImgBuf.dirEntry (b : ImgBuf) (i : Nat) : Sec :=
  let o := b.dirOff + 16 * i
  ⟨b.u o 2, b.u (o + 2) 1, b.u (o + 4) 4, b.u (o + 8) 4, b.u (o + 12) 4⟩
/-- The directory. -/
def ImgBuf.secs (b : ImgBuf) : List Sec := (List.range b.dirCount).map b.dirEntry
/-- The section of a type and tile (0xFF for a global one). -/
def ImgBuf.sec (b : ImgBuf) (ty tile : Nat) : Option Sec := b.secs.find? (fun s => s.ty = ty && s.tile = tile)
/-- The record size of a section type (R116); 0 for a variable one. -/
def recSize (ty : Nat) : Nat :=
  match ty with
  | 1 => 16 | 3 => 160 | 4 => 8 | 5 => 8 | 6 => 8 | 7 => 8
  | 0x10 => 12 | 0x11 => 16 | 0x12 => 12 | 0x14 => 8 | 0x15 => 12 | 0x16 => 4
  | _ => 0
/-- The byte offsets of the records of a section of fixed record size. -/
def ImgBuf.recs (b : ImgBuf) (ty tile : Nat) : List Nat :=
  match b.sec ty tile with
  | none => []
  | some s => (List.range s.count).map (fun i => s.off + recSize ty * i)

/-- PM word `a` of a tile's PROGRAM (R116). -/
def ImgBuf.pmWord (b : ImgBuf) (tile a : Nat) : PmWord :=
  match b.sec 1 tile with
  | none => 0
  | some s => if a < s.count then BitVec.ofNat 128 (b.u (s.off + 16 * a) 16) else 0
/-- The number of words of a tile's PROGRAM. -/
def ImgBuf.progLen (b : ImgBuf) (tile : Nat) : Nat := match b.sec 1 tile with | none => 0 | some s => s.count

/-- The runs of DM_INIT: address, word count and the offset of the data (R116). -/
def ImgBuf.dmRuns (b : ImgBuf) : Nat → Nat → List (Nat × Nat × Nat)
  | 0, _ => []
  | n + 1, o => (b.u o 2, b.u (o + 2) 2, o + 4) :: b.dmRuns n (o + 4 + 32 * b.u (o + 2) 2)
/-- The runs of a tile's DM_INIT section. -/
def ImgBuf.dmInit (b : ImgBuf) (tile : Nat) : List (Nat × Nat × Nat) :=
  match b.sec 2 tile with
  | none => []
  | some s => b.dmRuns s.count s.off
/-- The word that DM_INIT gives lane `l` of DM word `a`; a word not covered is zero. -/
def ImgBuf.dmInitWord (b : ImgBuf) (tile a l : Nat) : Word :=
  match (b.dmInit tile).find? (fun r => r.1 ≤ a && a < r.1 + r.2.1) with
  | none => 0
  | some r => wd (b.u (r.2.2 + 32 * (a - r.1) + 4 * l) 4)

/-- TILE_INIT fields (R118): the entry address, the K7 map, the initial address sets. -/
def ImgBuf.entry (b : ImgBuf) (tile : Nat) : Nat := match b.recs 3 tile with | [] => 0 | o :: _ => b.u o 2
def ImgBuf.k7Tic (b : ImgBuf) (tile l : Nat) : Nat :=
  match b.recs 3 tile with | [] => 0xFFFF | o :: _ => b.u (o + 4 + 2 * l) 2
def ImgBuf.initSet (b : ImgBuf) (tile k : Nat) : AddrSet :=
  match b.recs 3 tile with
  | [] => {}
  | o :: _ =>
    let w := b.u (o + 20 + 8 * k) 8
    { base := w % 2 ^ 14, len := w / 2 ^ 14 % 2 ^ 15, ptr := w / 2 ^ 29 % 2 ^ 14
      step := (BitVec.ofNat 15 (w / 2 ^ 43)).toInt, mode := w / 2 ^ 58 % 4, brw := w / 2 ^ 60 % 16 }

/-- An exchange group (R119). -/
structure ExGroup where
  out : Bool
  mask : Byte
  buf : Nat
  ch : Nat
  deriving DecidableEq, Repr
/-- The exchange groups of a tile. -/
def ImgBuf.exchange (b : ImgBuf) (tile : Nat) : List ExGroup :=
  (b.recs 4 tile).map (fun o => ⟨b.u o 1 = 1, b.byte (o + 1), b.u (o + 2) 2, b.u (o + 4) 2⟩)

/-- Who owns a receive channel of a tile in a cycle: the source tile and its send channel (R120). -/
def ImgBuf.txbOwner (b : ImgBuf) (tile cyc ch : Nat) : Option (Nat × Nat) :=
  ((b.recs 5 tile).find? (fun o => b.u o 4 = cyc && b.u (o + 4) 1 = ch)).map (fun o => (b.u (o + 5) 1, b.u (o + 6) 1))

/-- The window ranges of a tile: start, length, kind (R121). -/
def ImgBuf.windows (b : ImgBuf) (tile : Nat) : List (Nat × Nat × Nat) :=
  (b.recs 6 tile).map (fun o => (b.u o 4, b.u (o + 4) 2, b.u (o + 6) 1))
/-- The persistent regions of a tile: base, length, carry key (R122). -/
def ImgBuf.persist (b : ImgBuf) (tile : Nat) : List (Nat × Nat × Nat) :=
  (b.recs 7 tile).map (fun o => (b.u o 2, b.u (o + 2) 2, b.u (o + 4) 4))
/-- The persistent DM words of a tile in section order. -/
def ImgBuf.persistWords (b : ImgBuf) (tile : Nat) : List Nat :=
  (b.persist tile).flatMap (fun r => (List.range r.2.1).map (r.1 + ·))

/-- A scalar binding (R123). -/
structure Binding where
  oid : Nat
  xform : Nat
  tile : Nat
  lane : Nat
  word : Nat
  window : Nat
  deriving DecidableEq, Repr
/-- The scalar bindings. -/
def ImgBuf.bindings (b : ImgBuf) : List Binding :=
  (b.recs 0x10 0xFF).map (fun o => ⟨b.u o 3, b.u (o + 3) 1, b.u (o + 4) 1, b.u (o + 5) 1, b.u (o + 6) 2, b.u (o + 8) 2⟩)

/-- A filter section binding (R125). -/
structure CsuBind where
  sect : Nat
  tile : Nat
  lane : Nat
  word : Nat
  window : Nat
  oidBase : Nat
  deriving DecidableEq, Repr
/-- The filter section bindings. -/
def ImgBuf.csu (b : ImgBuf) : List CsuBind :=
  (b.recs 0x11 0xFF).map (fun o =>
    ⟨b.u o 2, b.u (o + 2) 1, b.u (o + 3) 1, b.u (o + 4) 2, b.u (o + 6) 2, b.u (o + 8) 3⟩)

/-- The lanes of the store at a PM address of a tile that are subject to the overflow mute (R126, R52). -/
def ImgBuf.muteLanes (b : ImgBuf) (tile pm : Nat) : Byte :=
  (b.recs 0x12 0xFF).foldl (fun m o =>
    if b.u o 1 = tile ∧ b.u (o + 2) 2 = pm ∧ b.u (o + 6) 1 % 2 = 1 then m ||| b.byte (o + 1) else m) 0

/-- The GATING records: quadrant, GATEABLE, the TICs (R127). -/
def ImgBuf.gatingFrom (b : ImgBuf) : Nat → Nat → List (Nat × Bool × List Nat)
  | 0, _ => []
  | n + 1, o =>
    let c := b.u (o + 2) 2
    (b.u o 1, b.u (o + 1) 1 % 2 = 1, (List.range c).map (fun i => b.u (o + 4 + 2 * i) 2))
      :: b.gatingFrom n (o + 4 + 4 * ((c + 1) / 2))
/-- The GATING records of the image. -/
def ImgBuf.gating (b : ImgBuf) : List (Nat × Bool × List Nat) :=
  match b.sec 0x13 0xFF with | none => [] | some s => b.gatingFrom s.count s.off

/-- The region in which a set of a tile is tunable: base and length (R128). -/
def ImgBuf.tunable (b : ImgBuf) (tile set : Nat) : Option (Nat × Nat) :=
  ((b.recs 0x14 0xFF).find? (fun o => b.u o 1 = tile && b.u (o + 1) 1 = set)).map (fun o => (b.u (o + 2) 2, b.u (o + 4) 2))

/-- The ALT record of a tile: the spare (0xFF for none) and the fallback set (R129). -/
def ImgBuf.alt (b : ImgBuf) (tile : Nat) : Nat × List Nat :=
  match b.sec 0x15 0xFF with
  | none => (0xFF, [])
  | some s =>
    match ((List.range s.count).map (fun i => s.off + 12 * i)).find? (fun o => b.u o 1 = tile) with
    | none => (0xFF, [])
    | some o => (b.u (o + 1) 1, (List.range (b.u (o + 2) 2)).map (fun i => b.u (s.off + b.u (o + 4) 4 + 2 * i) 2))

/-- The bus that a bus feeds, or 0xFFFF (R597). -/
def ImgBuf.feedDest (b : ImgBuf) (bus : Nat) : Nat :=
  match (b.recs 0x16 0xFF).find? (fun o => b.u o 2 = bus) with
  | none => 0xFFFF
  | some o => b.u (o + 2) 2

/-- The tiles that carry an input channel in an exchange group. -/
def ImgBuf.carriesTic (b : ImgBuf) (tic : Nat) : Bool :=
  (List.range 36).any (fun t => (b.exchange t).any (fun e =>
    !e.out && e.ch ≤ tic && tic < e.ch + 8 && e.mask.getLsbD (tic - e.ch)))
/-- The image carries an output channel. -/
def ImgBuf.carriesToc (b : ImgBuf) (toc : Nat) : Bool :=
  (List.range 36).any (fun t => (b.exchange t).any (fun e =>
    e.out && e.ch ≤ toc && toc < e.ch + 8 && e.mask.getLsbD (toc - e.ch)))
/-- The tile that exchanges an output channel. -/
def ImgBuf.tileOfToc (b : ImgBuf) (toc : Nat) : Option Nat :=
  (List.range 36).find? (fun t => (b.exchange t).any (fun e =>
    e.out && e.ch ≤ toc && toc < e.ch + 8 && e.mask.getLsbD (toc - e.ch)))

/-- The quadrant of a tile. -/
def quadOf (t : Nat) : Nat := t / 9
/-- The tile whose work a physical tile carries: a spare carries the tile it is engaged for (R143). -/
def State.workOf (s : State) (phys : Nat) : Nat :=
  let e := mapGet (fun _ => 0) s.img.engaged phys
  if e = 0 then phys else e - 1
/-- The physical tile that carries a tile's work (R143). -/
def State.carrierOf (s : State) (t : Nat) : Nat :=
  match s.img.engaged.find? (fun e => e.2 = t + 1) with
  | some e => e.1
  | none => t
/-- TILE_STATE codes (R75). -/
def tsOff : Nat := 0
def tsStopped : Nat := 1
def tsRunning : Nat := 2
def tsGated : Nat := 3
def tsRetired : Nat := 4
/-- The state of a physical tile. -/
def State.tileState (s : State) (n : Nat) : Nat := s.obn (oidTileState n)
/-- A tile takes a state; TILE_STATE_CHANGE is raised when it is new (R83). -/
def State.setTileState (s : State) (n st : Nat) : State :=
  if s.tileState n = st then s else (s.putn (oidTileState n) st).raise 1 5 [(1, n)]

end Sys2Proof.Machine
end

