-- ==== Sys2Proof/Machine/Tile.lean ====
section
/-!
DEFINITION. How a tile issues: its cycle counter and instruction pointer (R40, R105–R107), results in flight and the
order in which they land (R73, R74), faults of a tile (R51, R60, R72), and how
a slot operation comes to its word (R40, R84, R108).
-/

namespace Sys2Proof.Machine

/-- A result in flight comes before another: earlier landing, then lower priority, then earlier issue (R74). -/
def Land.before (x y : Land) : Bool :=
  x.at' < y.at' || (x.at' = y.at' && (x.prio < y.prio || (x.prio = y.prio && x.seq ≤ y.seq)))
/-- Insert a result in flight in landing order. -/
def insertLand (x : Land) : List Land → List Land
  | [] => [x]
  | y :: r => if x.before y then x :: y :: r else y :: insertLand x r

/-- A result in flight lands. -/
def Tile.landOp (t : Tile) (op : LandOp) : Tile :=
  match op with
  | .reg d m vals => t.setD d m vals
  | .pred k m vals => t.setK k m vals
  | .acc i m vals => t.setASeen i m vals
  | .ptr k p => t.setAs k { t.as' k with ptr := p }
  | .bexp v => { t with bexp := min t.bexp v }
  | .mem a m vals => t.setDm a m vals

/-- Every result seen from cycle `c` or earlier lands, in order. -/
def Tile.settle (t : Tile) (c : Nat) : Tile :=
  let now := t.lands.takeWhile (fun x => x.at' ≤ c)
  let t' := now.foldl (fun u x => u.landOp x.op) t
  { t' with lands := t.lands.drop now.length }

/-- The grain of `n` ecyc ends: a result that a word at `n` would see has landed in cycle `n − 1`, what would land later is
discarded, and its destination keeps the value it held (R41; DEDUCED, log 41). So a DM write issued in cycle `n − 1`, which a
read at `n` would see (R73) and whose array access R57 puts into cycle `n`, lands. -/
def Tile.endGrain (t : Tile) (n : Nat) : Tile :=
  let t := t.settle n
  { t with a := t.aSeen, lands := [], sends := [], used := [] }

/-- Put a result in flight: the cycle of the first word that sees it, its priority, what it writes. -/
def Tile.launch (t : Tile) (at' prio : Nat) (op : LandOp) : Tile :=
  { t with lands := insertLand ⟨at', prio, t.seq, op⟩ t.lands, seq := t.seq + 1 }

/-- Loop level `v`. -/
def Tile.loop (t : Tile) (v : Nat) : LoopLevel := mapGet (fun _ => {}) t.loops v
/-- Replace loop level `v`. -/
def Tile.setLoop (t : Tile) (v : Nat) (l : LoopLevel) : Tile := { t with loops := mapSet (fun _ => {}) t.loops v l }

/-- After the word at IP has issued: the levels that end there are evaluated from the highest down; the first with
iterations left branches back, a finished one becomes inactive (R105, R106). `v` counts the levels still to look at. After
address 8,191 the 13 bits of IP wrap to 0: the spec gives no rule there (DESIGN CHOICE, log 2). -/
def Tile.nextIp (t : Tile) : Nat → Tile
  | 0 => { t with ip := (t.ip + 1) % 8192 }
  | v + 1 =>
    let l := t.loop v
    if l.left ≠ 0 ∧ l.last = t.ip then
      if l.left > 1 then { t.setLoop v { l with left := l.left - 1 } with ip := l.first }
      else (t.setLoop v {}).nextIp v
    else t.nextIp v

/-- The word at IP has issued: an error that its check bits report is noted (R60). -/
def Tile.readWord (t : Tile) : Tile :=
  match t.pmErr.find? (fun e => e.1 = t.ip) with
  | some e => { t with pmHits := e :: t.pmHits }
  | none => t

/-- One ecyc passes: the next word is at IP, and the results due land. -/
def Tile.tick (t : Tile) : Tile :=
  let t := t.readWord.nextIp 4
  let t := { t with cyc := t.cyc + 1, used := [] }
  t.settle t.cyc

/-- `n` ecyc pass. -/
def Tile.ticks (t : Tile) : Nat → Tile
  | 0 => t
  | n + 1 => t.tick.ticks n

/-- The formats whose words carry a slot (R84, R108). -/
def SlotKind.fmts : SlotKind → List Nat
  | .alu => [0]
  | .agu u => if u < 2 then [0, 1, 2, 3] else [2]
  | .send _ => [1, 2]
  | .recv _ => [1]
  | .loop => [3]
  | _ => [0, 1, 2, 3]

/-- One word can carry the slots of a list: none twice, all of one format, and no access of slot 1 beside one of the window
(R59, R108). -/
def fitsWord (l : List SlotKind) : Bool :=
  decide l.Nodup && (List.range 4).any (fun f => l.all (fun k => k.fmts.contains f)) &&
  !(l.contains .mem1 && l.contains .window)

/-- Priorities of R74. -/
def prAlu : Nat := 6
def prStore : Nat := 5
def prMem1 : Nat := 4
def prMem0 : Nat := 3
def prRecv1 : Nat := 2
def prRecv0 : Nat := 1

/-- A lane's saturation: its SAT bit and its counter (R48). -/
def State.satLane (s : State) (tile l : Nat) : State := s.sticky (oidTileSticky tile) (8 + l) (oidSatCnt tile l)
/-- The saturations of the lanes of a mask. -/
def State.satLanes (s : State) (tile : Nat) (m : Byte) : State :=
  forUpTo 8 (fun l u => if m.getLsbD l then u.satLane tile l else u) s

/-- The grain of a tile is marked failed: once per grain, with GRAIN_FAILED (R60, R83). -/
def State.failGrain (s : State) (tile : Nat) : State :=
  if (s.tile tile).failed then s else
  let s := s.setTile tile { s.tile tile with failed := true }
  (s.sticky (oidTileSticky tile) 6 (oidGrainFailCnt tile)).raise 1 4 [(1, tile)]

/-- A failure of class `cls` in the grain: the log takes the first of its class (R526). -/
def State.failure (s : State) (tile cls loc : Nat) : State :=
  let s := s.failGrain tile
  if (s.tile tile).fails.contains cls then s else
  let s := s.setTile tile { s.tile tile with fails := cls :: (s.tile tile).fails }
  s.noteFault cls (tile * 2 ^ 21 + loc)

/-- `n` corrected DM or PM errors: flag, counter, at most one event per tile and grain (R60, R83). -/
def State.eccCe (s : State) (tile n : Nat) (pm : Bool) : State :=
  if n = 0 then s else
  let s := forUpTo n (fun _ u =>
    if pm then u.sticky (oidTileSticky tile) 3 (oidPmCeCnt tile)
    else u.sticky (oidTileSticky tile) 1 (oidDmCeCnt tile)) s
  s.raiseOnce tile 1 1 [(1, tile)]
/-- `n` uncorrectable DM or PM errors at an address: flag, counter, event, failed grain (R60, R83, R530). -/
def State.eccUe (s : State) (tile n : Nat) (pm : Bool) (addr : Nat) : State :=
  if n = 0 then s else
  let s := forUpTo n (fun _ u =>
    if pm then u.sticky (oidTileSticky tile) 4 (oidPmUeCnt tile)
    else u.sticky (oidTileSticky tile) 2 (oidDmUeCnt tile)) s
  (s.raise 1 2 [(1, tile)]).failure tile (if pm then 3 else 2) addr

/-- The PM errors that a tile has met are counted, oldest first (R60). -/
def State.pmReport (s : State) (n : Nat) : State :=
  match (s.tile n).pmHits with
  | [] => s
  | l => l.reverse.foldl (fun u e => if e.2 then u.eccUe n 1 true e.1 else u.eccCe n 1 true)
      (s.setTile n { s.tile n with pmHits := [] })

/-- A tile may issue a word `adv` ecyc on: it is RUNNING, its grain has begun and still has that ecyc (R40). -/
def State.canIssue (s : State) (p : Slot) : Bool :=
  s.tileState p.tile = tsRunning && 96 ≤ (s.tile p.tile).cyc && (s.tile p.tile).cyc + p.adv < s.grainCyc

/-- A tile comes to the word of a slot operation; a tile that may not issue stays (R40, R41). -/
def State.toWord (s : State) (p : Slot) : State :=
  if s.canIssue p then (s.setTile p.tile ((s.tile p.tile).ticks p.adv)).pmReport p.tile else s

/-- The word at a tile's IP acts: it lies in the program, and its check bits report no uncorrectable error (R40, R60). -/
def State.wordActs (s : State) (n : Nat) : Bool :=
  decide ((s.tile n).ip < s.img.active.progLen (s.workOf n)) && !(s.tile n).pmErr.contains ((s.tile n).ip, true)

/-- A slot operation acts: its tile may issue, the word at its place acts and has room for the slot. A slot for which a word
has no room is in no word (R108). -/
def State.issues (s : State) (p : Slot) (k : SlotKind) : Bool :=
  s.canIssue p && (s.toWord p).wordActs p.tile && fitsWord (k :: ((s.toWord p).tile p.tile).used)

/-- A slot operation: the tile comes to the operation's word, and the operation acts if the word carries it. -/
def State.slotOp (s : State) (p : Slot) (k : SlotKind) (f : Tile → State → State) : State :=
  let u := s.toWord p
  if s.issues p k then
    let t := { u.tile p.tile with used := k :: (u.tile p.tile).used }
    f t (u.setTile p.tile t)
  else u

/-- A slot operation that changes the tile alone. -/
def State.slotTile (s : State) (p : Slot) (k : SlotKind) (f : Tile → Tile) : State :=
  s.slotOp p k (fun t u => u.setTile p.tile (f t))

end Sys2Proof.Machine
end

