-- ==== Sys2Proof/Machine/AluOps.lean ====
section
/-!
DEFINITION. The ALU slot (R53, R54, R67, R96–R101). Results are seen at t + 1, shifts and BEXPRD at t + 2, predicates
at t + 2.
-/

namespace Sys2Proof.Machine

/-- An ALU operation without saturation: `f t l` is lane `l`'s result, seen `lat` ecyc later (R73, R96). -/
def State.aluReg (s : State) (p : Slot) (d lat : Nat) (f : Tile → Nat → Word) : State :=
  s.slotTile p .alu (fun t => t.launch (t.cyc + lat) prAlu (.reg d (t.mask p.pred) (lanes (f t))))

/-- An ALU operation that saturates: a lane whose result saturates sets its SAT bit and counts (R48, R53, R96). -/
def State.aluSat (s : State) (p : Slot) (d lat : Nat) (f : Tile → Nat → Word × Bool) : State :=
  s.slotOp p .alu (fun t u =>
    let m := t.mask p.pred
    let r := lanes (f t)
    (u.setTile p.tile (t.launch (t.cyc + lat) prAlu (.reg d m (r.map (·.1))))).satLanes p.tile
      (laneMask (fun l => m.getLsbD l && (nth (0, false) r l).2)))

/-- A predicate write, seen at t + 2; K0 as its target writes none (R54, R73, R100). -/
def State.aluPred (s : State) (p : Slot) (kt : Nat) (f : Tile → Nat → Bool) : State :=
  s.slotTile p .alu (fun t =>
    if kt = 0 then t else t.launch (t.cyc + 2) prAlu (.pred kt (t.mask p.pred) (laneMask (f t))))

/-- MOV: Dd ← Da (R96). -/
def execMov (p : Slot) (d a : Fin 32) (s : State) : Out :=
  .next (s.aluReg p d 1 (fun t l => t.dr a l))

/-- ADD: Dd ← Da + Db, wrapping (R53, R96). -/
def execAdd (p : Slot) (d a b : Fin 32) (s : State) : Out :=
  .next (s.aluReg p d 1 (fun t l => t.dr a l + t.dr b l))

/-- SUB: Dd ← Da − Db, wrapping (R53, R96). -/
def execSub (p : Slot) (d a b : Fin 32) (s : State) : Out :=
  .next (s.aluReg p d 1 (fun t l => t.dr a l - t.dr b l))

/-- ADDS: Dd ← Da + Db, saturating with SAT (R53, R96). -/
def execAdds (p : Slot) (d a b : Fin 32) (s : State) : Out :=
  .next (s.aluSat p d 1 (fun t l => sat32 ((t.dr a l).toInt + (t.dr b l).toInt)))

/-- SUBS: Dd ← Da − Db, saturating with SAT (R53, R96). -/
def execSubs (p : Slot) (d a b : Fin 32) (s : State) : Out :=
  .next (s.aluSat p d 1 (fun t l => sat32 ((t.dr a l).toInt - (t.dr b l).toInt)))

/-- NEGS: Dd ← −Da, saturating with SAT (R53, R96). -/
def execNegs (p : Slot) (d a : Fin 32) (s : State) : Out :=
  .next (s.aluSat p d 1 (fun t l => sat32 (-(t.dr a l).toInt)))

/-- ABSS: Dd ← |Da|, saturating with SAT (R53, R96). -/
def execAbss (p : Slot) (d a : Fin 32) (s : State) : Out :=
  .next (s.aluSat p d 1 (fun t l => sat32 ((t.dr a l).toInt.natAbs : Nat)))

/-- MIN: Dd ← the smaller, signed (R53, R96). -/
def execMin (p : Slot) (d a b : Fin 32) (s : State) : Out :=
  .next (s.aluReg p d 1 (fun t l => if (t.dr b l).toInt < (t.dr a l).toInt then t.dr b l else t.dr a l))

/-- MAX: Dd ← the larger, signed (R53, R96). -/
def execMax (p : Slot) (d a b : Fin 32) (s : State) : Out :=
  .next (s.aluReg p d 1 (fun t l => if (t.dr a l).toInt < (t.dr b l).toInt then t.dr b l else t.dr a l))

/-- AND: Dd ← Da AND Db (R53, R96). -/
def execAnd (p : Slot) (d a b : Fin 32) (s : State) : Out :=
  .next (s.aluReg p d 1 (fun t l => t.dr a l &&& t.dr b l))

/-- OR: Dd ← Da OR Db (R53, R96). -/
def execOr (p : Slot) (d a b : Fin 32) (s : State) : Out :=
  .next (s.aluReg p d 1 (fun t l => t.dr a l ||| t.dr b l))

/-- XOR: Dd ← Da XOR Db (R53, R96). -/
def execXor (p : Slot) (d a b : Fin 32) (s : State) : Out :=
  .next (s.aluReg p d 1 (fun t l => t.dr a l ^^^ t.dr b l))

/-- NOT: Dd ← NOT Da (R53, R96). -/
def execNot (p : Slot) (d a : Fin 32) (s : State) : Out :=
  .next (s.aluReg p d 1 (fun t l => ~~~(t.dr a l)))

/-- LDIL: Dd ← imm16, sign-extended (R96, R97). -/
def execLdil (p : Slot) (d : Fin 32) (imm : BitVec 16) (s : State) : Out :=
  .next (s.aluReg p d 1 (fun _ _ => imm.signExtend 32))

/-- LDIH: Dd[31:16] ← imm16; Dd[15:0] kept (R96, R97). -/
def execLdih (p : Slot) (d : Fin 32) (imm : BitVec 16) (s : State) : Out :=
  .next (s.aluReg p d 1 (fun t l => setFld (t.dr d l) 31 16 imm.toNat))

/-- SHL: Dd ← Da << n, discarding bits (R53, R96). -/
def execShl (p : Slot) (d a n : Fin 32) (s : State) : Out :=
  .next (s.aluReg p d 2 (fun t l => t.dr a l <<< n.val))

/-- SHLS: Dd ← Da << n, saturating with SAT (R53, R96). -/
def execShls (p : Slot) (d a n : Fin 32) (s : State) : Out :=
  .next (s.aluSat p d 2 (fun t l => shiftSat (t.dr a l) n))

/-- SHR: Dd ← Da >> n, logical (R53, R96). -/
def execShr (p : Slot) (d a n : Fin 32) (s : State) : Out :=
  .next (s.aluReg p d 2 (fun t l => t.dr a l >>> n.val))

/-- ASR: Dd ← Da >> n, arithmetic toward −∞ (R53, R96). -/
def execAsr (p : Slot) (d a n : Fin 32) (s : State) : Out :=
  .next (s.aluReg p d 2 (fun t l => (t.dr a l).sshiftRight n.val))

/-- ASRN: Dd ← Da >> n with RNE; n = 0 gives Da (R53, R96, R109). -/
def execAsrn (p : Slot) (d a n : Fin 32) (s : State) : Out :=
  .next (s.aluReg p d 2 (fun t l => shiftRne (t.dr a l) n))

/-- LSC: Dd ← the leading-sign count of Da (R53, R96). -/
def execLsc (p : Slot) (d a : Fin 32) (s : State) : Out :=
  .next (s.aluReg p d 2 (fun t l => wd (leadSign (t.dr a l))))

/-- BEXPRD: Dd ← BEXP in the lanes where the predicate takes effect; BEXP ← 31 whatever the predicate (R67, R109). -/
def execBexprd (p : Slot) (d : Fin 32) (s : State) : Out :=
  .next (s.slotTile p .alu (fun t =>
    { t.launch (t.cyc + 2) prAlu (.reg d (t.mask p.pred) (lanes (fun _ => wd t.bexp))) with bexp := 31 }))

/-- ASHV: Dd ← Da shifted by the signed value of Db[5:0] (R96, R98). -/
def execAshv (p : Slot) (d a b : Fin 32) (s : State) : Out :=
  .next (s.aluSat p d 2 (fun t l => shiftSigned (t.dr a l) (t.dr b l)))

/-- SHLV: as SHL with n = Db[4:0] (R96, R98). -/
def execShlv (p : Slot) (d a b : Fin 32) (s : State) : Out :=
  .next (s.aluReg p d 2 (fun t l => t.dr a l <<< fld (t.dr b l) 4 0))

/-- SHLSV: as SHLS with n = Db[4:0] (R96, R98). -/
def execShlsv (p : Slot) (d a b : Fin 32) (s : State) : Out :=
  .next (s.aluSat p d 2 (fun t l => shiftSat (t.dr a l) (fld (t.dr b l) 4 0)))

/-- SHRV: as SHR with n = Db[4:0] (R96, R98). -/
def execShrv (p : Slot) (d a b : Fin 32) (s : State) : Out :=
  .next (s.aluReg p d 2 (fun t l => t.dr a l >>> fld (t.dr b l) 4 0))

/-- ASRV: as ASR with n = Db[4:0] (R96, R98). -/
def execAsrv (p : Slot) (d a b : Fin 32) (s : State) : Out :=
  .next (s.aluReg p d 2 (fun t l => (t.dr a l).sshiftRight (fld (t.dr b l) 4 0)))

/-- ASRNV: as ASRN with n = Db[4:0]; n = 0 gives Da (R96, R98). -/
def execAsrnv (p : Slot) (d a b : Fin 32) (s : State) : Out :=
  .next (s.aluReg p d 2 (fun t l => shiftRne (t.dr a l) (fld (t.dr b l) 4 0)))

/-- CMP: Kt ← cond(Da, Db); condition codes 6 and 7 have no effect (R54, R96, R99, R109). -/
def execCmp (p : Slot) (c : Fin 8) (a b : Fin 32) (kt : Fin 8) (s : State) : Out :=
  .next (if c.val ≥ 6 then s.slotTile p .alu id
    else s.aluPred p kt (fun t l => condition c (t.dr a l) (t.dr b l) = some true))

/-- CSEL: Dd ← cond ? Da : Db at t + 1, Kt ← cond at t + 2; codes 6 and 7 have no effect (R54, R96, R100, R109). -/
def execCsel (p : Slot) (c : Fin 8) (d a b : Fin 32) (kt : Fin 8) (s : State) : Out :=
  .next (s.slotTile p .alu (fun t =>
    if c.val ≥ 6 then t else
    let m := t.mask p.pred
    let cond (l : Nat) : Bool := condition c (t.dr a l) (t.dr b l) = some true
    let u := t.launch (t.cyc + 1) prAlu (.reg d m (lanes (fun l => if cond l then t.dr a l else t.dr b l)))
    if kt = 0 then u else u.launch (t.cyc + 2) prAlu (.pred kt m (laneMask cond))))

/-- KAND: Kt ← Ka AND Kb (R96, R100). -/
def execKand (p : Slot) (ka kb kt : Fin 8) (s : State) : Out :=
  .next (s.aluPred p kt (fun t l => t.pr ka l && t.pr kb l))

/-- KOR: Kt ← Ka OR Kb (R96, R100). -/
def execKor (p : Slot) (ka kb kt : Fin 8) (s : State) : Out :=
  .next (s.aluPred p kt (fun t l => t.pr ka l || t.pr kb l))

/-- KXOR: Kt ← Ka XOR Kb (R96, R100). -/
def execKxor (p : Slot) (ka kb kt : Fin 8) (s : State) : Out :=
  .next (s.aluPred p kt (fun t l => t.pr ka l != t.pr kb l))

/-- KNOT: Kt ← NOT Ka (R96, R100). -/
def execKnot (p : Slot) (ka kt : Fin 8) (s : State) : Out :=
  .next (s.aluPred p kt (fun t l => !t.pr ka l))

/-- KSET: Kt ← ALC[0] (R96). -/
def execKset (p : Slot) (v : Bool) (kt : Fin 8) (s : State) : Out :=
  .next (s.aluPred p kt (fun _ _ => v))

/-- KBIT: Kt ← bit n of Da (R96). -/
def execKbit (p : Slot) (a n : Fin 32) (kt : Fin 8) (s : State) : Out :=
  .next (s.aluPred p kt (fun t l => bit (t.dr a l) n))

end Sys2Proof.Machine
end

