-- ==== Sys2Proof/Machine/Digest.lean ====
section
/-!
DEFINITION. The SHA-256 digest of a schedule image (R117) and of firmware (R549), and the CRC-32C of frames and journal records (R458, R563).
-/

namespace Sys2Proof.Machine

/-- The largest number whose `k`-th power does not exceed `x`, found bit by bit below 2^n. -/
def rootDown (k x : Nat) : Nat → Nat → Nat
  | 0, r => r
  | n + 1, r => rootDown k x n (if (r + 2 ^ n) ^ k ≤ x then r + 2 ^ n else r)
/-- The first 32 bits of the fractional part of the `k`-th root of a number below 2^12. -/
def rootFrac (k p : Nat) : Word := BitVec.ofNat 32 (rootDown k (p * 2 ^ (32 * k)) 38 0)
/-- The first 64 prime numbers. -/
def shaPrimes : List Nat :=
  [2, 3, 5, 7, 11, 13, 17, 19, 23, 29, 31, 37, 41, 43, 47, 53, 59, 61, 67, 71, 73, 79, 83, 89, 97, 101, 103, 107,
   109, 113, 127, 131] ++
  [137, 139, 149, 151, 157, 163, 167, 173, 179, 181, 191, 193, 197, 199, 211, 223, 227, 229, 233, 239, 241, 251,
   257, 263, 269, 271, 277, 281, 283, 293, 307, 311]

/-- The exclusive or of three rotations of a word. -/
def rot3 (x : Word) (a b c : Nat) : Word := x.rotateRight a ^^^ x.rotateRight b ^^^ x.rotateRight c
/-- The exclusive or of two rotations and a shift of a word. -/
def rot2 (x : Word) (a b sh : Nat) : Word := x.rotateRight a ^^^ x.rotateRight b ^^^ (x >>> sh)

/-- One step of SHA-256 (FIPS 180-4): the eight working words and the sixteen words of the schedule that begin with this step's,
with the step's constant. -/
def shaStep (st : List Word × List Word) (k : Word) : List Word × List Word :=
  let v (i : Nat) : Word := nth 0 st.1 i
  let w (i : Nat) : Word := nth 0 st.2 i
  let choice := (v 4 &&& (v 5 ^^^ v 6)) ^^^ v 6
  let most := (v 0 &&& (v 1 ||| v 2)) ||| (v 1 &&& v 2)
  let t := v 7 + rot3 (v 4) 6 11 25 + choice + k + w 0
  ((t + rot3 (v 0) 2 13 22 + most) :: v 0 :: v 1 :: v 2 :: (v 3 + t) :: (st.1.drop 4).take 3,
    st.2.drop 1 ++ [w 0 + rot2 (w 1) 7 18 3 + w 9 + rot2 (w 14) 17 19 10])
/-- A 64-byte block enters the digest. -/
def shaAbsorb (h : List Word) (block : List Byte) : List Word :=
  let w := (List.range 16).map (fun i => BitVec.ofNat 32 (ofBe ((block.drop (4 * i)).take 4)))
  (h.zip ((shaPrimes.map (rootFrac 3)).foldl shaStep (h, w)).1).map (fun e => e.1 + e.2)
/-- The SHA-256 digest of a message (R117, R549): the message, a one bit, zeros, and its length in bits, in blocks. -/
def sha256 (m : List Byte) : List Byte :=
  let blocks := (m.length + 72) / 64
  let text := m ++ 0x80 :: (List.replicate (64 * blocks - m.length - 9) 0 ++ beBytes 8 (8 * m.length))
  let h := (List.range blocks).foldl (fun h i => shaAbsorb h ((text.drop (64 * i)).take 64)) ((shaPrimes.take 8).map (rootFrac 2))
  h.flatMap (fun w => beBytes 4 w.toNat)

/-- One bit of the CRC-32C, reflected polynomial 0x82F63B78 (R458). -/
def crcBit (c : Word) : Word := if c.getLsbD 0 then (c >>> 1) ^^^ 0x82F63B78 else c >>> 1

/-- One byte of the CRC-32C. -/
def crcByte (c : Word) (b : Byte) : Word :=
  crcBit (crcBit (crcBit (crcBit (crcBit (crcBit (crcBit (crcBit (c ^^^ b.setWidth 32))))))))

/-- The CRC-32C of a list of bytes: initial value and final exclusive-or 0xFFFF_FFFF (R458). -/
def crc32c (l : List Byte) : Word := ~~~(l.foldl crcByte 0xFFFFFFFF)

end Sys2Proof.Machine
end

