-- ==== Sys2Proof/Machine/Ecdsa.lean ====
section
/-!
DEFINITION. The verification of an ECDSA signature on the curve P-256 (R549, R561), by FIPS 186.
-/

namespace Sys2Proof.Machine

/-- The field of P-256 (PRESUMED: FIPS 186, log 39). -/
def p256 : Nat := 2 ^ 256 - 2 ^ 224 + 2 ^ 192 + 2 ^ 96 - 1
/-- The order of the base point. -/
def p256n : Nat := 0xFFFFFFFF00000000FFFFFFFFFFFFFFFFBCE6FAADA7179E84F3B9CAC2FC632551
/-- The constant term of the curve. -/
def p256b : Nat := 0x5AC635D8AA3A93E7B3EBBD55769886BC651D06B0CC53B0F63BCE3C3E27D2604B
/-- The base point. -/
def p256g : Nat × Nat :=
  (0x6B17D1F2E12C4247F8BCE6E563A440F277037D812DEB33A0F4A13945D898C296,
   0x4FE342E2FE1A7F9B8EE7EB4A7C0F9E162BCE33576B315ECECBB6406837BF51F5)

/-- x to the power of the low `n` bits of e, modulo m. -/
def powMod (m x e : Nat) : Nat → Nat
  | 0 => 1 % m
  | n + 1 => let r := powMod m x (e / 2) n; if e % 2 = 1 then r * r % m * x % m else r * r % m
/-- The inverse modulo a prime of 256 bits. -/
def invMod (m x : Nat) : Nat := powMod m (x % m) (m - 2) 256

/-- A point of the curve; `none` is the point at infinity. -/
abbrev P256Point : Type := Option (Nat × Nat)
/-- The sum of two points. -/
def pointAdd (u v : P256Point) : P256Point :=
  match u, v with
  | none, q => q
  | p, none => p
  | some (x1, y1), some (x2, y2) =>
    if x1 = x2 ∧ (y1 + y2) % p256 = 0 then none
    else
      let slope := if x1 = x2 then (3 * x1 * x1 + p256 - 3) * invMod p256 (2 * y1) % p256
        else (y2 + p256 - y1) * invMod p256 (x2 + p256 - x1) % p256
      let x := (slope * slope + 2 * p256 - x1 - x2) % p256
      some (x, (slope * (x1 + p256 - x) + p256 - y1) % p256)
/-- A point times the low `n` bits of k. -/
def pointMul (u : P256Point) (k : Nat) : Nat → P256Point
  | 0 => none
  | n + 1 => let h := pointMul u (k / 2) n; let d := pointAdd h h; if k % 2 = 1 then pointAdd d u else d

/-- The signature (r, s) of a digest verifies under the public key (x, y). -/
def ecdsaOk (x y r s : Nat) (digest : List Byte) : Bool :=
  let w := invMod p256n s
  let q := pointAdd (pointMul (some p256g) (ofBe digest * w % p256n) 256) (pointMul (some (x, y)) (r * w % p256n) 256)
  decide (x < p256 ∧ y < p256 ∧ y * y % p256 = (x * x * x + (p256 - 3) * x + p256b) % p256) &&
  decide (1 ≤ r ∧ r < p256n ∧ 1 ≤ s ∧ s < p256n) &&
  (match q with | some (qx, _) => decide (qx % p256n = r) | none => false)

end Sys2Proof.Machine
end

