-- ==== Sys2Proof/Machine/JnlQ.lean ====
section
/-!
DEFINITION. The journal's queue and page engine: which objects persist (R562), records and their SEQ (R563–R566), pages and
segments (R565, R569).
-/

namespace Sys2Proof.Machine

/-- JNL_STATE codes (R574). -/
def jsOff : Nat := 0
def jsRun : Nat := 1
def jsStopped : Nat := 2
def jsFull : Nat := 3
def jsCleared : Nat := 4

/-- A persistent object (R562): every staged scalar; a configuration object that follows the DIRECT law, but for the image
window, the TA_ and CAP_ objects, Chrysalis, the fault log, PATCH_STATUS and the address sets of the tiles, which an image
loads. FIR_SET_LEN persists with its set. -/
def persists (oid : Nat) : Bool :=
  match findObj oid with
  | none => decide (0x140000 ≤ oid ∧ oid < 0x500000)
  | some (c, _, _) =>
    if c.law ≠ 0 then c.kind = .rw
    else c.kind = .rw && !(c.base = oidImgWrOffset || c.base = oidImgWrData) &&
      !decide (0xFC400 ≤ oid ∧ oid < 0xFD000) && !decide (0xFF020 ≤ oid ∧ oid < 0xFF030) &&
      c.base ≠ oidDieTempMax && c.base ≠ oidImgCtrl && c.base ≠ 0xEC000 && !decide (0xF4000 ≤ oid ∧ oid < 0xF4900)
/-- A write to the object is journalled by a DIRECT record (R564). -/
def journalled (oid : Nat) : Bool :=
  persists oid && (match findObj oid with | some (c, _, _) => c.law = 0 && c.base ≠ oidFirSetLen 0 | none => false)

/-- S in bytes (R559). -/
def jnlS (mib : Nat) : Nat := if mib = 128 ∨ mib = 256 ∨ mib = 512 then 32 * 2 ^ 20 else 10 * 2 ^ 20
/-- J in bytes (R559). -/
def jnlJ (mib : Nat) : Nat :=
  (if mib = 128 then 24 else if mib = 256 then 152 else if mib = 512 then 408 else 4) * 2 ^ 20
/-- The segments of the ring. -/
def State.segCount (s : State) : Nat := jnlJ (s.obn oidJnlFlashMib) / 65536
/-- The queue's capacity in records (R566). -/
def jnlCap : Nat := 65536

/-- The layout table is rewritten: the other copy takes the next GEN (R560). -/
def JnlSt.relayout (j : JnlSt) : JnlSt := { j with layGen := j.layGen + 1, layB := !j.layB }
/-- Replace the journal's record. -/
def State.setJnl (s : State) (j : JnlSt) : State := { s with jnl := j }
/-- JNL_STATE. -/
def State.jst (s : State) : Nat := s.obn oidJnlState
/-- A JNL_STICKY flag with its counter. -/
def State.jnlFlag (s : State) (b : Nat) : State := s.sticky oidJnlSticky b (oidJnlCnt b)
/-- Records that have not become durable. -/
def State.jnlQueued (s : State) : Nat := s.jnl.queue.length + s.jnl.page.length

/-- The next segment of the ring after `i` that is not in BAD_MAP. -/
def nextSeg (n : Nat) (bad : List Nat) : Nat → Nat → Nat
  | 0, i => (i + 1) % n
  | f + 1, i => let k := (i + 1) % n; if bad.contains k then nextSeg n bad f k else k

/-- GEN of the base snapshot, 0 for none. -/
def JnlSt.gen (j : JnlSt) : Word :=
  match j.base with
  | none => 0
  | some b => match (if b then j.snapB else j.snapA) with | some x => x.gen | none => 0

/-- A page of the records `recs`, which stand at the head of the queue, goes into flight (R565). -/
def State.startPage (s : State) (seg : Nat) (recs : List JRec) (taken : Nat) : State :=
  s.setJnl { s.jnl with page := recs, pageSeg := seg, queue := s.jnl.queue.drop taken }

/-- The engine programs the next page where one is due: eight records, or fewer with FILL after 2 ms (R565). A new segment
begins with its SEG record; before the segment that holds the base's CUT the journal is FULL (R569). -/
def State.jnlPump (s : State) (fill : Bool) : State :=
  let j := s.jnl
  if s.jst ≠ jsRun ∨ j.page ≠ [] ∨ j.queue = [] then s
  else
    let open' := match j.live.getLast? with
      | some g => decide (g.recs.length < 2048) && !j.bad.contains g.idx && !j.shut
      | none => false
    let need := if open' then 8 else 7
    if j.queue.length < need ∧ !fill then s
    else
      let seg := match j.live.getLast? with
        | some g => if open' then g.idx else nextSeg s.segCount j.bad s.segCount g.idx
        | none => nextSeg s.segCount j.bad s.segCount (s.segCount - 1)
      if !open' ∧ (j.live.head?.map (·.idx)) = some seg then ((s.putn oidJnlState jsFull).jnlFlag 4).raise 15 2 []
      else if !open' ∧ j.dirty.contains seg then s
      else
        let recs := j.queue.take need
        let last := match recs.getLast? with | some r => r.seq | none => 0
        let pad := (List.range (need - recs.length)).map (fun _ => ({ seq := last, kind := 15 } : JRec))
        let head : List JRec := match recs with
          | r :: _ => if open' then [] else
              [{ seq := r.seq, kind := 1, value := wd (mapGet (fun _ => 0) j.erases seg), instar := j.gen }]
          | [] => []
        s.startPage seg (head ++ recs ++ pad) recs.length

/-- Records take their SEQ and enter the queue; what does not fit is not persisted and is counted by FULL (R565, R569). -/
def State.jnlPush (s : State) (recs : List JRec) : State :=
  if s.jst = jsOff ∨ s.jst = jsCleared then s
  else
    let room := jnlCap - s.jnlQueued
    let taken := (recs.take room).mapIdx (fun i r => { r with seq := s.jnl.next + wd i })
    let s := s.setJnl { s.jnl with queue := s.jnl.queue ++ taken, next := s.jnl.next + wd taken.length }
    let s := forUpTo (recs.length - taken.length) (fun _ t => t.jnlFlag 4) s
    s.jnlPump false

/-- A write to a persistent DIRECT object is journalled (R564). -/
def State.jnlDirect (s : State) (session oid : Nat) : State :=
  if s.jst = jsOff ∨ s.jst = jsCleared then s
  else if journalled oid then
    s.jnlPush [{ seq := 0, oid := oid, kind := 2, value := s.ob oid, instar := s.ob oidInstar, session := session }]
  else s

end Sys2Proof.Machine
end

