-- ==== Sys2Proof/Machine/Access.lean ====
section
/-!
DEFINITION. A write to one DIRECT object: the checks of R422 in their order, the effect, the answer (R434).
-/

namespace Sys2Proof.Machine

/-- The set that AS_GEOM and AS_STEPMOD of a tile's block address (R81): the physical tile that carries the block's
work, and the work. The blocks of a retired tile and of the spare that carries its work address the same sets. -/
def State.asTile (s : State) (n : Nat) : Nat × Nat :=
  let w := s.workOf n
  (s.carrierOf w, w)

/-- Refusals of order 2 on other grounds: an address set that the image does not declare tunable (R81); a ceiling raised
by another than the session that holds the guard unlock (R512). -/
def State.setDenied (s : State) (acc : Access) (oid : Nat) (v : Word) : Bool :=
  if 0xF1800 ≤ oid ∧ oid < 0xF2000 then
    f32Lt (s.ob oid) v && !(decide (acc.pc.val = 1) && decide (s.guard.holder = some acc.session.val))
  else if 0xF4000 ≤ oid ∧ oid < 0xF4900 then
    let o := (oid - 0xF4000) % 64
    o ≥ 0x20 && (s.img.active.tunable (s.asTile ((oid - 0xF4000) / 64)).2 (o % 16)).isNone
  else false

/-- The unit differs from an active one: RECEIVING, CONVERGING, STANDBY or ISOLATED (R487). -/
def State.isStandby (s : State) : Bool := 3 ≤ s.obn oidTwinState && s.obn oidTwinState ≤ 6

/-! ### The twin's claim and peer (R482, R484, R487) -/

/-- TWIN_STATE codes (R503). -/
def twOff : Nat := 0
def twSolo : Nat := 1
def twActive : Nat := 2
def twReceiving : Nat := 3
def twConverging : Nat := 4
def twStandby : Nat := 5
def twIsolated : Nat := 6
def twFailed : Nat := 7
/-- The twin state. -/
def State.tw (s : State) : Nat := s.obn oidTwinState
/-- A peer is present. -/
def State.paired (s : State) : Bool := s.twin.peer.isSome && decide (s.tw ≥ twActive)
/-- The unit is the active of a pair: its PS and bulk changes are mirrored (R493). -/
def State.mirrors (s : State) : Bool := s.paired && decide (s.tw = twActive)
/-- The first grain boundary at least 25 µs after a sample at position `pos` of grain `gn` (R488, R492, R493, R502). -/
def State.boundary25 (s : State) (gn : Word) (pos : Nat) : Word :=
  let fs := max 1 s.fsA
  let g := s.gsize
  let need := (25 * fs + 999999) / 1000000
  let left := g - pos
  if left ≥ need then gn + 1 else gn + 1 + wd ((need - left + g - 1) / g)
/-- The first boundary at which what is accepted now may act: the next, or beside a peer one 25 µs away (R204, R488, R493). -/
def State.nextAct (s : State) : Word := if s.mirrors then s.boundary25 s.gn s.mix.pos else s.gn + 1
/-- One frame of a KIND is sent (R478). -/
def State.twinSent (s : State) (kind : Nat) : State :=
  { s with twin := { s.twin with txSeq := mapMod (fun _ => 0) s.twin.txSeq kind (fun n => (n + 1) % 2 ^ 32) } }
/-- The active sends a MIRROR record to its peer, in the order of its changes (R486, R493). -/
def State.mirror (s : State) (r : MirrorRec) : State :=
  if s.mirrors then ({ s with twin := { s.twin with sent := (r :: s.twin.sent).take 16 } }).twinSent 3 else s
/-- The emitted claim (R482). A standby whose active has yielded takes the role without its WTR (R501; DEDUCED, log 36). -/
def State.claim (s : State) : Nat :=
  let st := s.tw
  let c := s.ob oidTwinCfg
  let y := bit (s.ob oidTwinStatus) 5
  let peer := match s.twin.peer with | some p => p.claim.toNat / 65536 % 16 | none => 0
  let rank := if st ≤ twActive ∨ (st = twStandby ∧ (s.twin.wtrDone ∨ s.twin.yielded)) then (if y then 0 else fld c 19 16) else 0
  let health := if st ≤ twActive then
      (if bit (s.ob oidTwinStatus) 0 ∨ s.ob oidImgChanRetiredCnt ≠ 0 then 10 else 15)
    else if st = twStandby then peer else if st = twFailed then 0 else 4
  rank * 2 ^ 20 + health * 2 ^ 16 + s.twin.epoch % 256 * 256 + fld c 15 8

/-- One write to a DIRECT object with its checks (R422, R487), then its effect. The second part of an error marks a
refusal on port-class or level ground. -/
def State.writeWith (s : State) (acc : Access) (oid : Nat) (v : Word) (effect : ObjClass → State → Wr) :
    Except (Nat × Bool) State :=
  match checkWrite acc oid with
  | .error e => .error e
  | .ok c =>
    if s.setDenied acc oid v then .error (stDenied, false)
    else if encBad c v then .error (stRange, false)
    else if s.isStandby && decide (acc.pc.val < 6) && pcIn c.wr 6 then .error (stNotReady, false)
    else match effect c s with
    | .ok t =>
      -- R493: a mirrored DIRECT object takes its value at a boundary, on both units
      if s.mirrors && (c.base = 0xEC000 || c.base = oidFirSetLen 0) then
        let r := MirrorRec.write oid v s.nextAct
        .ok ({ s with twin := { s.twin with queue := s.twin.queue ++ [r] } }.mirror r)
      else .ok (t.jnlDirect acc.session oid)
    | .error st => .error (st, false)

/-- A write command: its effect with the answer OK, or the state unchanged but for the answer and the record of a
refusal (R434). -/
def State.writeCmd (s : State) (acc : Access) (oid : Nat) (v : Word) (effect : ObjClass → State → Wr) : State :=
  match s.writeWith acc oid v effect with
  | .ok t => { t with answer := {} }
  | .error (st, cls) =>
    let s := if cls then s.denied acc oid true else s
    { s with answer := { status := st, oid := oid } }

end Sys2Proof.Machine
end

