-- ==== Sys2Proof/Machine/Fixed.lean ====
section
/-!
DEFINITION. The functions that the spec's formulas use, on numbers in units of 2^−96: exponential, logarithm, sine, cosine
and square root.

A formula whose result is a fixed-point word is taken at its real value and rounded once, as the worked examples of R163
(0x16A0_9E66) and of the changeover (0x11FE_B33C) state; a value of type F32 is a binary32 word at every operation
(R213; DEDUCED, log 10).
-/

namespace Sys2Proof.Machine

/-- 1, π/2, ln 2 and ln 10 in units of 2^−96. -/
def fxOne : Int := 2 ^ 96
def fxHalfPi : Int := 124451306656115542615260972311
def fxLn2 : Int := 54916777467707473351141471128
def fxLn10 : Int := 182429585950654714090129938606

/-- The product. -/
def fxMul (a b : Int) : Int := a * b / 2 ^ 96
/-- The quotient. -/
def fxDiv (a b : Int) : Int := a * 2 ^ 96 / b
/-- The fraction `n / d`. -/
def fxOfRat (n d : Nat) : Int := (n * 2 ^ 96 / d : Nat)
/-- A finite binary32 word. -/
def fxOfF32 (w : Word) : Int := f32Num w / 2 ^ 53
/-- The nearest binary32 word. -/
def fxToF32 (x : Int) : Word := f32OfInt x (2 ^ 96)
/-- The nearest fixed-point word with `frac` fraction bits, saturated (R43, R124). -/
def fxToQ (frac : Nat) (x : Int) : Word := wdI (satInt 32 (rneShift x (96 - frac)))

/-- `n` more terms of a power series from term `t`: term `i + 1` is `num i t / den i`. -/
def fxSeries (num : Nat → Int → Int) (den : Nat → Nat) : Nat → Nat → Int → Int
  | 0, _, _ => 0
  | n + 1, i, t => t + fxSeries num den n (i + 1) (num i t / (den i : Int))

/-- `e^x`, with the argument reduced by multiples of ln 2. -/
def fxExp (x : Int) : Int :=
  let k := x / fxLn2
  let y := fxSeries (fun _ t => fxMul t (x - k * fxLn2)) (fun i => i + 1) 32 0 fxOne
  if 0 ≤ k then y * 2 ^ k.toNat else y / 2 ^ (-k).toNat

/-- `ln (n / d)` for positive `n` and `d`: the exponent of 2, and the series of the area tangent of what is left. -/
def fxLnRat (n d : Nat) : Int :=
  let a := natBits n
  let b := natBits d
  let n' := n * 2 ^ (b - a)
  let d' := d * 2 ^ (a - b)
  let z := ((n' : Int) - d') * 2 ^ 96 / (n' + d')
  let z2 := fxMul z z
  let at' := (List.range 34).foldl (fun (p : Int × Int) i => (p.1 + p.2 / (2 * i + 1 : Nat), fxMul p.2 z2)) (0, z)
  ((a : Int) - b) * fxLn2 + 2 * at'.1
/-- `ln x` for a positive number. -/
def fxLn (x : Int) : Int := fxLnRat x.toNat (2 ^ 96)

/-- `sin x` for an angle of at most π. -/
def fxSin (x : Int) : Int :=
  let x2 := fxMul x x
  fxSeries (fun _ t => -(fxMul t x2)) (fun i => (2 * i + 2) * (2 * i + 3)) 24 0 x
/-- `cos x` for an angle from 0 to π. -/
def fxCos (x : Int) : Int := fxSin (fxHalfPi - x)

/-- The largest number below `2^n` added to `r` whose square is at most `v`. -/
def rootBits (v : Nat) : Nat → Nat → Nat
  | 0, r => r
  | n + 1, r => rootBits v n (if (r + 2 ^ n) ^ 2 ≤ v then r + 2 ^ n else r)
/-- `√x` of a number from 0 to below 2^32. -/
def fxSqrt (x : Int) : Int := rootBits (x.toNat * 2 ^ 96) 112 0

/-- `10^(v/20)` for a level in dB, 0 below −144 dB (R124). -/
def fxDb (v : Word) : Int :=
  if f32Lt v 0xC3100000 then 0 else fxExp (fxMul (fxOfF32 v) fxLn10 / 20)
/-- A level in dB as an amplitude word with `frac` fraction bits (R124, R173, R182, R511). -/
def dbWord (frac : Nat) (v : Word) : Word := fxToQ frac (fxDb v)
/-- `a × (b/a)^f` in binary32, for positive `a` and `b` (R211). -/
def f32Log (a b f : Word) : Word :=
  f32Mul a (fxToF32 (fxExp (fxMul (fxOfF32 f) (fxLn (fxOfF32 (f32Div b a))))))

/-- sin(x × π/2). -/
def sinHalf (x : Int) : Int := fxSin (fxMul x fxHalfPi)
/-- cos(x × π/2). -/
def cosHalf (x : Int) : Int := sinHalf (fxOne - x)

end Sys2Proof.Machine
end

