-- ==== Sys2Proof/Machine/Ps.lean ====
section
/-!
DEFINITION. The parameter store: entries, the ramp laws and the views (R190, R191, R205, R209–R211), and the switches
of R161. Laws are evaluated in binary32 (R213).
-/

namespace Sys2Proof.Machine

/-- The class of an OID, when it is implemented. -/
def classOf (oid : Nat) : Option ObjClass := (findObj oid).map (·.1)
/-- The law code of an OID (R211); 0 where it is unimplemented. -/
def lawOf (oid : Nat) : Nat := match classOf oid with | none => 0 | some c => c.law
/-- The type code of an OID (R407). -/
def typeOf (oid : Nat) : Nat := match classOf oid with | none => 4 | some c => c.ty

/-- The numeric value of a word of a type, in binary32. -/
def numF32 (ty : Nat) (w : Word) : Word :=
  match ty with
  | 3 => f32OfInt w.toInt 1
  | 5 => f32OfInt w.toInt 1
  | 6 => f32OfQ 31 w
  | 7 => w
  | _ => f32OfNat w.toNat

/-- A law whose value moves between START and TARGET: LIN, LIN_DB, LOG, FADE. -/
def lawRamps (law : Nat) : Bool := 3 ≤ law && law ≤ 6

/-- The entry that an unlisted staged scalar has: its class default in every part. -/
def psDflt (oid : Nat) : PsEntry :=
  match classOf oid with
  | none => {}
  | some c => { start := if lawRamps c.law then numF32 c.ty c.dflt else c.dflt, target := c.dflt, sval := c.dflt }

/-- The entry of a staged scalar (R190). -/
def State.pe (s : State) (oid : Nat) : PsEntry := mapGet psDflt s.ps oid
/-- Replace the entry of a staged scalar. -/
def State.setPe (s : State) (oid : Nat) (e : PsEntry) : State := { s with ps := mapSet psDflt s.ps oid e }
/-- The TARGET view (R191). -/
def State.target (s : State) (oid : Nat) : Word := (s.pe oid).target
/-- The TARGET view as a number. -/
def State.targetN (s : State) (oid : Nat) : Nat := (s.target oid).toNat

/-- 1.0 in binary32. -/
def f32One : Word := 0x3F800000

/-- The fraction `min(1, (j + 1) × G / len)` of R161 and R210 in binary32; nothing stands for 1. -/
def rampFrac (g len j : Nat) : Option Word :=
  if len ≤ g ∨ len = 0 ∨ (j + 1) * g ≥ len then none else some (f32OfRat false ((j + 1) * g) len)

/-- Whether grain `n` lies before grain `m`, in the wrapping count of R193: no grain more than two before `m` is asked. -/
def isBefore (n m : Word) : Bool := n + 1 = m || n + 2 = m

/-- The value between two endpoints under a law that ramps (R211). -/
def lawBetween (law : Nat) (a b f : Word) : Word :=
  if law = 5 then f32Log a b f
  else
    let fl (x : Word) : Word := if law = 4 ∧ x = f32NegInf then 0xC2C80000 else x
    f32Add (fl a) (f32Mul f (f32Sub (fl b) (fl a)))

/-- v(n) of R211 in binary32 for the laws that ramp: the value or, for FADE, the weight. -/
def State.psF32 (s : State) (oid : Nat) (n : Word) : Word :=
  let e := s.pe oid
  let t := numF32 (typeOf oid) e.target
  if !lawRamps (lawOf oid) then
    (if isBefore n e.mb then numF32 (typeOf oid) e.start else t)
  else if isBefore n e.mb then e.start
  else match rampFrac s.gsize e.n (n - e.mb).toNat with
    | none => t
    | some f => lawBetween (lawOf oid) e.start t f

/-- A binary32 value as a word of a type: integers to nearest, ties away from zero (R191). -/
def f32ToType (ty : Nat) (w : Word) : Word := if ty = 7 then w else wdI (f32Round w)

/-- v(n) of R211 as a word of the object's type. -/
def State.psWordAt (s : State) (oid : Nat) (n : Word) : Word :=
  let e := s.pe oid
  if !lawRamps (lawOf oid) then (if isBefore n e.mb then e.start else e.target)
  else if isBefore n e.mb then f32ToType (typeOf oid) e.start
  else match rampFrac s.gsize e.n (n - e.mb).toNat with
    | none => e.target
    | some _ => f32ToType (typeOf oid) (s.psF32 oid n)

/-- v(n) differs from TARGET. -/
def State.psRamping (s : State) (oid : Nat) (n : Word) : Bool :=
  let e := s.pe oid
  if lawRamps (lawOf oid) then decide (s.psF32 oid n ≠ numF32 (typeOf oid) e.target)
  else isBefore n e.mb && decide (e.start ≠ e.target)

/-- The ramp length in samples of `ms` milliseconds (R209, R596). -/
def State.rampSamples (s : State) (ms : Nat) : Nat := (rneDiv (ms * s.fsA : Nat) 1000).toNat

/-! ### Switches (R161) -/

/-- The switch of a ROUTE object. -/
def State.sw (s : State) (oid : Nat) : Switch := mapGet (fun _ => {}) s.mix.switches oid
/-- Replace the switch of a ROUTE object. -/
def State.setSw (s : State) (oid : Nat) (w : Switch) : State :=
  { s with mix := { s.mix with switches := mapSet (fun _ => {}) s.mix.switches oid w } }

/-- The position of a fading switch in grain `n`: p0 + (target − p0) × f (R161). -/
def swPosAt (w : Switch) (g : Nat) (n : Word) : Word :=
  if isBefore n w.mb then w.p0
  else match rampFrac g w.len (n - w.mb).toNat with
    | none => w.tgt
    | some f => f32Add w.p0 (f32Mul f (f32Sub w.tgt w.p0))

/-- The position p of a switch in grain `n`, binary32 (R161). A switch at rest stands at its target. -/
def State.swPos (s : State) (oid : Nat) (n : Word) : Word :=
  let w := s.sw oid
  if w.run then swPosAt w s.gsize n
  else if 0xC0000 ≤ oid ∧ oid < 0xD0000 ∧ oid % 0x80 = 0x13 then f32One
  else if s.psWordAt oid n = 0 then 0 else f32One

/-- The length of the fade of a switch in samples (R160, R161, R165, R166). A fade of BUS_LINK takes BUS_XF_LEN of the even
bus for both buses of the pair (DESIGN CHOICE, log 11). -/
def State.swLen (s : State) (oid : Nat) (n : Word) : Nat :=
  if oid < 0xC0000 then (s.psWordAt (oidBusXfLen (oid % 256)) n).toNat
  else if oid < 0xD0000 then (s.psWordAt (oidDirectXfLen ((oid - 0xC0000) / 0x80)) n).toNat
  else if oid < 0xD8000 then (s.psWordAt (oidBusXfLen ((oid - 0xD0000) / 0x80)) n).toNat
  else (s.psWordAt (oidOutXfLen ((oid - 0xD8000) / 0x40)) n).toNat

end Sys2Proof.Machine
end

