-- ==== Sys2Proof/Machine/Csu.lean ====
section
/-!
DEFINITION. The values the device derives from basic objects: crosspoint coefficients (R159, R160), dynamics
coefficients (R157), and the coefficient synthesiser (R215–R222).
-/

namespace Sys2Proof.Machine

/-! ### Crosspoints (R159–R162) -/

/-- The pan gains of a linked pair at u under a law position q (0 CONST_POWER, 1 LINEAR): even and odd bus (R160). -/
def panGain (odd : Bool) (u q : Int) : Int :=
  fxMul (fxOne - q) (if odd then sinHalf u else cosHalf u) + fxMul q (if odd then u else fxOne - u)

/-- The position of a switch as a number. -/
def State.swFx (s : State) (oid : Nat) (n : Word) : Int := fxOfF32 (s.swPos oid n)

/-- A × P × W_ON × W for crosspoint `x` in grain `n` (R159); `post` selects the stream, `p` is the pan gain. -/
def State.xpTerm (s : State) (x : Nat) (post : Bool) (p : Int) (n : Word) : Int :=
  let wp := s.swFx (oidXpTap x) n
  fxMul (fxMul (fxMul (fxDb (s.psF32 (oidXpLevel x) n)) p) (sinHalf (s.swFx (oidXpOn x) n)))
    (if post then wp else fxOne - wp)

/-- The derived coefficient of crosspoint `x` in grain `n`, Q3.29 (R159, R160): the mean, under the fade of BUS_LINK,
of the coefficient unlinked and the coefficient that the even crosspoint of a linked pair governs. The basic objects of an
even bus govern the odd bus of the pair also while the even bus is EXPERT (DESIGN CHOICE, log 12). -/
def State.xpCoef (s : State) (x : Nat) (post : Bool) (n : Word) : Word :=
  let b := x % 256
  let even := x - b % 2
  let link := s.swFx (oidBusLink (b - b % 2)) n
  let own (_ : Unit) := s.xpTerm x post fxOne n
  let pair (_ : Unit) :=
    let u := (fxOfF32 (s.psF32 (oidXpPan even) n) + 100 * fxOne) / 200
    s.xpTerm even post (panGain (b % 2 = 1) u (s.swFx (oidBusPanLaw (b - b % 2)) n)) n
  fxToQ 29 (if link = 0 then own () else if link = fxOne then pair ()
    else fxMul (fxOne - link) (own ()) + fxMul link (pair ()))

/-! ### Dynamics (R157) -/

/-- The one-pole coefficient of a time in ms: 1 − e^(−1/(t × Fs)), Q1.31 (R157). -/
def State.poleCoef (s : State) (ms : Word) : Word :=
  fxToQ 31 (fxOne - fxExp (-(fxDiv (1000 * fxOne) (fxOfF32 ms * s.fsA))))

/-- 1/ratio − 1, Q1.31 (R157). -/
def slopeOf (ratio : Word) : Word := fxToQ 31 (fxDiv fxOne (fxOfF32 ratio) - fxOne)

/-- The CTRL_SOURCE object that governs an expert staged scalar (R157, R162, R168). -/
def ctrlOf (oid : Nat) : Option Nat :=
  if 0x80000 ≤ oid ∧ oid < 0xC0000 then some (oidXpCtrlSource (oid % 256))
  else if 0xC0000 ≤ oid ∧ oid < 0xD0000 ∧ 0x18 ≤ oid % 0x80 ∧ oid % 0x80 ≤ 0x1C then
    some (oidDynCtrlSource ((oid - 0xC0000) / 0x80))
  else if 0xD0000 ≤ oid ∧ oid < 0xD8000 ∧ 0x14 ≤ oid % 0x80 ∧ oid % 0x80 ≤ 0x16 then
    some (oidBusDynCtrlSource ((oid - 0xD0000) / 0x80))
  else none

/-- The derived value of an expert staged scalar in grain `n` (R5, R157, R159). -/
def State.derived (s : State) (oid : Nat) (n : Word) : Word :=
  if oid < 0xA0000 then s.xpCoef (oid - 0x80000) false n
  else if oid < 0xC0000 then s.xpCoef (oid - 0xA0000) true n
  else if oid < 0xD0000 then
    let i := (oid - 0xC0000) / 0x80
    match oid % 0x80 with
    | 0x18 => s.poleCoef (s.psF32 (oidGateAttack i) n)
    | 0x19 => s.poleCoef (s.psF32 (oidGateRelease i) n)
    | 0x1A => s.poleCoef (s.psF32 (oidCompAttack i) n)
    | 0x1B => s.poleCoef (s.psF32 (oidCompRelease i) n)
    | _ => slopeOf (s.psF32 (oidCompRatio i) n)
  else
    let b := (oid - 0xD0000) / 0x80
    match oid % 0x80 with
    | 0x14 => s.poleCoef (s.psF32 (oidBusCompAttack b) n)
    | 0x15 => s.poleCoef (s.psF32 (oidBusCompRelease b) n)
    | _ => slopeOf (s.psF32 (oidBusCompRatio b) n)

/-- The value in force of a scalar in grain `n`: a DIRECT object's own, else v(n), derived while its CTRL_SOURCE is BASIC
(R5, R157, R162). -/
def State.live (s : State) (oid : Nat) (n : Word) : Word :=
  if lawOf oid = 0 then s.ob oid else
  match ctrlOf oid with
  | some c => if s.psWordAt c n = 0 then s.derived oid n else s.psWordAt oid n
  | none => s.psWordAt oid n

/-! ### Sections (R215–R222) -/

/-- The OID of the SEC_TYPE object of section `n` (R215). -/
def secBase (n : Nat) : Nat :=
  if n < 6144 then oidSecType (n / 12) (n % 12) else 0xD0040 + 0x80 * ((n - 6144) / 8) + 8 * ((n - 6144) % 8)

/-- The section whose objects an OID belongs to (R158, R168, R215). -/
def sectionOf (oid : Nat) : Option Nat :=
  if 0xC0000 ≤ oid ∧ oid < 0xD0000 ∧ 0x20 ≤ oid % 0x80 then
    some (12 * ((oid - 0xC0000) / 0x80) + (oid % 0x80 - 0x20) / 8)
  else if 0xD0000 ≤ oid ∧ oid < 0xD8000 ∧ 0x40 ≤ oid % 0x80 then
    some (6144 + 8 * ((oid - 0xD0000) / 0x80) + (oid % 0x80 - 0x40) / 8)
  else none

/-- A type is allowed at the position of section `n` (R217). -/
def secTypeAllowed (n ty : Nat) : Bool :=
  if n ≥ 6144 then ty ≤ 10
  else
    let p := n % 12
    ty = 0 || (p < 2 && (ty = 1 || ty = 2)) || (p = 2 && (ty = 3 || ty = 4)) || (3 ≤ p && ty ≤ 10)

/-- The six terms b0, b1, b2, a0, a1, a2 of a type (R218), from F in Hz, Q, the gain in dB and Fs. -/
def secTerms (ty : Nat) (f q gain : Int) (fs : Nat) : List Int :=
  let o := fxOne
  let w0 := 4 * fxMul fxHalfPi f / fs
  let c := fxCos w0
  let al := fxDiv (fxSin w0) (2 * q)
  let k := fxDiv (fxSin (w0 / 2)) (fxCos (w0 / 2))
  let a := fxExp (fxMul gain fxLn10 / 40)
  let p := fxMul (a - o) c
  let m := fxMul (a + o) c
  let r := 2 * fxMul (fxSqrt a) al
  match ty with
  | 1 => [o, -o, 0, o + k, k - o, 0]
  | 2 => [(o + c) / 2, -(o + c), (o + c) / 2, o + al, -2 * c, o - al]
  | 3 => [k, k, 0, o + k, k - o, 0]
  | 4 => [(o - c) / 2, o - c, (o - c) / 2, o + al, -2 * c, o - al]
  | 5 => [o + fxMul al a, -2 * c, o - fxMul al a, o + fxDiv al a, -2 * c, o - fxDiv al a]
  | 6 => [fxMul a (a + o - p + r), 2 * fxMul a (a - o - m), fxMul a (a + o - p - r), a + o + p + r, -2 * (a - o + m),
      a + o + p - r]
  | 7 => [fxMul a (a + o + p + r), -2 * fxMul a (a - o + m), fxMul a (a + o + p - r), a + o - p + r, 2 * (a - o - m),
      a + o - p - r]
  | 8 => [al, 0, -al, o + al, -2 * c, o - al]
  | 9 => [o, -2 * c, o, o + al, -2 * c, o - al]
  | 10 => [o - al, -2 * c, o + al, o + al, -2 * c, o - al]
  | _ => [o, 0, 0, o, 0, 0]

/-- The five normalised values b0, b1, b2, a1, a2 (R218). -/
def secNorm (t : List Int) : List Int :=
  let a0 := nth 0 t 3
  [fxDiv (nth 0 t 0) a0, fxDiv (nth 0 t 1) a0, fxDiv (nth 0 t 2) a0, fxDiv (nth 0 t 4) a0, fxDiv (nth 0 t 5) a0]

/-- A quarter of a normalised b lies outside the Q2.30 range (R219). -/
def quarterOut (b : Int) : Bool :=
  let i := rneShift b 68
  decide (i < -(2 ^ 31 : Int) ∨ i > 2 ^ 31 - 1)

/-- The normalised values at the largest gain, in steps of 0.1 dB toward 0, whose b values fit; the flag says that the
gain was reduced (R219). -/
def secFit (ty : Nat) (f q gain : Int) (fs : Nat) : Nat → List Int × Bool
  | 0 => (secNorm (secTerms ty f q 0 fs), true)
  | k + 1 =>
    let v := secNorm (secTerms ty f q gain fs)
    if (v.take 3).any quarterOut then
      let step := fxOne / 10
      ((secFit ty f q (if gain < 0 then min 0 (gain + step) else max 0 (gain - step)) fs k).1, true)
    else (v, false)

/-- What the CSU computes for a section: the words b0/4, b1/4, b2/4, a1, a2, CLAMPED_G, whether it recomputes the section in
the grain for an input that moves. -/
structure SecOut where
  words : List Word
  clampG : Bool
  moving : Bool
  deriving DecidableEq, Repr

/-- The five Q2.30 words of normalised values (R218). -/
def secWords (v : List Int) : List Word :=
  (v.take 3).map (fun b => wdI (satInt 32 (rneShift b 68))) ++ (v.drop 3).map (fxToQ 30)

/-- A numerator blended toward the denominator: e·b + (1 − e)·(1, a1, a2) (R221). -/
def secBlend (e : Int) (v : List Int) : List Int :=
  let den := [fxOne, nth 0 v 3, nth 0 v 4]
  (List.range 3).map (fun i => fxMul e (nth 0 v i) + fxMul (fxOne - e) (nth 0 den i)) ++ v.drop 3

/-- The two halves of a type change in grain `j` of the change (R221): the type computed and the weight e; nothing when no
change runs. Each half takes max(N/2, G) samples, that is max(N, 2G) half samples. -/
def secPhase (old new n g j : Nat) : Option (Nat × Int) :=
  let h := max n (2 * g)
  let hg := (h + 2 * g - 1) / (2 * g)
  let f (j : Nat) : Option Int := (rampFrac (2 * g) h j).map fxOfF32
  let second (j : Nat) : Option (Nat × Int) := (f j).map (fun x => (new, x))
  if old = new then none
  else if old = 0 then second j
  else if j < hg then some (old, fxOne - (f j).getD fxOne)
  else if new = 0 then none else second (j - hg)

/-- The raw words of section `n`, CURRENT (R220, R240). -/
def State.rawWords (s : State) (n : Nat) : List Word :=
  (List.range 5).map (fun k => mapGet (fun _ => 0) s.dmem.cur (0x140000 + 8 * n + k))

/-- The SEC_CTRL_SOURCE of a section is EXPERT in grain `g` (R220). -/
def State.secExpert (s : State) (n : Nat) (g : Word) : Bool := s.psWordAt (secBase n + 4) g ≠ 0

/-- SEC_FREQ of section `n` exceeds 0.45 × Fs_A in grain `g` (R216, R218). -/
def State.secClampF (s : State) (n : Nat) (g : Word) : Bool :=
  decide (f32Num (s.psF32 (secBase n + 1) g) * 100 > (45 * s.fsA : Nat) * 2 ^ 149)

/-- What the CSU derives for section `n` in grain `g` (R218, R219, R221). -/
def State.secDerived (s : State) (n : Nat) (g : Word) : SecOut :=
  let b := secBase n
  let f := if s.secClampF n g then fxOfRat (45 * s.fsA) 100 else fxOfF32 (s.psF32 (b + 1) g)
  let e := s.pe b
  let ph := if isBefore g e.mb then none else secPhase e.start.toNat e.target.toNat e.n s.gsize (g - e.mb).toNat
  let ty := match ph with | some (t, _) => t | none => (s.psWordAt b g).toNat
  let (v, cg) := secFit ty f (fxOfF32 (s.psF32 (b + 2) g)) (fxOfF32 (s.psF32 (b + 3) g)) s.fsA 301
  let v := match ph with | some (_, w) => secBlend w v | none => v
  { words := secWords v
    clampG := cg
    moving := ph.isSome || (isBefore g e.mb && decide (e.start ≠ e.target)) ||
      s.psRamping (b + 1) g || s.psRamping (b + 2) g || s.psRamping (b + 3) g }

/-- The words of section `n` in force in grain `g`: raw under EXPERT, else derived (R218, R220). -/
def State.secWordsAt (s : State) (n : Nat) (g : Word) : List Word :=
  if s.secExpert n g then s.rawWords n else (s.secDerived n g).words

/-- The stability triangle of raw words: |a2| < 1 and |a1| < 1 + a2 (R220). -/
def stable (w : List Word) : Bool :=
  let a1 := (nth 0 w 3).toInt
  let a2 := (nth 0 w 4).toInt
  decide (a2.natAbs < 2 ^ 30) && decide ((a1.natAbs : Int) < 2 ^ 30 + a2)

/-- SEC_STATUS of section `n` (R216): the flags that the CSU computes and RAW_REFUSED. While SEC_CTRL_SOURCE is EXPERT the
CSU computes nothing and takes the raw words (R220). A change of Fs_A has every section recomputed in the grain that opens with it. -/
def State.secStatus (s : State) (n : Nat) (g : Word) : Nat :=
  let raw := mapGet (fun _ => 0) s.moult.secFlags n / 8 % 2 * 8
  if s.secExpert n g then raw + (if s.secExpert n (g + 1) then 0 else 4)
  else
    let o := s.secDerived n g
    raw + (if s.secClampF n g then 1 else 0) + (if o.clampG then 2 else 0) +
      (if o.moving || decide (s.moult.csuAll = some g) then 4 else 0)

/-- SEC_POLE_RADIUS of section `n` (R215): the largest magnitude of a root of z² + a1·z + a2, for the words a1, a2 in
force. -/
def State.secRadius (s : State) (n : Nat) (g : Word) : Word :=
  let w := s.secWordsAt n g
  let a1 := (nth 0 w 3).toInt * 2 ^ 66
  let a2 := (nth 0 w 4).toInt * 2 ^ 66
  let disc := fxMul a1 a1 - 4 * a2
  fxToF32 (if disc < 0 then fxSqrt a2 else ((a1.natAbs : Int) + fxSqrt disc) / 2)

/-! ### Bound words (R123–R125, R134) -/

/-- W_L of a delay line in grain `n` (R238). -/
def Line.weight (l : Line) (g : Nat) (n : Word) : Word :=
  if l.wMode = 0 then (if l.d = 0 then 0 else f32One)
  else
    let f := if isBefore n l.wMb then 0 else match rampFrac g l.wLen (n - l.wMb).toNat with | none => f32One | some f => f
    if l.wMode = 1 then f else f32Sub f32One f

/-- W_B of an output in grain `n` (R246, R247). -/
def FirOut.weight (o : FirOut) (g : Nat) (n : Word) : Word :=
  let at' : Word := if o.bankB then f32One else 0
  if o.phase ≠ 3 ∨ isBefore n o.mb then at'
  else match rampFrac g o.len (n - o.mb).toNat with
    | none => if o.bankB then 0 else f32One
    | some f => if o.bankB then f32Sub f32One f else f

/-- The delay-line owner of a delay object (R233). -/
def delayOwner (oid : Nat) : Option Nat :=
  if 0xC0000 ≤ oid ∧ oid < 0xD0000 ∧ oid % 0x80 = 2 then some ((oid - 0xC0000) / 0x80)
  else if 0xD0000 ≤ oid ∧ oid < 0xD8000 ∧ oid % 0x80 = 2 then some (512 + (oid - 0xD0000) / 0x80)
  else if 0xD8000 ≤ oid ∧ oid < 0xDA000 ∧ oid % 0x40 = 2 then some (768 + (oid - 0xD8000) / 0x40)
  else if 0xF7800 ≤ oid ∧ oid < 0xF7B00 then some (896 + (oid - 0xF7800))
  else none

/-- The delay object of an owner (R233). -/
def ownerOid (o : Nat) : Nat :=
  if o < 512 then oidDelay o else if o < 768 then oidBusDelay (o - 512)
  else if o < 896 then oidOutDelay (o - 768) else oidDlFxSamples (o - 896)

/-- A switch whose law is equal-power: XP_ON, DIRECT_ON, BUS_FEED_ON (R161, R165). -/
def equalPower (oid : Nat) : Bool :=
  (decide (0x20000 ≤ oid) && decide (oid < 0x40000)) ||
  (decide (0xC0000 ≤ oid) && decide (oid < 0xD0000) && oid % 0x80 = 0x12) ||
  (decide (0xD0000 ≤ oid) && decide (oid < 0xD8000) && oid % 0x80 = 0xF)

/-- The weight that a FADE or ROUTE object delivers in grain `n` (R124, R161, R211, R238, R246). A PATCH_SRC delivers
(k + 1)/L of its sink's crossfade, 1 at rest (DESIGN CHOICE, log 13). -/
def State.weightOf (s : State) (oid : Nat) (n : Word) : Int :=
  if lawOf oid = 6 then fxOfF32 (s.psF32 oid n)
  else match delayOwner oid with
    | some o => fxOfF32 ((mapGet (fun _ => {}) s.dmem.lines o).weight s.gsize n)
    | none =>
      if 0xD8000 ≤ oid ∧ oid < 0xDA000 ∧ oid % 0x40 = 4 then
        fxOfF32 ((mapGet (fun _ => {}) s.dmem.firs ((oid - 0xD8000) / 0x40)).weight s.gsize n)
      else if 0xE0000 ≤ oid ∧ oid < 0xE3000 then
        let k := s.sink (oid - 0xE0000)
        if k.xfL = 0 then fxOne else fxOfRat (k.xfK + 1) k.xfL
      else if equalPower oid then sinHalf (s.swFx oid n) else s.swFx oid n

/-- The word that a binding's transform gives in grain `n` (R124); XP_COEF words are Q3.29 (R163, R407). Reserved transforms give zero. -/
def State.bindWord (s : State) (b : Binding) (n : Word) : Word :=
  let fade := lawOf b.oid = 6 || lawOf b.oid = 7
  let frac := fmtFrac (b.xform % 4)
  let ty := typeOf b.oid
  let raw := if fade then fxToF32 (s.weightOf b.oid n) else s.live b.oid n
  let num := if fade then raw else if lawRamps (lawOf b.oid) then s.psF32 b.oid n else numF32 ty raw
  match b.xform / 4 % 16 with
  | 0 => raw
  | 1 =>
    if fade then fxToQ frac (s.weightOf b.oid n)
    else if ty = 7 ∨ lawRamps (lawOf b.oid) then f32ToQ frac num
    else if ty = 6 then wdI (satInt 32 (rneShift (raw.toInt * 2 ^ frac) (if 0x80000 ≤ b.oid ∧ b.oid < 0xC0000 then 29 else 31)))
    else
      let i : Int := if ty = 3 ∨ ty = 5 then raw.toInt else raw.toNat
      wdI (satInt 32 (i * 2 ^ frac))
  | 2 => dbWord frac num
  | 3 => f32ToQ 31 (f32Div num 0x43000000)
  | 4 => if f32IsZero num then 0 else 0xFFFFFFFF
  | _ => 0

/-- A bound word of a grain (R134): the tile named, its PARAM range, the key of its lane word, the value. -/
structure ParamWord where
  tile : Nat
  win : Nat
  key : Nat
  value : Word
  deriving DecidableEq, Repr

/-- The bound words of the active image in grain `n` (R134). A filter section's objects begin at the OID_BASE of its record
(R125). -/
def State.boundWords (s : State) (n : Word) : List ParamWord :=
  s.img.active.bindings.map (fun b => ⟨b.tile, b.window, 8 * b.word + b.lane, s.bindWord b n⟩) ++
  s.img.active.csu.flatMap (fun c =>
    (s.secWordsAt ((sectionOf c.oidBase).getD c.sect) n).mapIdx (fun i w => ⟨c.tile, c.window, 8 * (c.word + i) + c.lane, w⟩))

/-- A lane word of a tile's DM. -/
def Tile.dmKey (t : Tile) (k : Nat) : Word := mapGet (fun _ => 0) t.dm k
/-- Write a lane word of a tile's DM. -/
def Tile.setDmKey (t : Tile) (k : Nat) (v : Word) : Tile := { t with dm := mapSet (fun _ => 0) t.dm k v }

/-- Every bound word of the tiles of `sel` takes its value for grain `n` (R134, R138, R144). -/
def State.writeBound (s : State) (n : Word) (sel : Nat → Bool) : State :=
  (s.boundWords n).foldl (fun u w =>
    if sel w.tile then
      let p := u.carrierOf w.tile
      u.setTile p ((u.tile p).setDmKey w.key w.value)
    else u) s

/-- The first bound word of a PARAM range of a tile's work that does not hold its value for grain `n`. -/
def State.nextBound (s : State) (phys win : Nat) (n : Word) : Option ParamWord :=
  (s.boundWords n).find? (fun w => w.tile = s.workOf phys && w.win = win && (s.tile phys).dmKey w.key ≠ w.value)

end Sys2Proof.Machine
end

