-- ==== Sys2Proof/Machine/TileCtl.lean ====
section
/-!
DEFINITION. The tile commands outside the instruction words: host tuning of address sets (R65, R79–R81) and the application
of shadows at a grain boundary (R65).
-/

namespace Sys2Proof.Machine

/-- The pending writes of address set `k`. -/
def Tile.shadow (t : Tile) (k : Nat) : AsShadow := mapGet (fun _ => {}) t.shadows k
/-- Replace the pending writes of address set `k`. -/
def Tile.setShadow (t : Tile) (k : Nat) (v : AsShadow) : Tile :=
  { t with shadows := mapSet (fun _ => {}) t.shadows k v }

/-- A write of AS_GEOM_k of block `n` (R79, R81): BASE and LEN go to the shadow. -/
def wrAsGeom (n k : Nat) (v : Word) (s : State) : Wr :=
  let (p, w) := s.asTile n
  let base := fld v 13 0
  let len := fld v 28 14
  if len = 0 ∨ len > 16384 then .error stRange else
  match s.img.active.tunable w k with
  | none => .error stDenied
  | some (rb, rl) =>
    if base < rb ∨ base + len > rb + rl then .error stRange
    else .ok (s.setTile p ((s.tile p).setShadow k { (s.tile p).shadow k with base := some base, len := some len }))

/-- A write of AS_STEPMOD_k of block `n` (R80, R81): STEP and MOD go to the shadow. -/
def wrAsStepmod (n k : Nat) (v : Word) (s : State) : Wr :=
  let (p, _) := s.asTile n
  let mode := fld v 17 16
  let brw := fld v 21 18
  if mode = 3 ∨ (mode = 2 ∧ (brw = 0 ∨ brw = 15)) then .error stRange
  else .ok (s.setTile p ((s.tile p).setShadow k
    { (s.tile p).shadow k with step := some (v.setWidth 15).toInt, md := some (mode, brw) }))

/-- AS_GEOM_WRITE (R65, R79, R81). -/
def execAsGeomWrite (acc : Access) (tile : Fin 36) (set : Fin 16) (v : Word) (s : State) : Out :=
  .next (s.writeCmd acc (oidAsGeom tile set) v (fun _ u => wrAsGeom tile set v u))

/-- AS_STEPMOD_WRITE (R65, R80, R81). -/
def execAsStepmodWrite (acc : Access) (tile : Fin 36) (set : Fin 16) (v : Word) (s : State) : Out :=
  .next (s.writeCmd acc (oidAsStepmod tile set) v (fun _ u => wrAsStepmod tile set v u))

/-- AS_GEOM_k as it reads: the shadow where a write is pending, else the value in force (R81). -/
def State.readAsGeom (s : State) (n k : Nat) : Word :=
  let t := s.tile (s.asTile n).1
  let a := t.as' k
  let h := t.shadow k
  wd (h.base.getD a.base + 2 ^ 14 * h.len.getD a.len)

/-- AS_STEPMOD_k as it reads (R81). -/
def State.readAsStepmod (s : State) (n k : Nat) : Word :=
  let t := s.tile (s.asTile n).1
  let a := t.as' k
  let h := t.shadow k
  let (m, b) := h.md.getD (a.mode, a.brw)
  wd ((BitVec.ofInt 15 (h.step.getD a.step)).toNat + 2 ^ 16 * m + 2 ^ 18 * b)

/-- Two sets share a buffer: circular, with equal BASE and LEN (R65). -/
def AddrSet.shares (a b : AddrSet) : Bool := a.mode = 1 && b.mode = 1 && a.base = b.base && a.len = b.len

/-- What a shared field of set `k` takes: its own pending write, else that of the highest-numbered sharing set with one
(R65). -/
def Tile.shared (t : Tile) (k : Nat) (f : AsShadow → Option Nat) : Option Nat :=
  match f (t.shadow k) with
  | some v => some v
  | none => (List.range 16).foldl (fun acc j =>
      if j ≠ k ∧ (t.as' j).shares (t.as' k) then (match f (t.shadow j) with | some v => some v | none => acc)
      else acc) none

/-- Address set `k` after the shadows apply at a grain boundary (R65). -/
def Tile.applied (t : Tile) (k : Nat) : AddrSet :=
  let a := t.as' k
  let h := t.shadow k
  let len := (t.shared k (·.len)).getD a.len
  let (m, b) := h.md.getD (a.mode, a.brw)
  { base := (t.shared k (·.base)).getD a.base
    len := len
    ptr := if len ≠ a.len ∧ a.ptr ≥ len then a.ptr % len else a.ptr
    step := h.step.getD a.step
    mode := m
    brw := b }

/-- The pending shadows apply (R65). -/
def Tile.applyShadows (t : Tile) : Tile :=
  let u := forUpTo 16 (fun k (v : Tile) => v.setAs k (t.applied k)) t
  { u with shadows := [] }

/-- SERVICE cycles of a tile's work per grain (R121). -/
def ImgBuf.serviceCycles (b : ImgBuf) (tile : Nat) : Nat :=
  ((b.windows tile).filter (fun r => r.2.2 = 1)).foldl (fun n r => n + r.2.1) 0

end Sys2Proof.Machine
end

