-- ==== Sys2Proof/Machine/Patch.lean ====
section
/-!
DEFINITION. The patch unit's routes: legality (R170, R171, R234, R261), validity (R172), crossfades (R177, R178) and
PATCH_STATUS (R176).
-/

namespace Sys2Proof.Machine

/-- An image is active: IMG_ACTIVE_FORM names one (R147). -/
def State.imgActive (s : State) : Bool := decide (s.obn oidImgActiveForm ≠ 0)

/-- The image carries either channel of delay-line owner `o` (R233, R234). -/
def ImgBuf.owns (b : ImgBuf) (o : Nat) : Bool :=
  decide (o < 1664) && (b.carriesToc (1024 + o) || b.carriesTic (1024 + o))

/-- A network stream's configuration covers channel `ch`: enabled, and `ch` within its channels (R385, R402). -/
def streamCovers (cfg : Word) (ch : Nat) : Bool :=
  bit cfg 0 && decide (fld cfg 22 13 ≤ ch) && decide (ch < fld cfg 22 13 + fld cfg 12 6)
/-- The enabled receive stream that carries channel `ch`. -/
def State.rxStream (s : State) (ch : Nat) : Option Nat :=
  (List.range 128).find? (fun n => streamCovers (s.ob (oidNetRxCfg n)) ch)
/-- The enabled transmit stream that carries channel `ch`. -/
def State.txStream (s : State) (ch : Nat) : Option Nat :=
  (List.range 128).find? (fun n => streamCovers (s.ob (oidNetTxCfg n)) ch)

/-- TDM slot number `n` (32 × port + slot) lies within its port's slot count (R171, R311). -/
def State.slotPresent (s : State) (n : Nat) : Bool := decide (n % 32 < fld (s.ob (oidPortFrame (n / 32))) 5 0)
/-- The port of TDM slot number `n` is in domain A. -/
def State.slotInA (s : State) (n : Nat) : Bool := decide (s.domOf 0 (n / 32) = 0)
/-- The direction of bridge channel `c` is OUT (R285). -/
def State.brgOut (s : State) (c : Nat) : Bool := bit (s.ob (oidBrgGrpCfg (c / 16))) 1
/-- The domain of modulator input `n`: that of its clock group (R257, R283, R284). -/
def State.modDom (s : State) (n : Nat) : Nat := s.domOf 3 (fld (s.ob (oidModCfg n)) 2 1)

/-- A PATCH_SRC write may name this source for some sink (R170, R171, R234, R261). -/
def State.srcLegal (s : State) (src : Nat) : Bool :=
  if src = 0xFFFF then true
  else if src < 0x300 then s.slotInA src && s.slotPresent src
  else if src < 0x340 then true
  else if src < 0x400 then false
  else if src < 0x800 then
    match s.rxStream (src - 0x400) with | some n => decide (s.domOf 1 n = 0) | none => true
  else if src < 0x900 then !s.brgOut (src - 0x800)
  else if src < 0x1000 then false
  else if src < 0x2000 then
    let t := src - 0x1000
    !s.imgActive || (decide (t < s.img.active.tocs) && !(decide (1024 ≤ t) && s.img.active.owns (t - 1024)))
  else false

/-- A PATCH_SRC write may be addressed to this sink (R170, R171, R234, R261). -/
def State.sinkLegal (s : State) (k : Nat) : Bool :=
  if k < 0x300 then s.slotInA k && s.slotPresent k
  else if k < 0x400 then false
  else if k < 0x800 then
    match s.txStream (k - 0x400) with | some n => decide (s.domOf 2 n = 0) | none => true
  else if k < 0x900 then s.brgOut (k - 0x800)
  else if k < 0x2000 then false
  else if k < 0x3000 then
    let t := k - 0x2000
    !s.imgActive || (decide (t < s.img.active.tics) && !(decide (1024 ≤ t) && s.img.active.owns (t - 1024)))
  else false

/-- A route is legal under R171. -/
def State.routeLegal (s : State) (k src : Nat) : Bool :=
  s.sinkLegal k && s.srcLegal src && !(decide (0x2000 ≤ k ∧ 0x1000 ≤ src ∧ src < 0x2000))

/-- A source is present: its slot or stream is configured and it works in domain A, its TOC exists (R171, R172). -/
def State.srcPresent (s : State) (src : Nat) : Bool :=
  if src < 0x300 then s.slotPresent src
  else if src < 0x340 then decide (s.modDom (src - 0x300) = 0)
  else if src < 0x800 then (s.rxStream (src - 0x400)).isSome
  else if src < 0x900 then true
  else s.imgActive

/-- A sink is present. -/
def State.sinkPresent (s : State) (k : Nat) : Bool :=
  if k < 0x300 then s.slotPresent k
  else if k < 0x800 then (s.txStream (k - 0x400)).isSome
  else if k < 0x900 then true
  else s.imgActive

/-- A route is valid (R172); a route whose source is 0xFFFF is never invalid. -/
def State.routeValid (s : State) (k src : Nat) : Bool :=
  decide (src = 0xFFFF) || (s.routeLegal k src && s.srcPresent src && s.sinkPresent k)

/-- A crossfade of a sink to a new source begins, with the length and law of PATCH_XF in force (R175, R177). The source
already in force changes nothing (R178); on a sink that has faded to zero for an invalid route only the route changes. The
command comes just before the boundary, so the grain that opens is GN + 1. -/
def State.startRoute (s : State) (k src : Nat) : State :=
  let p := s.sink k
  if src = p.src then s.setSink k { p with waiting := none }
  else if p.vdir = 2 then s.setSink k { p with src := src, waiting := none }
  else
    let xf := s.psWordAt (oidPatchXf k) (s.gn + 1)
    s.setSink k { p with xfOld := p.src, src := src, xfK := 0, xfL := fld xf 12 0, xfGain := bit xf 16, waiting := none }

/-- A committed PATCH_SRC change reaches its sink at M: it starts, or waits while the sink crossfades (R177, R178). -/
def State.commitRoute (s : State) (k src : Nat) : State :=
  let p := s.sink k
  if p.xfL ≠ 0 ∨ p.waiting.isSome then
    let s := s.setSink k { p with waiting := some src }
    let s := s.put (oidPatchStatus k) (setBit (s.ob (oidPatchStatus k)) 3 true)
    (s.count oidPatchDeferCnt).raiseOnce k 3 1 [(2, k)]
  else s.startRoute k src

/-- PATCH_XF_END: from sample L onward only the new source flows (R177). -/
def execPatchXfEnd (sink : Nat) (s : State) : Out :=
  let p := s.sink sink
  .next (if p.xfL ≠ 0 ∧ p.xfK ≥ p.xfL then
      s.setSink sink { p with xfOld := 0xFFFF, xfK := 0, xfL := 0, xfGain := false }
    else s)

/-- PATCH_DEFERRED_START: the waiting change starts at the first grain boundary after the running crossfade ends
(R178). -/
def execPatchDeferredStart (sink : Nat) (s : State) : Out :=
  let p := s.sink sink
  .next (match p.waiting with
    | some src => if p.xfL = 0 then s.startRoute sink src else s
    | none => s)

/-- A write of PATCH_STATUS: 1 to DEFERRED clears it; the other bits are ignored (R176). -/
def wrPatchStatus (oid : Nat) (v : Word) (s : State) : Wr :=
  .ok (if bit v 3 then s.put oid (setBit (s.ob oid) 3 false) else s)

/-- PATCH_STATUS_WRITE (R176). -/
def execPatchStatusWrite (acc : Access) (sink : Nat) (v : Word) (s : State) : Out :=
  .next (s.writeCmd acc (oidPatchStatus sink) v (fun _ u => wrPatchStatus (oidPatchStatus sink) v u))

/-- PATCH_STATUS as it reads (R176). -/
def State.readPatchStatus (s : State) (k : Nat) : Word :=
  let p := s.sink k
  wd ((if p.xfL ≠ 0 then 1 else 0) + (if p.waiting.isSome then 2 else 0) +
    (if p.vdir = 1 ∨ p.vdir = 2 then 4 else 0)) ||| (s.ob (oidPatchStatus k) &&& 8)

/-- Route validity is examined at a grain boundary: an invalid route fades to zero over 32 samples and its crossfade is
abandoned; a route that is legal again fades in over XF_LEN, once the fade to zero has ended (R172, R178; DEDUCED, log
15). -/
def State.checkRoute (s : State) (k : Nat) : State :=
  let p := s.sink k
  let bad := decide (p.vdir = 1 ∨ p.vdir = 2)
  if s.routeValid k p.src then
    if p.vdir = 2 then
      s.setSink k { p with vdir := 3, vk := 0, vlen := fld (s.psWordAt (oidPatchXf k) s.gn) 12 0 }
    else s
  else if bad then s
  else
    let s := s.setSink k { p with vdir := 1, vk := 0, vlen := 32, xfOld := 0xFFFF, xfK := 0, xfL := 0, xfGain := false }
    s.raise 3 0 [(2, k), (2, p.src)]

/-- Every route is examined. A sink that no commit has named carries source 0xFFFF, which is never invalid. -/
def State.checkRoutes (s : State) : State := s.mix.sinks.foldl (fun t e => t.checkRoute e.1) s

end Sys2Proof.Machine
end

