-- ==== Sys2Proof/Machine/GuardCh.lean ====
section
/-!
DEFINITION. The channels of the Sluice: their numbers, their domains, when they are active, their status (R508, R518, R535).
-/

namespace Sys2Proof.Machine

/-- The patch sink of guard channel `g` (R508). -/
def guardSink (g : Nat) : Nat := if g < 0x300 then g else g + 0x100
/-- The guard channel of a patch sink (R508). -/
def sinkGuard (k : Nat) : Nat := if k < 0x300 then k else k - 0x100
/-- A guard channel's site: false TDM, true network (R508). -/
def guardNet (g : Nat) : Bool := decide (g ≥ 0x300)

/-- Guard channel `g`. -/
def State.gch (s : State) (g : Nat) : GCh := mapGet (fun _ => {}) s.guard.chs g
/-- Replace guard channel `g`. -/
def State.setGch (s : State) (g : Nat) (c : GCh) : State :=
  { s with guard := { s.guard with chs := mapSet (fun _ => {}) s.guard.chs g c } }
/-- What a port or stream takes from guard channel `g`. -/
def State.gOut (s : State) (g : Nat) : Word := mapGet (fun _ => 0) s.guard.out g
/-- A GUARD_STICKY flag with its counter (R534). -/
def State.guardFlag (s : State) (b : Nat) : State := s.sticky oidGuardSticky b (oidGuardCnt b)

/-- The domain of a guard channel (R508). -/
def State.gDom (s : State) (g : Nat) : Nat :=
  if g < 0x300 then s.domOf 0 (g / 32)
  else match s.txStream (g - 0x300) with | some n => s.domOf 2 n | none => 0
/-- The rate ENUM code of a domain. -/
def State.domCode (s : State) (d : Nat) : Nat :=
  if d = 0 then s.conv.rateA else if d = 1 then s.obn oidDomRateB else s.obn oidDomRateC
/-- A channel is active while its port is not OFF, or its transmit stream enabled (R508). -/
def State.gActive (s : State) (g : Nat) : Bool :=
  if g < 0x300 then decide (s.obn (oidPortState (g / 32)) ≠ 0) else (s.txStream (g - 0x300)).isSome

/-- The channel-wide causes that stand: DISAGREE, RETIRED, SAFE, SYS (R517). -/
def State.gCommon (s : State) (c : GCh) : Bool := c.dis || c.retired || s.guard.safe ≠ [] || s.guard.sys
/-- A mute cause stands for an instance (R517, R519). -/
def GInst.trips (i : GInst) : Bool := i.auto ≠ 0 || i.latch ≠ 0

/-- An instance at rest, with latched trips kept (R518). -/
def GInst.rest (i : GInst) (muted : Bool) : GInst := { latch := i.latch, safe := i.safe, m := if muted then 0 else 2 ^ 30 }
/-- A channel becomes active: PASS, or MUTED if a cause stands; detectors and clamp start from rest (R518). -/
def State.gStart (s : State) (g : Nat) : State :=
  let c := s.gch g
  let muted := s.gCommon c || c.ia.latch ≠ 0 || c.ib.latch ≠ 0
  s.setGch g { n := c.n, onsets := c.onsets, retired := c.retired, dis := c.dis, agreeAt := c.agreeAt,
               st := if muted then 3 else 1, ia := c.ia.rest muted, ib := c.ib.rest muted }
/-- A channel becomes inactive: IDLE, with its latched causes kept (R518). -/
def State.gStop (s : State) (g : Nat) : State :=
  let c := s.gch g
  let keep (i : GInst) : GInst := { latch := i.latch, safe := i.safe }
  let s := s.setGch g { n := c.n, onsets := c.onsets, retired := c.retired, ia := keep c.ia, ib := keep c.ib }
  { s with guard := { s.guard with out := mapSet (fun _ => 0) s.guard.out g 0 } }
/-- A channel follows its port or stream (R508, R518). -/
def State.gSync (s : State) (g : Nat) : State :=
  let idle := decide ((s.gch g).st = 0)
  if s.gActive g then (if idle then s.gStart g else s) else if idle then s else s.gStop g
/-- The channels of a port follow it. -/
def State.gPort (s : State) (p : Nat) : State := forUpTo 32 (fun i t => t.gSync (32 * p + i)) s
/-- The channels from `first` on follow their transmit stream. -/
def State.gNet (s : State) (first n : Nat) : State := forUpTo n (fun i t => t.gSync (0x300 + first + i)) s

/-- GUARD_STATUS as it reads (R535). -/
def State.readGuardStatus (s : State) (g : Nat) : Word :=
  let c := s.gch g
  let det := c.ia.present ||| c.ib.present ||| c.ia.latch ||| c.ib.latch
  let b (x : Bool) (n : Nat) : Nat := if x then 2 ^ n else 0
  wd (c.st + b (c.st ≠ 0 && (c.ia.g ≠ 0x3F800000 || c.ib.g ≠ 0x3F800000)) 3 + b c.stale.isSome 4 + 32 * (det % 8) + b c.dis 8 + b c.retired 9 +
    b (c.st ≠ 0 && s.guard.safe ≠ []) 10 + b (c.st ≠ 0 && s.guard.sys) 11)
/-- GUARD_MUTED_CNT as it reads: active channels not in PASS (R532). -/
def State.readGuardMuted (s : State) : Nat := (s.guard.chs.filter (fun e => e.2.st ≠ 0 && e.2.st ≠ 1)).length
/-- An oscillator of a site is out of range. -/
def State.oscBad (s : State) (net : Bool) : Bool := s.guard.osc.any (fun o => decide (o / 2 = (if net then 1 else 0)))
/-- The instances of a site run and are healthy (R534): PD4 for TDM, PD3 for network. -/
def State.siteOk (s : State) (net : Bool) : Bool :=
  bit (s.ob oidPwrDomains) (if net then 3 else 4) && !s.oscBad net && !s.guard.cfgBad
/-- The guard is healthy: SAFE_MUTE_N is released and no instance reports a fault (R522). -/
def State.guardHealthy (s : State) : Bool :=
  s.guard.safe = [] && s.siteOk false && (s.siteOk true || !bit (s.ob oidPwrDomains) 3)
/-- GUARD_STATE as it reads (R534). -/
def State.readGuardState (s : State) : Word :=
  let b (x : Bool) (n : Nat) : Nat := if x then 2 ^ n else 0
  wd (b (s.guard.safe ≠ []) 0 + 2 * s.guard.safe.headD 0 + b s.guardHealthy 4 + b (s.siteOk false) 5 + b (s.siteOk true) 6 +
    b s.guard.holder.isSome 7 + 256 * s.guard.holder.getD 0)

end Sys2Proof.Machine
end

