-- ==== Sys2Proof/Machine/Silence.lean ====
section
/-!
DEFINITION. The silence detectors of the tile input channels (R182–R186). Their timers count samples of domain A while
the tiles run.
-/

namespace Sys2Proof.Machine

/-- SIL_STATE codes (R186). -/
def silDisabled : Nat := 0
def silActive : Nat := 1
def silTail : Nat := 2
def silSilent : Nat := 3

/-- The state of a TIC's detector. -/
def State.sil (s : State) (t : Nat) : Nat := s.obn (oidSilState t)
/-- A detector takes a state; entries into and departures from SILENT are counted for the event (R189). -/
def State.setSil (s : State) (t st : Nat) : State :=
  let o := s.sil t
  if o = st then s else
  let m := s.mix
  ({ s with mix := { m with
      silChg := true
      silIn := m.silIn + (if st = silSilent then 1 else 0)
      silOut := m.silOut + (if o = silSilent then 1 else 0) } }).putn (oidSilState t) st

/-- The timers and tail report of a TIC's detector. -/
def State.det (s : State) (t : Nat) : SilDet := mapGet (fun _ => {}) s.mix.dets t
/-- Replace the timers of a TIC's detector. -/
def State.setDet (s : State) (t : Nat) (d : SilDet) : State :=
  { s with mix := { s.mix with dets := mapSet (fun _ => {}) s.mix.dets t d } }

/-- SIL_THRESH as a Q1.31 magnitude (R182). -/
def State.silMag (s : State) (t : Nat) : Nat := (dbWord 31 (s.psF32 (oidSilThresh t) s.gn)).toNat
/-- SIL_HOLD in samples, rounded to whole grains (R186). -/
def State.silHold (s : State) (t : Nat) : Nat :=
  (rneDiv (f32Num (s.psF32 (oidSilHold t) s.gn) * s.fsA) (2 ^ 149 * 1000 * s.gsize)).toNat * s.gsize

/-- Strip `t` is in the active image: an image whose input exchange carries its TIC (R151, R158). -/
def State.stripPresent (s : State) (t : Nat) : Bool := s.imgActive && s.img.active.carriesTic t

/-- A strip's reported level lies below SIL_THRESH (R183): the sum of squares of a grain against that of the threshold
(DEDUCED, log 14). -/
def State.levelQuiet (s : State) (t level : Nat) : Bool := decide (level < s.gsize * s.silMag t ^ 2)

/-- No loud sample for SIL_HOLD. -/
def State.inputQuiet (s : State) (t : Nat) : Bool :=
  decide (s.mix.silClock ≥ max (s.det t).loudAt s.mix.silBase + s.silHold t)
/-- The tail is quiet for SIL_HOLD; a TIC without a strip in the image has a tail that is quiet at all times (R183). -/
def State.tailQuiet (s : State) (t : Nat) : Bool :=
  if t < 512 ∧ s.stripPresent t then
    (s.det t).reported && s.levelQuiet t (s.det t).level &&
      decide (s.mix.silClock ≥ max (s.det t).tailAt s.mix.silBase + s.silHold t)
  else true

/-- Both hold timers of a detector restart (R184). -/
def State.restartSil (s : State) (t : Nat) : State :=
  s.setDet t { s.det t with loudAt := s.mix.silClock, tailAt := s.mix.silClock }

/-- The tile of strip `t` has reported T5 and T6 at the end of a grain (R183): the larger sum of squares is the tail level;
a loud report restarts the tail timer. -/
def State.tailReport (s : State) (t level : Nat) : State :=
  let d := s.det t
  s.setDet t { d with level := level, reported := true, tailAt := if s.levelQuiet t level && d.reported then d.tailAt else s.mix.silClock }

/-- The strip of a meter report of tap T5 or T6 (R280). -/
def stripOfTap (oid : Nat) : Option Nat :=
  if 0x100000 ≤ oid ∧ oid < 0x102000 ∧ (oid % 16 = 10 ∨ oid % 16 = 12) then some ((oid - 0x100000) / 16) else none

/-- What the tiles report at the end of a grain for strip, bus and output taps (R183, R279): the meters take each tap's
largest magnitude and sum of squares, keyed by the OID of its PEAK, and the tail guards the larger sum of T5 and T6. -/
def State.tapReports (s : State) (reports : List (Nat × Nat × Nat)) : State :=
  let l := reports.filter (fun r => r.1 < 0x110000)
  let s := { s with conv := { s.conv with macc := l.foldl (fun m r => mapSet (fun _ => (0, 0)) m r.1 r.2) s.conv.macc } }
  (l.filterMap (fun r => stripOfTap r.1)).eraseDups.foldl (fun (t : State) i =>
    let sq (oid : Nat) : Nat := (mapGet (fun _ => (0, 0)) t.conv.macc oid).2
    if t.stripPresent i then t.tailReport i (max (sq (0x10000A + 16 * i)) (sq (0x10000C + 16 * i))) else t) s

/-- SIL_HOLD_EXPIRE: at a grain boundary a detector whose hold times have passed goes to TAIL or SILENT, while the tiles
run (R184, R185). `reports` are the meter reports of its strip for the grain that ends, which GRAIN_BOUNDARY repeats. -/
def execSilHoldExpire (tic : Fin 4096) (reports : List (Nat × Nat × Nat)) (s : State) : Out :=
  let s := s.tapReports (reports.filter (fun r => stripOfTap r.1 = some tic.val))
  .next (if !s.img.running || s.mix.silHeld || s.img.relock || s.img.relockStop then s
    else if s.sil tic = silActive ∧ s.inputQuiet tic then
      s.setSil tic (if s.tailQuiet tic then silSilent else silTail)
    else if s.sil tic = silTail ∧ s.tailQuiet tic then s.setSil tic silSilent
    else s)

/-- A loud sample (R184): ACTIVE, and the input timer restarts. -/
def State.silLoud (s : State) (t : Nat) : State :=
  if s.sil t = silDisabled then s
  else (s.setSil t silActive).setDet t { s.det t with loudAt := s.mix.silClock }

/-- A change of SIL_ENABLE, SIL_THRESH or SIL_HOLD takes effect at a moult (R184). -/
def State.silCommit (s : State) (oid : Nat) : State :=
  let t := oid % 4096
  if oid < 0xDD000 then
    if s.psWordAt oid (s.gn + 1) = 0 then s.setSil t silDisabled
    else if s.sil t = silDisabled ∧ s.img.running then (s.setSil t silActive).restartSil t
    else s
  else if s.sil t = silDisabled then s else s.restartSil t

/-- An activation reaches b0: every detector in use goes to ACTIVE and stays there until the tiles start (R184). -/
def State.silB0 (s : State) : State :=
  let s := forUpTo 4096 (fun t u => if u.sil t = silDisabled then u else u.setSil t silActive) s
  { s with mix := { s.mix with silHeld := true } }

/-- The tiles start: detectors in use that are DISABLED go to ACTIVE, every timer starts from zero and every tail counts
as loud until its first report (R183, R184). -/
def State.silStart (s : State) : State :=
  let s := forUpTo 4096 (fun t u =>
    if u.sil t = silDisabled ∧ u.psWordAt (oidSilEnable t) (u.gn + 1) ≠ 0 then u.setSil t silActive else u) s
  { s with mix := { s.mix with silHeld := false, silBase := s.mix.silClock, dets := [] } }

/-- SIL_STATE_CHANGE at a grain boundary (R189). -/
def State.silEvent (s : State) : State :=
  let m := s.mix
  let s' := { s with mix := { m with silChg := false, silIn := 0, silOut := 0 } }
  if m.silChg then s'.raise 3 2 [(4, m.silIn), (4, m.silOut)] else s'

/-- K7 of a lane mapped to a TIC (R69): 0 while its detector is SILENT; 0xFFFF maps none. -/
def State.k7 (s : State) (tic : Nat) : Bool := decide (tic = 0xFFFF) || decide (s.sil tic ≠ silSilent)

end Sys2Proof.Machine
end

