-- ==== Sys2Proof/Machine/Dmem.lean ====
section
/-!
DEFINITION. Delay memory: delay lines and the delay engine (R233–R239), bulk sets (R240–R242), the FIR loader
(R243–R248), the scrubber (R230, R231).
-/

namespace Sys2Proof.Machine

/-- A DMEM sticky flag with its counter, and DMEM_ECC for the error flags (R252, R255). -/
def State.dmemFlag (s : State) (b : Nat) : State :=
  let s := s.sticky oidDmemSticky b (oidDmemCnt b)
  if b < 5 then s.raiseOnce 0 5 0 [] else s

/-! ### Delay lines -/

/-- The line of an owner. -/
def State.line (s : State) (o : Nat) : Line := mapGet (fun _ => {}) s.dmem.lines o
/-- Replace the line of an owner. -/
def State.setLine (s : State) (o : Nat) (l : Line) : State :=
  { s with dmem := { s.dmem with lines := mapSet (fun _ => {}) s.dmem.lines o l } }

/-- The realised delay D in samples that the delay object of an owner asks for in grain `n` (R235). -/
def State.realised (s : State) (o : Nat) (n : Word) : Nat :=
  if o < 896 then
    let d := (rneDiv (f32Num (numF32 7 (s.psWordAt (ownerOid o) n)) * s.fsA) (2 ^ 149 * 1000)).toNat
    if d = 0 then 0 else max d s.gsize
  else
    let d := (s.psWordAt (ownerOid o) n).toNat
    if d = 0 then 0 else max d s.gsize

/-- The line of an owner takes the realised delay `dn` from grain `n` (R238). -/
def State.retune (s : State) (o dn : Nat) (n : Word) : State :=
  let l := { s.line o with waiting := none }
  let len := (s.psWordAt oidDlXfLen n).toNat
  s.setLine o (
    if dn = l.d then l
    else if l.d = 0 then { l with d := dn, dOld := 0, wMode := 1, wMb := n, wLen := len }
    else if dn = 0 then { l with d := 0, dOld := l.d, wMode := 2, wMb := n, wLen := len }
    else { l with d := dn, dOld := l.d, k := 0, len := len })

/-- A change runs on the line. -/
def Line.busy (l : Line) : Bool := decide (l.len ≠ 0 ∨ l.wMode ≠ 0)

/-- A delay change committed at M, the grain that opens (R238, R239). -/
def State.commitDelay (s : State) (o : Nat) : State :=
  let n := s.gn + 1
  let dn := s.realised o n
  let l := s.line o
  if l.ring = 0 then s
  else if l.busy then ((s.setLine o { l with waiting := some dn }).dmemFlag 5).raise 5 1 [(2, o)]
  else s.retune o dn n

/-- A fade of W_L has reached its end in grain `n`. -/
def Line.wDone (l : Line) (g : Nat) (n : Word) : Bool :=
  !isBefore n l.wMb && (rampFrac g l.wLen (n - l.wMb).toNat).isNone

/-- DL_XF_END: the change of a line has ended; a waiting change starts at this grain boundary (R238, R239). -/
def execDlXfEnd (owner : Nat) (s : State) : Out :=
  let l := s.line owner
  let n := s.gn + 1
  .next (
    if (l.len ≠ 0 ∧ l.k ≥ l.len) ∨ (l.wMode ≠ 0 ∧ l.wDone s.gsize s.gn) then
      let s := s.setLine owner { l with len := 0, k := 0, dOld := 0, wMode := 0, wMb := 0, wLen := 0 }
      match l.waiting with
      | some dn => s.retune owner dn n
      | none => s
    else s)

/-- Drop the words of ring `r`: it starts from zeros. -/
def State.clearRing (s : State) (r : Nat) : State :=
  { s with dmem := { s.dmem with rings := s.dmem.rings.filter (fun e => e.1 / 262144 ≠ r) } }

/-- An owner has a line: the image carries both of its channels (R233). -/
def ImgBuf.hasLine (b : ImgBuf) (o : Nat) : Bool := b.carriesToc (1024 + o) && b.carriesTic (1024 + o)

/-- The owners that a new image serves, in ascending order, at most 768 (R233). -/
def ImgBuf.servedOwners (b : ImgBuf) : List Nat := ((List.range 1664).filter b.hasLine).take 768

/-- A line that keeps its ring in a new image realises its delay for the new G (R235, R239). -/
def State.keepLine (s : State) (o : Nat) (l : Line) : Line :=
  let new := s.realised o (s.gn + 1)
  if !l.busy then { l with d := s.realised o s.gn }
  else if l.waiting.isSome then { l with d := if l.d = 0 then 0 else max l.d s.gsize, waiting := some new }
  else { l with d := if l.d = 0 then 0 else new }

/-- Rings are assigned to the owners of a new active image at its start (R233, R239): an owner that keeps its ring keeps
its line and contents, any other starts from zeros at the realised delay of its object. -/
def State.assignLines (s : State) : State :=
  let img := s.img.active
  let own := img.servedOwners
  let old := s.dmem.lines
  let ringOf (o : Nat) : Nat := (mapGet (fun _ => ({} : Line)) old o).ring
  let s := { s with dmem := { s.dmem with lines := [] } }
  let s := (own.mapIdx (fun r o => (r, o))).foldl (fun (t : State) (e : Nat × Nat) =>
    if ringOf e.2 = e.1 + 1 then t.setLine e.2 (t.keepLine e.2 (mapGet (fun _ => {}) old e.2))
    else (t.clearRing e.1).setLine e.2 { ring := e.1 + 1, d := t.realised e.2 (t.gn + 1) }) s
  let s := { s with dmem := { s.dmem with rings := s.dmem.rings.filter (fun e => e.1 / 262144 < own.length) } }
  let s := s.putn oidDlCount own.length
  let lost := ((List.range 1664).filter (fun o => img.owns o && !own.contains o)).length
  if lost = 0 then s else (s.dmemFlag 8).raise 5 2 [(4, lost)]

/-- Every line is recomputed for a new rate and every ring is zeroed (R239). -/
def State.resetLines (s : State) : State :=
  let ls := s.dmem.lines
  let s := { s with dmem := { s.dmem with rings := [] } }
  ls.foldl (fun t e => t.setLine e.1 { ring := e.2.ring, d := t.realised e.1 (t.gn + 1) }) s

/-- Word `t` of a ring. -/
def State.ringWord (s : State) (r t : Nat) : Word := mapGet (fun _ => 0) s.dmem.rings (262144 * r + t % 262144)

/-- The weights of a tap crossfade at sample `k`, Q2.30 (R237, R238). -/
def tapMix (k len : Nat) (old new : Word) : Word :=
  let wn := rneDiv ((k + 1) * 2 ^ 30 : Nat) len
  let wo := rneDiv ((len - (k + 1)) * 2 ^ 30 : Nat) len
  wdI (rneShift (wo * old.toInt) 30 + rneShift (wn * new.toInt) 30)

/-- One return word of a line at line index `t`: the tap in force, or the crossfade of two; a read with an uncorrectable
error gives the last sample the line returned (R231, R236–R238). -/
def State.lineReturn (s : State) (o t : Nat) (ue : Bool) : Word × Line :=
  let l := s.line o
  let r := l.ring - 1
  let at' (d : Nat) : Word := s.ringWord r (t + 262144 * 2 - d)
  if ue then (l.last, { l with k := if l.len ≠ 0 ∧ l.k < l.len then l.k + 1 else l.k })
  else if l.len ≠ 0 ∧ l.k < l.len then
    let w := tapMix l.k l.len (at' l.dOld) (at' l.d)
    (w, { l with k := l.k + 1, last := w })
  else
    let d := if l.wMode = 2 then l.dOld else l.d
    let w := if d = 0 then 0 else at' d
    (w, { l with last := w })

/-- Traffic of the grain in progress, in units of 32 bytes (R250). -/
def State.traffic (s : State) (n : Nat) : State := { s with dmem := { s.dmem with units := s.dmem.units + n } }

/-- The tap that a line reads at line index `t`, or the one it crossfades from (R236, R238). -/
def Line.tap (l : Line) (old : Bool) : Nat := if old ∨ l.wMode = 2 then l.dOld else l.d

/-- The delay engine's work in the exchange that opens grain GN (R236): every line stores the sends of the grain that
ended and returns the words that the tiles read in this one. `send c j` is the word at position `j` of TOC `c`; `errs`
lists the ring reads that meet an error (R231). -/
def State.delayEngine (s : State) (send : Nat → Nat → Word) (errs : List LineError) : State :=
  let g := s.gsize
  let base := s.gn.toNat * g
  s.dmem.lines.foldl (fun t e =>
    let o := e.1
    let r := e.2.ring - 1
    let t := t.traffic (if e.2.len ≠ 0 ∧ e.2.k < e.2.len then 10 else 6)
    let t := forUpTo g (fun j (u : State) =>
      let i := (base + 2 ^ 32 * g - g + j) % 262144
      { u with dmem := { u.dmem with
          rings := mapSet (fun _ => 0) u.dmem.rings (262144 * r + i) (send (1024 + o) j) } }) t
    forUpTo g (fun j (u : State) =>
      let mine := errs.filter (fun x => x.owner = o && x.pos = j)
      let l0 := u.line o
      let (w, l) := u.lineReturn o (base + j) (mine.any (·.ue))
      let u := u.setLine o l
      let u := { u with mix := { u.mix with ticGrain := mapSet (fun _ => 0) u.mix.ticGrain (16 * (1024 + o) + j) w } }
      mine.foldl (fun (u : State) x =>
        if !x.ue then u.dmemFlag 0
        else
          let a := 0x0A000000 + 0x100000 * r + 4 * ((base + j + 262144 * 2 - l0.tap x.old) % 262144)
          ((u.put oidDmemUeAddr (wd a)).dmemFlag 1).noteFault 8 (a / 64)) u) t) s

/-- The grain ends: its traffic joins that of the grains of the last second that none since has exceeded (R251). -/
def State.closeTraffic (s : State) : State :=
  let d := s.dmem
  let fresh := d.loads.filter (fun e => decide (((s.gn - wd e.1).toNat + 1) * s.gsize < s.fsA) && decide (e.2 > d.units))
  { s with dmem := { d with units := 0, loads := fresh ++ [(s.gn.toNat, d.units)] } }
/-- DMEM_LOAD (R250, R251): per cent of 25.6 GB/s in the busiest grain of the last second, RNE. Delay lines, loader,
checkpoints and T2 are counted (DEDUCED, log 18). -/
def State.dmemLoad (s : State) : Nat :=
  let m := s.dmem.loads.foldl (fun a e => max a e.2) 0
  min 255 (rneDiv (m * 32 * s.fsA * 100 : Nat) (25600000000 * s.gsize : Nat)).toNat

/-- DL_SAMPLES as it reads (R251). -/
def State.readDlSamples (s : State) (o : Nat) : Word :=
  let l := s.line o
  if l.ring = 0 then 0xFFFFFFFF else wd l.d

/-! ### Bulk sets (R240–R242) -/

/-- The key of a set: SEC_RAW n, 8192 + s for FIR set s, 8384 + q for table q. -/
def setKey (kind index : Nat) : Nat := if kind = 0 then index else if kind = 1 then 8192 + index else 8384 + index
/-- The kind and index of a set key. -/
def setKind (k : Nat) : Nat × Nat :=
  if k < 8192 then (0, k) else if k < 8384 then (1, k - 8192) else (2, k - 8384)
/-- A set exists (R240, R254). -/
def setExists (kind index : Nat) : Bool :=
  decide ((kind = 0 ∧ index < 8192) ∨ (kind = 1 ∧ index < 192) ∨ (kind = 2 ∧ index < 16))
/-- First OID and number of words of a set (R240). -/
def setRange (k : Nat) : Nat × Nat :=
  if k < 8192 then (0x140000 + 8 * k, 8)
  else if k < 8384 then (0x150000 + 0x4000 * (k - 8192), 0x4000)
  else (0x450000 + 0xB000 * (k - 8384), 0xB000)
/-- The set that a bulk OID belongs to. -/
def setOf (oid : Nat) : Option Nat :=
  if 0x140000 ≤ oid ∧ oid < 0x150000 then some ((oid - 0x140000) / 8)
  else if 0x150000 ≤ oid ∧ oid < 0x450000 then some (8192 + (oid - 0x150000) / 0x4000)
  else if 0x450000 ≤ oid ∧ oid < 0x500000 then some (8384 + (oid - 0x450000) / 0xB000)
  else none

/-- The state of a set. -/
def State.bset (s : State) (k : Nat) : BulkSet := mapGet (fun _ => {}) s.dmem.sets k
/-- The device writes into DMEM between two addresses whose layout R229 does not give: what T2 has written there may be
gone (DESIGN CHOICE, log 19). -/
def State.areaWritten (s : State) (lo hi : Nat) : State :=
  { s with dmem := { s.dmem with raw := s.dmem.raw.filter (fun e => e.1 < lo || hi ≤ e.1) } }
/-- Replace the state of a set, whose bulk words or spectral form change with it. -/
def State.setBset (s : State) (k : Nat) (b : BulkSet) : State :=
  let s := s.areaWritten 0x4000000 0xA000000
  { s with dmem := { s.dmem with sets := mapSet (fun _ => {}) s.dmem.sets k b } }

/-- The taps of a FIR set held in a map: FIR_SET_LEN words, or the unit impulse (R243). -/
def firTaps (m : SMap Word) (set len : Nat) : List Word :=
  if len = 0 then [0x40000000] else mapRead (fun _ => 0) m (0x150000 + 0x4000 * set) len

/-- The number of partitions of a filter of `n` taps (R243). -/
def firParts (n : Nat) : Nat := if n ≤ 256 then 0 else (n - 256 + 127) / 128

/-- cos(2πm/256) and sin(2πm/256). -/
def cosTurn (m : Nat) : Int := fxCos (fxHalfPi * 2 * (if m % 256 ≤ 128 then m % 256 else 256 - m % 256 : Nat) / 128)
def sinTurn (m : Nat) : Int :=
  if m % 256 ≤ 128 then fxSin (fxHalfPi * 2 * (m % 256 : Nat) / 128) else -fxSin (fxHalfPi * 2 * (m % 256 - 128 : Nat) / 128)
/-- Component `i` of the spectral form of a partition's 128 taps, Q5.27 without a limit (R244): Re S(0), Re S(128), then
Re S(k) and Im S(k). -/
def specComp (taps : List Word) (i : Nat) : Int :=
  let k := if i = 1 then 128 else i / 2
  let c (n : Nat) : Int := if 2 ≤ i ∧ i % 2 = 1 then -(sinTurn (k * n)) else cosTurn (k * n)
  rneShift ((taps.mapIdx (fun n h => h.toInt * c n)).foldl (· + ·) 0) 99
/-- The partitions' components, in order (R243, R244). -/
def specComps (taps : List Word) : List Int :=
  (List.range (firParts taps.length)).flatMap (fun p =>
    (List.range 256).map (specComp ((taps.drop (256 + 128 * p)).take 128)))
/-- The spectral form of a set: taps 0–255, then the partitions (R244). -/
def specForm (taps : List Word) : List Word :=
  (List.range 256).map (nth 0 taps) ++ (specComps taps).map (fun i => wdI (satInt 32 i))
/-- A component lies outside ±16 (R244). -/
def specOver (taps : List Word) : Bool := (specComps taps).any (fun i => decide (i.natAbs > 2 ^ 31))

/-- PUBLISH of a set by a session (R242, R244, R254). -/
def State.publish (s : State) (ses kind index : Nat) : Wr :=
  let k := setKey kind index
  let b := s.bset k
  if kind = 1 ∧ b.st ≤ 1 ∧ specOver (firTaps s.dmem.edit index b.lenEdit) then .error stRange
  else if b.st ≥ 2 then .error stBusy
  else .ok ((s.setBset k { b with st := 2, owner := ses, overR := false, damaged := false, preparing := decide (kind ≠ 0) }).mirror
    (.publish (Fin.ofNat 64 ses) (Fin.ofNat 4 kind) (BitVec.ofNat 13 index)))

/-- The OVER_RANGE flag that a refused PUBLISH leaves (R242, R253). -/
def State.publishRefused (s : State) (kind index : Nat) : State :=
  let k := setKey kind index
  if kind = 1 ∧ (s.bset k).st ≤ 1 then s.setBset k { s.bset k with overR := true } else s

/-- The spectral form of a published FIR set is in the EDIT spectral buffer (R242, R244). -/
def State.prepared (s : State) (kind index : Nat) : State :=
  let k := setKey kind index
  let b := s.bset k
  if b.st = 2 ∧ b.preparing then
    let s := s.setBset k { b with preparing := false }
    if kind = 1 then
      let ws := specForm (firTaps s.dmem.edit index b.lenEdit)
      let cleared := s.dmem.specEdit.filter (fun e => e.1 / 2 ^ 22 ≠ index)
      { s with dmem := { s.dmem with specEdit := mapSetFrom (fun _ => 0) cleared (2 ^ 22 * index) ws } }
    else s
  else s

/-- REVERT of a set (R242): a DIRTY set is copied from CURRENT. -/
def State.revert (s : State) (kind index : Nat) : Wr :=
  let k := setKey kind index
  let b := s.bset k
  if b.st ≥ 2 then .error stBusy
  else if b.st = 0 then .error stNotReady
  else .ok ((s.setBset k { b with st := 3 }).mirror (.revert (Fin.ofNat 4 kind) (BitVec.ofNat 13 index)))

/-- The entries of a map outside a key range, with those of another map inside it. -/
def mapCopyRange {α : Type} (src dst : SMap α) (lo n : Nat) : SMap α :=
  dst.filter (fun e => e.1 < lo) ++ src.filter (fun e => lo ≤ e.1 ∧ e.1 < lo + n) ++ dst.filter (fun e => lo + n ≤ e.1)

/-- The copy of a set's CURRENT into EDIT is complete (R242). -/
def State.copyDone (s : State) (kind index : Nat) : State :=
  let k := setKey kind index
  let b := s.bset k
  if b.st ≠ 3 then s else
  let (lo, n) := setRange k
  let d := s.dmem
  let s := { s with dmem := { d with
    edit := mapCopyRange d.cur d.edit lo n
    specEdit := if kind = 1 then mapCopyRange d.specCur d.specEdit (2 ^ 22 * index) (2 ^ 22) else d.specEdit } }
  s.setBset k { b with st := 0, lenEdit := b.lenCur, owner := 0 }

/-- The first limits of BULK_CTRL (R254): a reserved field, a KIND, INDEX or ACTION out of range. -/
def bulkCtrlBad (v : Word) : Bool :=
  decide (fld v 1 0 = 3 ∨ fld v 16 15 = 3) || !setExists (fld v 1 0) (fld v 14 2)

/-- A write of BULK_CTRL by a session (R254). -/
def wrBulkCtrl (ses : Nat) (v : Word) (s : State) : Wr :=
  if bulkCtrlBad v then .error stRange
  else match fld v 16 15 with
    | 1 => s.publish ses (fld v 1 0) (fld v 14 2)
    | 2 => s.revert (fld v 1 0) (fld v 14 2)
    | _ => .ok s

/-- A write of FIR_SET_LEN: it reaches EDIT (R241, R242). -/
def wrFirSetLen (set : Nat) (v : Word) (s : State) : Wr :=
  let b := s.bset (8192 + set)
  if b.st ≥ 2 then .error stBusy
  else .ok (s.setBset (8192 + set) { b with st := 1, lenEdit := v.toNat })

/-- The set that a BULK_CTRL word asks to publish (R254). -/
def bulkPublish (v : Word) : Option (Nat × Nat) :=
  if fld v 16 15 = 1 ∧ fld v 31 17 = 0 ∧ !bulkCtrlBad v then some (fld v 1 0, fld v 14 2) else none

/-- The BULK_CTRL word of an action. -/
def bulkWord (kind index action : Nat) : Word := wd (kind + 4 * index + 32768 * action)

/-- REVERT (R242, R254). -/
def execRevert (acc : Access) (kind : Fin 4) (index : BitVec 13) (s : State) : Out :=
  let v := bulkWord kind index.toNat 2
  .next (s.writeCmd acc oidBulkCtrl v (fun _ u => wrBulkCtrl acc.session v u))

/-- BULK_COPY_DONE (R242). -/
def execBulkCopyDone (kind : Fin 4) (index : BitVec 13) (s : State) : Out := .next (s.copyDone kind index.toNat)

/-- A block write reaches EDIT (R241, R242, R427). The caller has checked that the words lie in set `k`. -/
def State.writeBulk (s : State) (k oid : Nat) (ws : List Word) : State :=
  let s := { s with dmem := { s.dmem with edit := mapSetFrom (fun _ => 0) s.dmem.edit oid ws } }
  (s.setBset k { s.bset k with st := 1 }).mirror (.block oid ws)

/-- FIR_SET_STATE and TABLE_STATE as they read (R253). -/
def State.readSetState (s : State) (k : Nat) : Word :=
  let b := s.bset k
  wd (b.st + (if b.damaged then 8 else 0) + (if b.overR then 16 else 0))

/-! ### FIR outputs (R245–R248) -/

/-- The FIR selection of output `m`. -/
def State.fir (s : State) (m : Nat) : FirOut := mapGet (fun _ => {}) s.dmem.firs m
/-- Replace the FIR selection of output `m`. -/
def State.setFir (s : State) (m : Nat) (f : FirOut) : State :=
  { s with dmem := { s.dmem with firs := mapSet (fun _ => {}) s.dmem.firs m f } }

/-- The outputs 0–127 that a tile's work exchanges, in ascending order (R245). -/
def ImgBuf.firOuts (b : ImgBuf) (tile : Nat) : List Nat :=
  (List.range 128).filter (fun c => (b.exchange tile).any (fun e =>
    e.out && e.ch ≤ c && c < e.ch + 8 && e.mask.getLsbD (c - e.ch)))

/-- The slice of output `m` in a bank: the work tile, the first DM word in bank A and in bank B, and P_s + 1, the number
of 32-word units it holds; nothing when the tile lacks a region or room (R245). -/
def ImgBuf.slice' (b : ImgBuf) (m : Nat) : Option (Nat × Nat × Nat × Nat) :=
  match b.tileOfToc m with
  | none => none
  | some t =>
    match b.tunable t 14, b.tunable t 15 with
    | some (ba, la), some (bb, lb) =>
      let outs := b.firOuts t
      let n := outs.length
      let i := (outs.takeWhile (· < m)).length
      let u := min (la / n / 32) (lb / n / 32)
      if u = 0 then none else some (t, ba + la / n * i, bb + lb / n * i, u)
    | _, _ => none

/-- FIR_CAP of output `m` (R245). -/
def State.firCap (s : State) (m : Nat) : Nat :=
  if s.imgActive then match s.img.active.slice' m with | none => 0 | some (_, _, _, u) => 256 + 128 * (u - 1) else 0

/-- Spectral word `w` of a set's CURRENT form; a set that was never published holds the unit impulse (R243, R244). -/
def State.specWord (s : State) (set w : Nat) : Word :=
  if (s.bset (8192 + set)).lenCur = 0 then (if w = 0 then 0x40000000 else 0)
  else if w < 256 + 256 * firParts (s.bset (8192 + set)).lenCur then mapGet (fun _ => 0) s.dmem.specCur (2 ^ 22 * set + w)
  else 0

/-- DM word `i` of the slice as it stands once set `set` is loaded (R245). -/
def State.sliceWord (s : State) (set i : Nat) : List Word := lanes (fun l => s.specWord set (8 * i + l))

/-- FIR_TRUNC when a set is longer than the slice (R247). -/
def State.firTrunc (s : State) (m set : Nat) : State :=
  if (s.bset (8192 + set)).lenCur > s.firCap m then
    (s.dmemFlag 7).raise 5 5 [(1, m), (1, set), (2, s.firCap m)]
  else s

/-- A load of set `set` into the idle bank of output `m` begins (R247). A tile that does not run loads its selection when
it starts (R248). -/
def State.beginFir (s : State) (m set : Nat) : State :=
  match s.img.active.slice' m with
  | none => s.setFir m { s.fir m with sel := set, waiting := none }
  | some (t, _) =>
    if s.imgActive ∧ s.tileState (s.carrierOf t) = tsRunning then
      (s.setFir m { s.fir m with phase := 1, next := set, words := 0, waiting := none }).firTrunc m set
    else s.setFir m { s.fir m with sel := set, phase := 0, waiting := none, stale := true }

/-- A load in progress starts again from the CURRENT form of its set (R248). -/
def State.restartFir (s : State) (m : Nat) : State :=
  let f := s.fir m
  (s.setFir m { f with phase := 1, words := 0 }).firTrunc m f.next

/-- A moult at M gives output `m` a set to load: its selection changes, or the set it selects is published (R247, R248). -/
def State.commitFir (s : State) (m set : Nat) : State :=
  let f := s.fir m
  if f.phase = 0 then s.beginFir m set
  else if f.waiting = some set then s
  else (s.setFir m { f with waiting := some set }).dmemFlag 6

/-- A FIR set is published at M (R247, R248): a load of it starts again, and the outputs that select it, before and after the
commit, reload. -/
def State.republishFir (s : State) (index : Nat) : State :=
  forUpTo 128 (fun m t =>
    let f := t.fir m
    let sel (n : Word) : Nat := (t.psWordAt (oidOutFirSet m) n).toNat
    if (f.phase = 1 ∨ f.phase = 2) ∧ f.next = index then t.restartFir m
    else if sel t.gn = index ∧ sel (t.gn + 1) = index then t.commitFir m index else t) s

/-- The loader writes the next DM word of the load of output `m` (R247). -/
def State.firStep (s : State) (m : Nat) : State :=
  let f := s.fir m
  match s.img.active.slice' m with
  | none => s
  | some (t, a, b, u) =>
    if f.phase ≠ 1 then s else
    let p := s.carrierOf t
    let dmw := (if f.bankB then a else b) + f.words
    let s := s.traffic 1
    let s := s.setTile p ((s.tile p).setDm dmw 0xFF (s.sliceWord f.next f.words))
    s.setFir m { f with words := f.words + 1, phase := if f.words + 1 ≥ 32 * u then 2 else 1 }

/-- FIR_SLICE_COMPLETE: the slice is complete and W_B moves from this grain boundary (R247). -/
def execFirSliceComplete (out : Fin 128) (s : State) : Out :=
  .next (
    if (s.fir out).phase = 1 ∨ (s.fir out).phase = 2 then
      let n := match s.img.active.slice' out with | none => 0 | some (_, _, _, u) => 32 * u
      let s := forUpTo n (fun _ u => u.firStep out) s
      s.setFir out { s.fir out with phase := 3, mb := s.gn + 1, len := (s.psWordAt (oidOutXfLen out) (s.gn + 1)).toNat }
    else s)

/-- FIR_XF_END: f has reached 1; the new bank alone is in force and a waiting selection starts (R247, R248). -/
def execFirXfEnd (out : Fin 128) (s : State) : Out :=
  let f := s.fir out
  .next (
    if f.phase = 3 ∧ !isBefore s.gn f.mb ∧ (rampFrac s.gsize f.len (s.gn - f.mb).toNat).isNone then
      let s := s.setFir out { f with bankB := !f.bankB, sel := f.next, phase := 0, mb := 0, len := 0, words := 0, waiting := none }
      let s := s.raise 5 4 [(1, out), (1, f.next)]
      match f.waiting with
      | some set => s.beginFir out set
      | none => s
    else s)

/-- The loads and fades of a tile's outputs are abandoned: it stops, is gated or is retired (R248). Their selections are
loaded when it next starts. -/
def State.abandonFirs (s : State) (work : Nat) : State :=
  (s.img.active.firOuts work).foldl (fun t m =>
    let f := t.fir m
    if f.phase = 0 ∧ f.waiting.isNone then t
    else t.setFir m { bankB := f.bankB, sel := f.sel, stale := true }) s

/-- The loader writes the selected sets of a tile's outputs into bank A, at full rate; W_B = 0 (R247, R248). `all'` says every
output, not those alone whose load was abandoned or whose selection has changed while the tile did not run. -/
def State.loadFirs (s : State) (work : Nat) (all' : Bool) : State :=
  (s.img.active.firOuts work).foldl (fun t m =>
    if !(all' || (t.fir m).stale) then t
    else
      let set := (t.psWordAt (oidOutFirSet m) (t.gn + 1)).toNat
      let t := t.setFir m { sel := set }
      match t.img.active.slice' m with
      | none => t
      | some (w, a, _, u) =>
        let p := t.carrierOf w
        let t := forUpTo (32 * u) (fun i (v : State) => v.setTile p ((v.tile p).setDm (a + i) 0xFF (v.sliceWord set i))) t
        t.firTrunc m set) s

/-- A selection that waits behind an abandoned load starts at the grain boundary (R231, R248). -/
def State.waitingFirs (s : State) : State :=
  s.dmem.firs.foldl (fun t e =>
    match e.2.waiting with
    | some set => if e.2.phase = 0 then t.beginFir e.1 set else t
    | none => t) s

/-- A published set becomes CURRENT at M (R220, R242). A set that has left PUBLISHED since the latch stays as it is. -/
def State.publishAtM (s : State) (k : Nat) : State :=
  let (kind, index) := setKind k
  let b := s.bset k
  if b.st ≠ 2 then s else
  let (lo, n) := setRange k
  let d := s.dmem
  let words := (List.range 5).map (fun i => mapGet (fun _ => 0) d.edit (lo + i))
  if kind = 0 ∧ !stable words then
    let s := s.setBset k { b with st := 1, owner := 0 }
    let s := { s with moult := { s.moult with secFlags := mapMod (fun _ => 0) s.moult.secFlags index (fun f => f % 8 + 8) } }
    (s.sticky oidMoultSticky 9 (oidMoultCnt 9)).raise 4 7 [(2, index)]
  else
    let s := { s with dmem := { d with
      cur := mapCopyRange d.edit d.cur lo n
      edit := mapCopyRange d.cur d.edit lo n
      specCur := if kind = 1 then mapCopyRange d.specEdit d.specCur (2 ^ 22 * index) (2 ^ 22) else d.specCur
      specEdit := if kind = 1 then mapCopyRange d.specCur d.specEdit (2 ^ 22 * index) (2 ^ 22) else d.specEdit } }
    let s := s.setBset k { b with st := 3, lenCur := b.lenEdit, lenEdit := b.lenCur }
    let s := if kind = 0 then
      { s with moult := { s.moult with secFlags := mapMod (fun _ => 0) s.moult.secFlags index (· % 8) } } else s
    let s := s.raise 5 3 [(1, kind), (2, index), (4, (s.ob oidInstar).toNat)]
    if kind = 1 then s.republishFir index else s

/-! ### The scrubber (R230, R231) -/

/-- DMEM_SCRUB: the scrubber, or the read of a client that has no command of its own, meets an error. A corrected word sets CE; an uncorrectable one sets the flag of its area, DMEM_UE_ADDR and a fault-log
entry. `set` is the set whose buffer holds the address, where the area is that of bulk words or spectral forms: their
layout inside the area is not given. -/
def execDmemScrub (addr : Nat) (ue : Bool) (set : Nat) (s : State) : Out :=
  .next (
    if !ue then s.dmemFlag 0
    else
      let s := s.put oidDmemUeAddr (wd addr)
      let log (kind : Nat) (t : State) : State := t.noteFault 8 (kind * 2 ^ 25 + addr / 64)
      if addr < 0x2000000 then log 2 (s.dmemFlag 3)
      else if addr < 0x4000000 then log 3 (s.dmemFlag 4)
      else if addr < 0xA000000 then
        let b := s.bset set
        let s := s.setBset set { b with damaged := true, st := if b.st = 3 then 1 else b.st }
        let s := forUpTo 128 (fun m t =>
          let f := t.fir m
          if (f.phase = 1 ∨ f.phase = 2) ∧ 8192 + f.next = set then
            t.setFir m { f with phase := 0, words := 0 } else t) s
        log 1 (s.dmemFlag 2)
      else if addr < 0x3A000000 then log 0 (s.dmemFlag 1)
      else s)

end Sys2Proof.Machine
end

