-- ==== Sys2Proof/Machine/Moult.lean ====
section
/-!
DEFINITION. Staging, commits and the fold (R195–R206, R209, R223, R225, R226), the effects that route switches, delays,
FIR selections, detectors and control sources have at a moult (R161, R177, R184, R200, R238, R247).

Every command of a grain boundary comes before GRAIN_BOUNDARY, which opens grain GN + 1.
-/

namespace Sys2Proof.Machine

/-- A MOULT_STICKY flag with its counter (R227). -/
def State.moultFlag (s : State) (b : Nat) : State := s.sticky oidMoultSticky b (oidMoultCnt b)

/-! ### Presence (R151, R152) -/

/-- Bus `b` is in the active image: the image carries its TOC, for buses 0–127 that of its output stage (R151). -/
def State.busPresent (s : State) (b : Nat) : Bool := s.imgActive && s.img.active.carriesToc b
/-- Output stage `m` is in the active image (R151). -/
def State.outPresent (s : State) (m : Nat) : Bool := s.imgActive && s.img.active.carriesToc m
/-- The owner of a delay object is in the active image. -/
def State.ownerPresent (s : State) (o : Nat) : Bool :=
  if o < 512 then s.stripPresent o else if o < 768 then s.busPresent (o - 512) else s.outPresent (o - 768)
/-- BUS_FEED_DEST as it reads (R597). -/
def State.readFeedDest (s : State) (b : Nat) : Nat := if s.imgActive then s.img.active.feedDest b else 0xFFFF

/-! ### Staging (R195–R199) -/

/-- The limits on a staged value that its chapter states beyond its class (R152, R168, R170, R171, R175, R217, R240,
R307). -/
def State.stageBad (s : State) (oid : Nat) (v : Word) : Bool :=
  if 0xE0000 ≤ oid ∧ oid < 0xE3000 then !(sourceExists v.toNat && s.routeLegal (oid - 0xE0000) v.toNat)
  else if 0xE9000 ≤ oid ∧ oid < 0xEC000 then decide (fld v 12 0 < 16 ∨ fld v 12 0 > 4096)
  else if lawOf oid = 8 then match sectionOf oid with | some n => !secTypeAllowed n v.toNat | none => false
  else if 0xD0000 ≤ oid ∧ oid < 0xD8000 ∧ oid % 0x80 = 0xC then
    decide (((oid - 0xD0000) / 0x80) % 2 = 1 ∧ v ≠ 0)
  else if 0xD0000 ≤ oid ∧ oid < 0xD8000 ∧ oid % 0x80 = 0xF then
    decide (v ≠ 0 ∧ s.readFeedDest ((oid - 0xD0000) / 0x80) = 0xFFFF)
  else if 0xD8000 ≤ oid ∧ oid < 0xDA000 ∧ oid % 0x40 = 4 then decide (v.toNat ≥ 192)
  else if 0xFA000 ≤ oid ∧ oid < 0xFA300 ∧ oid % 0x20 = 4 then
    -- R307: the preset of formats 1 and 3 gives a shared port OFFSET 0
    let p := (oid - 0xFA000) / 0x20
    decide (v = 0 ∧ s.obn (oidPortTxShare p) ≠ 0xFF ∧ fld (s.ob (oidPortFrame p)) 12 12 = 1)
  else match delayOwner oid with
    | some o => decide (o < 896) && decide (v ≠ 0 ∧ v ≠ 0x80000000)
        && s.ownerPresent o && !s.img.active.hasLine o
    | none => false

/-- Order 2 of R197 for one object: its status, and whether the refusal is on class or level ground. -/
def State.stageDenied (s : State) (acc : Access) (oid : Nat) : Option (Nat × Bool) :=
  match findObj oid with
  | none => if 0x100000 ≤ oid ∧ oid < 0x500000 then some (stDenied, false) else some (stUnimpl, false)
  | some (c, _, _) =>
    if !pcIn c.wr acc.pc || (c.expert && !acc.expert) then some (stDenied, true)
    else if c.law = 0 ∨ c.kind = .ro then some (stDenied, false)
    else match ctrlOf oid with
      | some k => if s.target k = 0 then some (stDenied, false) else none
      | none => none

/-- Order 3 of R197 for one entry. -/
def State.stageRange (s : State) (e : StageEntry) : Bool :=
  match classOf e.oid with
  | none => false
  | some c => encBad c e.value || s.stageBad e.oid e.value || decide (e.ramp.toNat > 10000 ∧ e.ramp ≠ 0xFFFF)

/-- The first entry of a list that a check refuses, with its index. -/
def firstBad {α β : Type} (f : α → Option β) : List α → Nat → Option (Nat × α × β)
  | [], _ => none
  | a :: r, i => match f a with | some b => some (i, a, b) | none => firstBad f r (i + 1)

/-- A refusal of a command: the status, the OID concerned, the entry, and whether it is on class or level ground. -/
structure Refused where
  status : Nat
  oid : Nat := 0xFFFFFFFF
  index : Nat := 0
  cls : Bool := false
  deriving DecidableEq, Repr

/-- The checks of WRITE_STAGE in the order of R197. -/
def State.stageCheck (s : State) (acc : Access) (excl : Bool) (expect : Option Word) (es : List StageEntry) : Option Refused :=
  if expect.getD (s.ob oidInstar) ≠ s.ob oidInstar then some { status := stStale }
  else match firstBad (fun (e : StageEntry) => s.stageDenied acc e.oid) es 0 with
    | some (i, e, st, cls) => some { status := st, oid := e.oid, index := i, cls := cls }
    | none => match firstBad (fun (e : StageEntry) => if s.stageRange e then some () else none) es 0 with
      | some (i, e, _) => some { status := stRange, oid := e.oid, index := i }
      | none => match firstBad (fun (e : StageEntry) =>
            if excl ∧ (s.pe e.oid).staged ∧ (s.pe e.oid).owner ≠ acc.session.val then some () else none) es 0 with
        | some (i, e, _) => some { status := stBusy, oid := e.oid, index := i }
        | none => none

/-- One object is staged; an earlier owner loses it (R197, R198). -/
def State.stageOne (s : State) (ses : Nat) (e : StageEntry) : State :=
  let p := s.pe e.oid
  let v := match classOf e.oid with | some c => encNorm c e.value | none => e.value
  let s := if p.staged ∧ p.owner ≠ ses then
      let q := s.ses p.owner
      (s.setSes p.owner { q with overwritten := q.overwritten + 1 }).moultFlag 4
    else s
  let r := if e.ramp = 0xFFFF then 0x3FFF else e.ramp.toNat
  s.setPe e.oid { p with sval := v, staged := true, owner := ses, nramp := r }

/-- WRITE_STAGE as a whole: every object is staged or none is (R197). -/
def State.stageAll (s : State) (acc : Access) (excl : Bool) (expect : Option Word) (es : List StageEntry) :
    Except Refused State :=
  match s.stageCheck acc excl expect es with
  | some r => .error r
  | none => .ok ((es.foldl (fun t e => t.stageOne acc.session e) s).mirror (.stage acc.session es))

/-- Clear STAGED of an entry. -/
def PsEntry.unstage (e : PsEntry) : PsEntry := { e with staged := false, owner := 0, sval := e.target, nramp := 0x3FFF }

/-- A latched commit whose moult boundary is to come has taken a published set. -/
def State.setLatched (s : State) (k : Nat) : Bool :=
  s.moult.commits.any (fun c => c.st ≠ 0 && !c.begun && c.bulk.contains (setKind k))

/-- Withdrawal of the staged objects and published sets of the sessions of `p` (R199, R242). -/
def State.withdraw (s : State) (p : Nat → Bool) : State :=
  let s := s.ps.foldl (fun t e => if e.2.staged && p e.2.owner then t.setPe e.1 (t.pe e.1).unstage else t) s
  s.dmem.sets.foldl (fun t e =>
    if e.2.st = 2 && p e.2.owner && !t.setLatched e.1
    then t.setBset e.1 { t.bset e.1 with st := 1, owner := 0, preparing := false } else t) s

/-! ### Commits (R201–R204) -/

/-- An enabled time action entry has a target (R361, R367). -/
def State.taEnabled (s : State) (target : Nat) : Option Nat :=
  (List.range 128).find? (fun e => bit (s.ob (oidTaCfg e)) 0 && fld (s.ob (oidTaCfg e)) 4 1 = target)
/-- The enabled entry of a target is disabled (R111, R361). -/
def State.disableTa (s : State) (target : Nat) : State :=
  match s.taEnabled target with
  | none => s
  | some e => (s.put (oidTaCfg e) (setBit (s.ob (oidTaCfg e)) 0 false)).putFld (oidTaStatus e) 1 0 0

/-- The ARMED commit. -/
def State.armed (s : State) : Option Commit := s.moult.commits.find? (fun c => c.st = 0)
/-- Replace the list of commits. -/
def State.setCommits (s : State) (l : List Commit) : State := { s with moult := { s.moult with commits := l } }

/-- COMMIT (R201, R426): its refusals in their order, or the commit ARMED with its instar (R202). -/
def State.commit (s : State) (ses mode scope : Nat) (ramp : Option Nat) (expect : Option Word) : Except Nat State :=
  if decide (mode > 2) || decide (scope > 1) || decide (ramp.getD 0 > 10000) then .error stRange
  else if expect.getD (s.ob oidInstar) ≠ s.ob oidInstar then .error stStale
  else if mode = 1 ∧ (s.taEnabled 7).isNone then .error stNotReady
  else if s.armed.isSome then .error stBusy
  else
    let i := s.moult.assigned + 1
    let c : Commit := { instar := i, mode := mode, all := decide (scope = 1), session := ses, ramp := ramp, lb := s.nextAct }
    .ok { s with moult := { s.moult with commits := s.moult.commits ++ [c], assigned := i } }

/-- The ARMED commit ends without a latch (R202, R361): reason 0 CANCEL, 1 SESSION_CLOSED, 2 MISSED. -/
def State.abortArmed (s : State) (reason : Nat) : State :=
  match s.armed with
  | none => s
  | some c =>
    let s := { s with moult := { s.moult with
      commits := s.moult.commits.filter (fun d => d.st ≠ 0), assigned := c.instar - 1 } }
    let s := s.mirror .abort
    let s := if c.mode = 1 then s.disableTa 7 else s
    s.raise 4 3 [(4, c.instar.toNat), (1, reason)]

/-- A write of MOULT_CTRL (R199, R225); a standby refuses its actions (R487). -/
def wrMoultCtrl (acc : Access) (v : Word) (s : State) : Wr :=
  if fld v 2 0 ≠ 0 ∧ fld v 2 0 < 4 ∧ s.isStandby then .error stNotReady
  else match fld v 2 0 with
  | 0 => .ok s
  | 1 => .ok ((s.withdraw (fun o => o = acc.session.val)).mirror (.withdraw (some acc.session)))
  | 2 => if acc.pc.val ≤ 1 then .ok ((s.withdraw (fun _ => true)).mirror (.withdraw none)) else .error stDenied
  | 3 => match s.armed with
    | none => .error stNotReady
    | some c => if c.session ≠ acc.session.val then .error stDenied else .ok (s.abortArmed 0)
  | _ => .error stRange

/-- WITHDRAW (R199, R225). -/
def execWithdraw (acc : Access) (s : State) : Out := .next (s.writeCmd acc oidMoultCtrl 1 (fun _ u => wrMoultCtrl acc 1 u))
/-- WITHDRAW_ALL (R199, R225). -/
def execWithdrawAll (acc : Access) (s : State) : Out := .next (s.writeCmd acc oidMoultCtrl 2 (fun _ u => wrMoultCtrl acc 2 u))
/-- MOULT_CANCEL (R202, R225). -/
def execMoultCancel (acc : Access) (s : State) : Out := .next (s.writeCmd acc oidMoultCtrl 3 (fun _ u => wrMoultCtrl acc 3 u))

/-- SCENE_GO_EDGE: an edge of the pin whose new level was held `held` µs. Qualified, it lets the ARMED ON_PIN commit latch
at the next boundary, or sets PIN_IGNORED (R204, R226). A standby's pin latches nothing (R208). -/
def execSceneGoEdge (rising : Bool) (held : Nat) (s : State) : Out :=
  let c := s.ob oidSceneGoCfg
  let edge := fld c 15 14 = 2 || (fld c 15 14 = 1) == rising
  .next (
    if bit c 16 && edge && decide (held ≥ fld c 13 0) then
      match s.armed with
      | some a =>
        if a.mode = 2 then
          if s.isStandby then s
          else s.setCommits (s.moult.commits.map (fun d => if d.st = 0 then { d with ready := true, lb := s.nextAct } else d))
        else s.moultFlag 3
      | none => s.moultFlag 3
    else s)

/-! ### The fold (R205, R209) -/

/-- N of an object at its fold (R209). -/
def State.foldLen (s : State) (oid nramp : Nat) (ramp : Option Nat) : Nat :=
  let law := lawOf oid
  if lawRamps law ∨ law = 8 then
    let ms := if nramp ≠ 0x3FFF then nramp else ramp.getD (match classOf oid with | some c => c.ramp | none => 0)
    s.rampSamples ms
  else 0

/-- The fold of one object for moult boundary `m` (R205). -/
def State.foldOne (s : State) (oid : Nat) (m instar : Word) (ramp : Option Nat) : State :=
  let e := s.pe oid
  let start := if lawRamps (lawOf oid) then s.psF32 oid (m - 1) else s.psWordAt oid (m - 1)
  s.setPe oid { start := start, target := e.sval, mb := m, n := s.foldLen oid e.nramp ramp, inst := instar, sval := e.sval }

/-- A ROUTE object whose change is a fade of a switch position (R160, R161, R165, R166). -/
def isSwitch (oid : Nat) : Bool :=
  (decide (0x20000 ≤ oid) && decide (oid < 0x40000)) || (decide (0x60000 ≤ oid) && decide (oid < 0x80000)) ||
  (decide (0xC0000 ≤ oid) && decide (oid < 0xD0000) && (oid % 0x80 = 0x12 || oid % 0x80 = 0x13)) ||
  (decide (0xD0000 ≤ oid) && decide (oid < 0xD8000) && (oid % 0x80 = 0xC || oid % 0x80 = 0xD || oid % 0x80 = 0xF)) ||
  (decide (0xD8000 ≤ oid) && decide (oid < 0xDA000) && oid % 0x40 = 3)

/-- The object is a DIRECT_TAP. -/
def isTap (oid : Nat) : Bool := decide (0xC0000 ≤ oid) && decide (oid < 0xD0000) && oid % 0x80 = 0x13

/-- A tap fade to `x` from grain `m` (R161). `old` is the tap in force at rest. -/
def State.tapTo (s : State) (oid old x : Nat) (m : Word) : State :=
  let w := s.sw oid
  let len := s.swLen oid m
  if !w.run then
    if x = old then s
    else s.setSw oid { run := true, p0 := 0, tgt := f32One, mb := m, len := len, fromTap := old, toTap := x }
  else
    let p := s.swPos oid (m - 1)
    if w.waiting.isSome then s.setSw oid { w with waiting := some x }
    else if x = w.fromTap then
      (if w.tgt = 0 then s else s.setSw oid { w with p0 := p, tgt := 0, mb := m, len := len })
    else if x = w.toTap then
      (if w.tgt = f32One then s else s.setSw oid { w with p0 := p, tgt := f32One, mb := m, len := len })
    else s.setSw oid { w with waiting := some x }

/-- A folded switch starts its fade at `m` from the position reached (R161); a value that does not change moves
nothing. -/
def State.armSwitch (s : State) (oid : Nat) (m : Word) : State :=
  let old := s.psWordAt oid (m - 1)
  let new := s.target oid
  if isTap oid then s.tapTo oid old.toNat new.toNat m
  else if old = new then s
  else
    s.setSw oid { run := true, p0 := s.swPos oid (m - 1), tgt := if new = 0 then 0 else f32One, mb := m, len := s.swLen oid m }

/-- The fade of a switch has reached its end in grain `n`: the switch rests, and a waiting tap change starts at the next
boundary (R161). -/
def State.restSwitch (s : State) (oid : Nat) (n : Word) : State :=
  let w := s.sw oid
  if w.run ∧ !isBefore n w.mb ∧ (rampFrac s.gsize w.len (n - w.mb).toNat).isNone then
    match w.waiting with
    | none => s.setSw oid {}
    | some x => (s.setSw oid {}).tapTo oid (if w.tgt = 0 then w.fromTap else w.toTap) x (n + 1)
  else s
/-- Every switch that has reached its end rests. -/
def State.restSwitches (s : State) (n : Word) : State := s.mix.switches.foldl (fun t e => t.restSwitch e.1 n) s

/-- The staged set of a commit (R203). -/
def State.stagedSet (s : State) (c : Commit) : List Nat :=
  (s.ps.filter (fun e => e.2.staged && (c.all || e.2.owner = c.session))).map (·.1)
/-- The published sets that join a commit (R242). -/
def State.publishedSet (s : State) (c : Commit) : List (Nat × Nat) :=
  (s.dmem.sets.filter (fun e => e.2.st = 2 && !e.2.preparing && (c.all || e.2.owner = c.session) && !s.setLatched e.1)).map
    (fun e => setKind e.1)

/-- A commit latches for moult boundary `m` (R202, R203, R205): its set, without the objects of `excl`, is fixed and folded,
its switches are armed. -/
def State.latch (s : State) (c : Commit) (m : Word) (excl : List Nat) : State :=
  let set := (s.stagedSet c).filter (fun o => !excl.contains o)
  let bulk := s.publishedSet c
  let s := set.foldl (fun t o => t.foldOne o m c.instar c.ramp) s
  let s := set.foldl (fun t o => if isSwitch o then t.armSwitch o m else t) s
  let d := { c with st := 1, m := m, set := set, bulk := bulk, ready := false }
  let s := s.setCommits (s.moult.commits.map (fun x => if x.instar = c.instar then d else x))
  s.raise 4 0 [(4, c.instar.toNat), (4, m.toNat), (4, set.length + bulk.length)]

/-- FOLD_COMPLETE: the oldest fold sweep is complete (R202, R206). -/
def execFoldComplete (s : State) : Out :=
  .next (match s.moult.commits.find? (fun c => c.st = 1) with
    | none => s
    | some c => s.setCommits (s.moult.commits.map (fun x => if x.instar = c.instar then { x with st := 2 } else x)))

/-! ### Effects at a moult boundary -/

/-- Every expert scalar of a CTRL_SOURCE takes the derived value in force as START and TARGET (R200). -/
def State.takeDerived (s : State) (oid : Nat) : State :=
  let v := s.derived oid s.gn
  s.setPe oid { s.pe oid with start := if lawRamps (lawOf oid) then numF32 (typeOf oid) v else v, target := v, sval := if (s.pe oid).staged then (s.pe oid).sval else v, n := 0 }

/-- CTRL_SOURCE becomes EXPERT (R200, R220, R240): the expert objects of the function take the derived values. -/
def State.expertFrom (s : State) (oid : Nat) : State :=
  if 0xC0000 ≤ oid ∧ oid < 0xD0000 ∧ oid % 0x80 = 0x17 then
    forUpTo 5 (fun k t => t.takeDerived (oid + 1 + k)) s
  else if 0xD0000 ≤ oid ∧ oid < 0xD8000 ∧ oid % 0x80 = 0x13 then
    forUpTo 3 (fun k t => t.takeDerived (oid + 1 + k)) s
  else if 0xD0000 ≤ oid ∧ oid < 0xD8000 ∧ oid % 0x80 = 0x12 then
    let b := (oid - 0xD0000) / 0x80
    forUpTo 512 (fun i t => (t.takeDerived (oidXpCoefPre (256 * i + b))).takeDerived (oidXpCoefPost (256 * i + b))) s
  else match sectionOf oid with
    | some n =>
      let ws := (s.secDerived n s.gn).words
      let s := s.areaWritten 0x4000000 0x6000000
      { s with dmem := { s.dmem with
          cur := mapSetFrom (fun _ => 0) s.dmem.cur (0x140000 + 8 * n) ws
          edit := if (s.bset n).st = 0 then mapSetFrom (fun _ => 0) s.dmem.edit (0x140000 + 8 * n) ws else s.dmem.edit } }
    | none => s

/-- The OID is the SEC_CTRL_SOURCE of a section, or another CTRL_SOURCE of the mixing chapters. -/
def isCtrlSource (oid : Nat) : Bool :=
  (decide (0xC0000 ≤ oid) && decide (oid < 0xD0000) && oid % 0x80 = 0x17) ||
  (decide (0xD0000 ≤ oid) && decide (oid < 0xD8000) && (oid % 0x80 = 0x12 || oid % 0x80 = 0x13)) ||
  ((sectionOf oid).isSome && oid % 8 = 4)

/-- What one object of a commit's set does at its moult boundary, beyond its value (R177, R184, R200, R238, R247). -/
def State.moultEffect (s : State) (oid : Nat) : State :=
  let m := s.gn + 1
  let old := s.psWordAt oid s.gn
  let new := s.target oid
  if 0xE0000 ≤ oid ∧ oid < 0xE3000 then s.commitRoute (oid - 0xE0000) new.toNat
  else if 0xDC000 ≤ oid ∧ oid < 0xDF000 then (if old = s.psWordAt oid m then s else s.silCommit oid)
  else if 0xD8000 ≤ oid ∧ oid < 0xDA000 ∧ oid % 0x40 = 4 then
    (if old = new then s else s.commitFir ((oid - 0xD8000) / 0x40) new.toNat)
  else if isCtrlSource oid then (if old = 0 ∧ new ≠ 0 then s.expertFrom oid else s)
  else match delayOwner oid with
    | some o => if old = new then s else s.commitDelay o
    | none => s

/-- Every object of a latched commit has reached its TARGET in grain `n`, or has been refolded (R202). -/
def State.settled (s : State) (c : Commit) (n : Word) : Bool :=
  c.set.all (fun o => (s.pe o).inst ≠ c.instar || !s.psRamping o n)

/-- An entry that has settled holds its TARGET alone; a section keeps its START while its blend runs. -/
def State.rest (s : State) (oid : Nat) : State :=
  let e := s.pe oid
  let blend := lawOf oid = 8 && (secPhase e.start.toNat e.target.toNat e.n s.gsize (s.gn - e.mb).toNat).isSome
  if blend then s
  else s.setPe oid { e with start := if lawRamps (lawOf oid) then numF32 (typeOf oid) e.target else e.target, mb := 0, n := 0 }

/-- MOULT_SETTLE: at the boundary that ends a grain in which the commit has settled it is DONE (R202). -/
def execMoultSettle (s : State) : Out :=
  .next (match s.moult.commits.find? (fun c => c.st = 2 && c.begun && s.settled c s.gn) with
    | none => s
    | some c =>
      let s := s.setCommits (s.moult.commits.filter (fun x => x.instar ≠ c.instar))
      let s := c.set.foldl (fun t o => if (t.pe o).inst = c.instar then t.rest o else t) s
      s.raise 4 2 [(4, c.instar.toNat)])

/-! ### Counts that objects read (R224) -/

/-- MOULT_ARMED as it reads. -/
def State.readArmed (s : State) : Word :=
  match s.armed with
  | none => 0
  | some c => wd (1 + 2 * c.mode + (if c.all then 8 else 0) + 16 * (c.session % 64))
/-- STAGED_CNT, or that of the sessions of `p`. -/
def State.stagedCnt (s : State) (p : Nat → Bool) : Nat := (s.ps.filter (fun e => e.2.staged && p e.2.owner)).length
/-- RAMPING_CNT as it reads. -/
def State.rampingCnt (s : State) : Nat := (s.ps.filter (fun e => s.psRamping e.1 s.gn)).length
/-- FOLDING_CNT as it reads. -/
def State.foldingCnt (s : State) : Nat := (s.moult.commits.filter (fun c => c.st = 1)).length

end Sys2Proof.Machine
end

