-- ==== Sys2Proof/Machine/JnlCommit.lean ====
section
/-!
DEFINITION. What a commit hands to the journal at its latch (R207, R564–R566).
-/

namespace Sys2Proof.Machine

/-- Five consecutive words as one DATA record. -/
def dataRecs (oid : Nat) : Nat → List Word → List JRec
  | 0, _ => []
  | f + 1, ws =>
    if ws.all (· = 0) then []
    else { seq := 0, oid := oid, kind := 4, data := ws.take 5 } :: dataRecs (oid + 5) f (ws.drop 5)

/-- The records of a published set: its EDIT words, which become CURRENT, and the SET record (R564). -/
def State.setRecs (s : State) (session : Nat) (k : Nat) : List JRec :=
  let (lo, n) := setRange k
  let len := if (setKind k).1 = 1 then (s.bset k).lenEdit else n
  let ws := mapRead (fun _ => 0) s.dmem.edit lo len
  let ds := (dataRecs lo len ws).map (fun r => { r with session := session })
  let v := if (setKind k).1 = 1 then len else 5 * ds.length
  ds ++ [{ seq := 0, oid := lo, kind := 5, value := wd v, session := session }]

/-- The records of a commit, or a barrier where they do not fit the queue: a compaction then follows (R566). -/
def State.jnlCommit (s : State) (c : Commit) (excl : List Nat) : State :=
  if s.jst = jsOff ∨ s.jst = jsCleared then s
  else
    let set := (s.stagedSet c).filter (fun o => !excl.contains o && persists o)
    let sets := (s.publishedSet c).map (fun e => setKey e.1 e.2)
    let staged := set.map (fun o => ({ seq := 0, oid := o, kind := 3, value := (s.pe o).sval, session := (s.pe o).owner } : JRec))
    let bulk := sets.flatMap (fun k => s.setRecs (s.bset k).owner k)
    let last : JRec := { seq := 0, kind := 6, session := c.session, count := wd (set.length + sets.length) }
    let recs := (staged ++ bulk ++ [last]).map (fun r => { r with instar := c.instar })
    if recs.length > jnlCap - s.jnlQueued then
      let s := s.setJnl { s.jnl with want := true }
      s.jnlPush [{ last with instar := c.instar, count := 0xFFFFFFFF }]
    else s.jnlPush recs

end Sys2Proof.Machine
end

