-- ==== Sys2Proof/Machine/BusMap.lean ====
section
/-!
DEFINITION. The address space of the bus matrix (R446), the pairs of masters and targets (R36), aborted bursts (R471).
-/

namespace Sys2Proof.Machine

/-- The target of a bus address; `none` for an unmapped one (R446). -/
def busTarget (a : Nat) : Option Nat :=
  if a < 0x04000000 then some 0
  else if a < 0x08000000 then some 1
  else if 0x10000000 ≤ a ∧ a < 0x10000000 + 0x100000 * 36 then (if a % 0x100000 < 0xA0000 then some 3 else none)
  else if 0x20000000 ≤ a ∧ a < 0x20400000 then some 4
  else if 0x30000000 ≤ a ∧ a < 0x30040000 then some 5
  else if 0x40000000 ≤ a ∧ a < 0x41000000 then some 6
  else if 0x50000000 ≤ a ∧ a < 0x50400000 then some 7
  else if 0x80000000 ≤ a ∧ a < 0x100000000 then some 2
  else none

/-- The targets that R36 connects to a master, as a mask. -/
def busTargets (m : Nat) : Nat := nth 0 [0x30, 0xFD, 0x50, 0x50, 0x50, 0x90, 0x0E, 0x12, 0x8E, 0xFF] m
/-- R36 connects a pair. -/
def busPair (m t : Nat) : Bool := decide (busTargets m / 2 ^ t % 2 = 1)

/-- A master is reset: its locks are released, and a burst in the middle of which it was is logged with the address of the
first beat not completed (R471). -/
def State.masterAbort (s : State) (m : Nat) (bus : Option (Word × Bool)) : State :=
  let s := { s with host := { s.host with locks := s.host.locks.filter (fun e => e.2 ≠ m + 1) } }
  match bus with
  | none => s
  | some (a, w) => s.busError m ((busTarget a.toNat).getD 0xF) 5 w a

end Sys2Proof.Machine
end

