-- ==== Sys2Proof/Machine/Fade.lean ====
section
/-!
DEFINITION. The fades of converters and ports: to zero over 32 samples with weights (31 − k)/32, in over L samples with the
equal-gain weights of R177 (R172, R262, R268, R296, R298, R301).
-/

namespace Sys2Proof.Machine

/-- The equal-gain weight (k + 1)/L of sample `k`, Q2.30 (R177). -/
def gainWeight (k l : Nat) : Int := rneDiv ((k + 1) * 2 ^ 30 : Nat) l
/-- A sample under a weight in Q2.30, rounded RNE. -/
def scaleWord (w : Int) (v : Word) : Word := wdI (rneShift (v.toInt * w) 30)
/-- The weight of a fade, Q2.30. -/
def Fade.weight (f : Fade) : Int :=
  if f.dir = 1 then (31 - f.k : Nat) * 2 ^ 25 else if f.dir = 2 then 0
  else if f.dir = 3 ∧ f.len ≠ 0 then gainWeight f.k f.len else 2 ^ 30
/-- A sample under a fade. -/
def Fade.apply (f : Fade) (v : Word) : Word := scaleWord f.weight v
/-- One sample passes. -/
def Fade.step (f : Fade) : Fade :=
  if f.dir = 1 then (if f.k ≥ 31 then { dir := 2 } else { f with k := f.k + 1 })
  else if f.dir = 3 then (if f.k + 1 ≥ f.len then {} else { f with k := f.k + 1 })
  else f
/-- A fade to zero begins; a signal at zero stays there. -/
def Fade.out (f : Fade) : Fade := if f.dir = 1 ∨ f.dir = 2 then f else { dir := 1 }
/-- A fade in over `len` samples begins. -/
def Fade.inOver (len : Nat) : Fade := { dir := 3, len := len }

end Sys2Proof.Machine
end

