-- ==== Sys2Proof/Machine/ImageCheck.lean ====
section
/-!
DEFINITION. The checks of VERIFY on a schedule image (R130, R131), the encoding rules of PM words they apply (R84–R108)
and the issue walk. A check answers the first refusal it meets: code, tile (0xFF for none), location.
-/

namespace Sys2Proof.Machine

/-- A refusal: code, tile, location (R130). -/
abbrev ImgErr := Nat × Nat × Nat
/-- A PM address as a location. -/
def pmLoc (a : Nat) : Nat := 0x80000000 + a
/-- The first refusal of a list of checks. -/
def firstErr : List (Option ImgErr) → Option ImgErr
  | [] => none
  | none :: r => firstErr r
  | some e :: _ => some e
/-- The first refusal over a list of things. -/
def errOver {α : Type} (l : List α) (f : α → Option ImgErr) : Option ImgErr := l.findSome? f
/-- A refusal when the condition holds. -/
def errIf (b : Bool) (e : ImgErr) : Option ImgErr := if b then some e else none

/-! ### PM words (R84–R104) -/

/-- Field [hi:lo] of a PM word. -/
def pmf (w : PmWord) (hi lo : Nat) : Nat := (w.toNat >>> lo) % 2 ^ (hi + 1 - lo)

/-- The fields of an AGU update that are not empty: AGU number, set, UOP (R86–R89, R103). -/
def pmAgus (w : PmWord) : List (Nat × Nat × Nat) :=
  let at' (los : List Nat) : List (Nat × Nat × Nat) := los.mapIdx (fun i lo => (i, pmf w (lo + 8) (lo + 5), pmf w (lo + 4) lo))
  (at' (match pmf w 127 126 with
    | 0 => [11, 2]
    | 1 => [10, 1]
    | 2 => [42, 33, 24, 15]
    | _ => [9, 0])).filter (fun a => a.2.2 ≠ 0 || a.2.1 ≠ 0)

/-- The MAC slot breaks its encoding (R90, R92, R93). -/
def macBad (w : PmWord) : Bool :=
  let mx := pmf w 119 115
  let my := pmf w 114 110
  let fx := pmf w 109 108
  let fy := pmf w 107 106
  match pmf w 125 122 with
  | 0 => pmf w 121 102 ≠ 0
  | 1 => false
  | 2 => false
  | 3 => false
  | 4 => my ≠ 0 || fy ≠ 0
  | 5 => mx ≠ 0 || my ≠ 0 || fx ≠ 0 || fy ≠ 0
  | 6 => mx ≠ 0 || fx ≠ 0 || fy ≥ 2 || (fy = 1 && my = 0)
  | 7 => mx ≥ 4 || my ≠ 0 || fx ≠ 0 || fy ≠ 0
  | _ => true

/-- The accumulator store breaks its encoding (R47, R90, R94). -/
def storeBad (w : PmWord) : Bool :=
  match pmf w 101 100 with
  | 0 => pmf w 99 84 ≠ 0
  | 3 => true
  | _ => pmf w 90 89 = 3

/-- A memory slot breaks its encoding (R90, R102). -/
def memBad (w : PmWord) : Bool :=
  (match pmf w 83 82 with
    | 0 => pmf w 81 66 ≠ 0
    | 1 => pmf w 72 70 ≠ 0
    | 2 => false
    | _ => true) || (pmf w 65 64 = 0 && pmf w 63 51 ≠ 0)

/-- The ALU slot breaks its encoding (R90, R96–R101). -/
def aluBad (w : PmWord) : Bool :=
  let d := pmf w 44 40
  let a := pmf w 39 35
  let b := pmf w 34 30
  let c := pmf w 29 27
  let kt := pmf w 26 24
  let op := pmf w 50 45
  if op = 0 then pmf w 44 20 ≠ 0
  else if op = 1 ∨ op = 6 ∨ op = 7 ∨ op = 0xD ∨ op = 0x15 then b ≠ 0 || c ≠ 0 || kt ≠ 0
  else if op ≤ 0xC then c ≠ 0 || kt ≠ 0
  else if op ≤ 0xF then false
  else if op ≤ 0x14 then c ≠ 0 || kt ≠ 0 || (op = 0x14 && b = 0)
  else if op = 0x16 then a ≠ 0 || b ≠ 0 || c ≠ 0 || kt ≠ 0 || pmf w 23 20 ≠ 0
  else if op ≤ 0x1C then c ≠ 0 || kt ≠ 0
  else if op = 0x20 then d ≠ 0 || c ≥ 6
  else if op = 0x21 then c ≥ 6
  else if 0x28 ≤ op ∧ op ≤ 0x2A then d ≠ 0 || a ≥ 8 || b ≥ 8 || c ≠ 0
  else if op = 0x2B then d ≠ 0 || a ≥ 8 || b ≠ 0 || c ≠ 0
  else if op = 0x2C then d ≠ 0 || a ≠ 0 || b ≠ 0 || c ≥ 2
  else if op = 0x2D then d ≠ 0 || c ≠ 0
  else true

/-- The low region of a word breaks its encoding (R86–R90, R103, R104). -/
def lowBad (w : PmWord) : Bool :=
  let off (en hi lo : Nat) : Bool := pmf w en en = 0 && pmf w hi lo ≠ 0
  (pmAgus w).any (fun a => a.2.2 = 0 || (3 ≤ a.2.2 && a.2.2 ≤ 0xF)) ||
  match pmf w 127 126 with
  | 0 => aluBad w || pmf w 1 0 ≠ 0
  | 1 => off 50 49 45 || off 44 43 39 || off 38 37 29 || off 28 27 19 || pmf w 0 0 ≠ 0
  | 2 => off 14 13 9 || off 8 7 3 || pmf w 2 0 ≠ 0
  | _ => pmf w 50 49 ≥ 2 || (pmf w 50 49 = 0 && pmf w 48 18 ≠ 0)

/-- A PM word breaks an encoding rule (R131 code 0x06). -/
def pmBad (w : PmWord) : Bool := macBad w || storeBad w || memBad w || lowBad w

/-- The data registers that a word writes, with the number of ecyc after which a word sees the result (R73). -/
def pmResults (w : PmWord) : List (Nat × Nat) :=
  let op := pmf w 50 45
  let alu := if pmf w 127 126 = 0 ∧ op ≠ 0 ∧ op < 0x20 then [(if op ≤ 0xF then 1 else 2, pmf w 44 40)]
    else if pmf w 127 126 = 0 ∧ op = 0x21 then [(1, pmf w 44 40)] else []
  let st := if pmf w 101 100 ≠ 0 then [(2, pmf w 97 93)] else []
  let m1 := if pmf w 65 64 = 1 then [(3, pmf w 59 55)] else []
  let m0 := if pmf w 83 82 ≠ 0 then [(3, pmf w 77 73)] else []
  let r1 := if pmf w 127 126 = 1 ∧ pmf w 28 28 = 1 then [(1, pmf w 27 23)] else []
  let r0 := if pmf w 127 126 = 1 ∧ pmf w 38 38 = 1 then [(1, pmf w 37 33)] else []
  alu ++ st ++ m1 ++ m0 ++ r1 ++ r0

/-- The largest number of ecyc after which a result of a word is seen (R41, R73). -/
def pmSpan (w : PmWord) : Nat :=
  let l := (pmResults w).map (·.1) ++ (if pmf w 125 122 ≠ 0 then [4] else []) ++
    (if pmf w 101 100 ≠ 0 ∧ pmf w 88 88 = 1 then [3] else []) ++ (if pmf w 65 64 = 3 then [3] else []) ++
    (if pmf w 127 126 = 0 ∧ pmf w 50 45 ≥ 0x20 then [2] else [])
  l.foldl max 1

/-- The sends of a word: the channels enabled (R87, R88). -/
def pmSends (w : PmWord) : List Nat :=
  let f := pmf w 127 126
  let b0 := if f = 1 then pmf w 50 50 else if f = 2 then pmf w 14 14 else 0
  let b1 := if f = 1 then pmf w 44 44 else if f = 2 then pmf w 8 8 else 0
  (if b0 = 1 then [0] else []) ++ (if b1 = 1 then [1] else [])
/-- The receive channels for which a word names a register (R87, R104). -/
def pmRecvs (w : PmWord) : List Nat :=
  if pmf w 127 126 = 1 then (if pmf w 38 38 = 1 then [0] else []) ++ (if pmf w 28 28 = 1 then [1] else []) else []
/-- The memory accesses of a word: set, whether it writes, whether in slot 1 (R102). -/
def pmMem (w : PmWord) : List (Nat × Bool × Bool) :=
  (if pmf w 83 82 ≠ 0 then [(pmf w 81 78, false, false)] else []) ++
  (if pmf w 65 64 ≠ 0 then [(pmf w 63 60, decide (pmf w 65 64 ≥ 2), true)] else [])

/-! ### The issue walk (R130) -/

/-- What the walk notes of one issued word: its cycle, its PM address, its accesses as set, address before the wrap,
write, slot 1. -/
structure WalkItem where
  cyc : Nat
  pm : Nat
  acc : List (Nat × Nat × Bool × Bool)
  deriving DecidableEq, Repr

/-- The walk of one tile: the items so far, newest first, the first malformed loop, the first word that lands late, the
first conflict, the LOOP words of the levels, results still to land. -/
structure Walk where
  tile : Tile
  items : List WalkItem := []
  badLoop : Option Nat := none
  late : Option Nat := none
  conflict : Option Nat := none
  loopAt : List Nat := [0, 0, 0, 0]
  pend : List (Nat × Nat) := []
  deriving DecidableEq, Repr

/-- The increment that a UOP selects (R103). -/
def uopStep (k : AddrSet) (u : Nat) : Int :=
  if u = 1 then k.step else if u = 2 then -k.step else (BitVec.ofNat 4 u).toInt

/-- One issued word of the walk; `stop` is C_s × G. -/
def Walk.step (k : Walk) (img : ImgBuf) (work stop : Nat) : Walk :=
  let t := k.tile
  let w := img.pmWord work t.ip
  let acc := (pmMem w).map (fun m => (m.1, (t.as' m.1).base + (t.as' m.1).ptr, m.2.1, m.2.2))
  let lands := (pmResults w).map (fun r => (t.cyc + r.1, r.2))
  let pend := k.pend.filter (fun p => p.1 > t.cyc)
  let clash := lands.any pend.contains || !lands.Nodup
  let agus := pmAgus w
  let sets := agus.map (·.2.1)
  let dup := !sets.Nodup
  let isLoop := pmf w 127 126 = 3 && pmf w 50 49 = 1
  let lvl := pmf w 48 47
  let last := pmf w 30 18
  let cnt := pmf w 46 31
  let malformed := isLoop && (decide (cnt = 0 ∨ last ≤ t.ip ∨ img.progLen work ≤ last) ||
    !((List.range 4).all (fun j => j < lvl || (t.loop j).left = 0) &&
      (lvl = 0 || ((t.loop (lvl - 1)).left ≠ 0 && (t.loop (lvl - 1)).first ≤ t.ip && t.ip ≤ (t.loop (lvl - 1)).last &&
        last ≤ (t.loop (lvl - 1)).last))))
  let u := if isLoop && !malformed then t.setLoop lvl ⟨t.ip + 1, last, cnt⟩ else t
  let u := agus.foldl (fun (v : Tile) a =>
    v.setAs a.2.1 { t.as' a.2.1 with ptr := (t.as' a.2.1).advance (uopStep (t.as' a.2.1) a.2.2) }) u
  let u := u.nextIp 4
  { tile := { u with cyc := t.cyc + 1 }
    items := ⟨t.cyc, t.ip, acc⟩ :: k.items
    badLoop := k.badLoop.orElse (fun _ => if malformed then some t.ip else none)
    late := k.late.orElse (fun _ => if t.cyc + pmSpan w > stop then some t.ip else none)
    conflict := k.conflict.orElse (fun _ => if clash || dup then some t.ip else none)
    loopAt := if isLoop && !malformed then setNth k.loopAt lvl t.ip else k.loopAt
    pend := lands ++ pend }

/-- The walk over at most `n` words; beyond the program every word is empty. -/
def Walk.run (img : ImgBuf) (work stop : Nat) : Nat → Walk → Walk
  | 0, k => k
  | n + 1, k => if img.progLen work ≤ k.tile.ip then k else Walk.run img work stop n (k.step img work stop)

/-- The walk of a working tile over one grain. -/
def ImgBuf.walk (img : ImgBuf) (work : Nat) : Walk :=
  let t := forUpTo 16 (fun k (v : Tile) => v.setAs k (img.initSet work k)) { ip := img.entry work }
  Walk.run img work (img.cs * img.g) (img.cs * img.g - 96) { tile := t }

/-- The items of a walk in the order of issue. -/
def Walk.issued (k : Walk) : List WalkItem := k.items.reverse

/-! ### Header and directory (codes 0x01–0x05) -/

/-- The working tiles, ascending. -/
def ImgBuf.tiles (b : ImgBuf) : List Nat := (List.range 36).filter b.works
/-- The byte offset of a section, or DIR_OFFSET where it is absent. -/
def ImgBuf.secOff (b : ImgBuf) (ty tile : Nat) : Nat := match b.sec ty tile with | some s => s.off | none => b.dirOff

/-- Codes 0x01 to 0x04 (R114, R117). -/
def ImgBuf.headerErr (b : ImgBuf) : Option ImgErr := firstErr [
  errIf (b.u 0 4 ≠ 0x4D494853) (1, 0xFF, 0),
  errIf (b.u 4 2 ≠ 1) (1, 0xFF, 4),
  errIf (b.u 6 2 ≠ 64) (1, 0xFF, 6),
  errIf (b.size % 16 ≠ 0 || decide (b.size < 96) || decide (b.size > 0x1000000) || decide (b.size > b.recv)) (2, 0xFF, 8),
  errIf (sha256 (b.slice 0 (b.size - 32)) ≠ b.slice (b.size - 32) 32) (3, 0xFF, b.size - 32),
  errIf (b.cs ≠ 9216 && b.cs ≠ 4608 && b.cs ≠ 2304) (4, 0xFF, 12),
  errIf (!([1, 2, 4, 8, 16].contains b.g)) (4, 0xFF, 14),
  errIf (b.u 15 1 ≥ 2) (4, 0xFF, 15),
  errIf (b.workMask ≥ 2 ^ 36) (4, 0xFF, 24),
  errOver (List.range 4) (fun q =>
    errIf (b.spareOf q ≠ 0xFF && (decide (b.spareOf q ≥ 36) || quadOf (b.spareOf q) ≠ q)) (4, 0xFF, 32)),
  errIf ((List.range 4).any (fun q => b.spareOf q ≠ 0xFF && b.works (b.spareOf q))) (4, 0xFF, 24),
  errIf (decide (b.tics = 0) || decide (b.tics > 4096)) (4, 0xFF, 46),
  errIf (decide (b.tocs = 0) || decide (b.tocs > 4096)) (4, 0xFF, 48),
  errIf (b.u 50 14 ≠ 0) (4, 0xFF, 50)]

/-- A section type is per tile (R116). -/
def perTile (ty : Nat) : Bool := decide (1 ≤ ty ∧ ty ≤ 7)
/-- A section type exists (R116). -/
def secKnown (ty : Nat) : Bool := perTile ty || decide (0x10 ≤ ty ∧ ty ≤ 0x16)

/-- The size of the runs of DM_INIT, each with its header (R115, R116). -/
def ImgBuf.runsSize (b : ImgBuf) : Nat → Nat → Nat
  | 0, _ => 0
  | n + 1, o => let z := 4 + 32 * b.u (o + 2) 2; z + b.runsSize n (o + z)
/-- The size of the records of GATING, each with its padding (R115, R127). -/
def ImgBuf.gatesSize (b : ImgBuf) : Nat → Nat → Nat
  | 0, _ => 0
  | n + 1, o => let z := 4 + 4 * ((b.u (o + 2) 2 + 1) / 2); z + b.gatesSize n (o + z)

/-- LENGTH and COUNT of a section agree and COUNT lies in its range (R115, R116, R129). -/
def ImgBuf.lengthOk (b : ImgBuf) (s : Sec) : Bool :=
  match s.ty with
  | 2 => b.runsSize s.count s.off = s.len
  | 0x13 => b.gatesSize s.count s.off = s.len
  | 0x15 => decide (12 * s.count ≤ s.len) && (List.range s.count).all (fun i =>
      let n := b.u (s.off + 12 * i + 2) 2
      let o := b.u (s.off + 12 * i + 4) 4
      n = 0 || (decide (12 * s.count ≤ o) && decide (o + 2 * n ≤ s.len)))
  | ty => s.len = s.count * recSize ty && (ty ≠ 1 || (decide (1 ≤ s.count) && decide (s.count ≤ 8192))) && (ty ≠ 3 || s.count = 1)

/-- The reserved bytes of a record at `o` of a section of fixed record size are zero (R118–R129, R131). -/
def ImgBuf.recReserved (b : ImgBuf) (ty o : Nat) : Bool :=
  let z (off len : Nat) : Bool := b.u (o + off) len = 0
  match ty with
  | 3 => z 2 2 && z 148 12
  | 4 => z 6 2
  | 5 => z 7 1
  | 6 => z 7 1
  | 0x10 => decide (b.u (o + 3) 1 < 64) && z 10 2
  | 0x11 => z 11 5
  | 0x12 => decide (b.u (o + 6) 1 < 2) && z 7 1
  | 0x14 => z 6 2
  | 0x15 => z 8 4
  | _ => true

/-- The offset of the first GATING record with a reserved bit or padding byte set (R127). -/
def ImgBuf.gateReserved (b : ImgBuf) : Nat → Nat → Option Nat
  | 0, _ => none
  | n + 1, o =>
    let c := b.u (o + 2) 2
    if b.u (o + 1) 1 ≥ 2 ∨ b.u (o + 4 + 2 * c) (4 * ((c + 1) / 2) - 2 * c) ≠ 0 then some o
    else b.gateReserved n (o + 4 + 4 * ((c + 1) / 2))

/-- The first record of a section with a reserved byte or bit set. -/
def ImgBuf.secReserved (b : ImgBuf) (s : Sec) : Option Nat :=
  if s.ty = 0x13 then b.gateReserved s.count s.off
  else if recSize s.ty = 0 then none
  else ((List.range s.count).map (fun i => s.off + recSize s.ty * i)).find? (fun o => !b.recReserved s.ty o)

/-- Two byte ranges overlap. -/
def rangesMeet (a la b lb : Nat) : Bool := decide (0 < la) && decide (0 < lb) && decide (a < b + lb) && decide (b < a + la)

/-- Code 0x05 (R115, R116, R131). -/
def ImgBuf.dirErr (b : ImgBuf) : Option ImgErr :=
  let fin := b.size - 32
  let dlen := 16 * b.dirCount
  if b.dirOff % 16 ≠ 0 ∨ b.dirOff < 64 ∨ b.dirOff + dlen > fin then some (5, 0xFF, 40) else
  let es := b.secs.mapIdx (fun i s => (i, s))
  let loc (i : Nat) : Nat := b.dirOff + 16 * i
  let tile (s : Sec) : Nat := if perTile s.ty then s.tile else 0xFF
  let earlier (i : Nat) (s : Sec) : Bool := es.any (fun f => f.1 < i && f.2.ty = s.ty && f.2.tile = s.tile)
  firstErr [
    errOver es (fun e =>
      let s := e.2
      let bad := !secKnown s.ty || b.u (loc e.1 + 3) 1 ≠ 0 || s.off % 16 ≠ 0 || decide (s.off + s.len > fin) ||
        (if perTile s.ty then decide (s.tile ≥ 36) || !b.works s.tile else s.tile ≠ 0xFF) || earlier e.1 s ||
        !b.lengthOk s
      firstErr [errIf bad (5, tile s, loc e.1), (b.secReserved s).map (fun o => (5, tile s, o))]),
    errOver es (fun e =>
      errIf (rangesMeet e.2.off e.2.len 0 64 || rangesMeet e.2.off e.2.len b.dirOff dlen ||
        es.any (fun f => f.1 < e.1 && rangesMeet e.2.off e.2.len f.2.off f.2.len)) (5, tile e.2, loc e.1)),
    errOver b.tiles (fun t => errOver [1, 3, 4, 5, 6] (fun ty => errIf (b.sec ty t).isNone (5, t, b.dirOff)))]

/-! ### Codes 0x06–0x0C -/

/-- Code 0x06 (R90–R104). -/
def ImgBuf.encErr (b : ImgBuf) : Option ImgErr :=
  errOver b.tiles (fun t => errOver (List.range (b.progLen t)) (fun a => errIf (pmBad (b.pmWord t a)) (6, t, pmLoc a)))

/-- Code 0x07 (R41, R105–R107). -/
def ImgBuf.budgetErr (b : ImgBuf) (ws : List (Nat × Walk)) : Option ImgErr :=
  errOver ws (fun e =>
    let t := e.1
    let k := e.2
    firstErr [
      errIf (decide (b.progLen t ≤ b.entry t)) (7, t, b.secOff 3 t),
      k.badLoop.map (fun a => (7, t, pmLoc a)),
      k.late.map (fun a => (7, t, pmLoc a)),
      ((List.range 4).find? (fun v => (k.tile.loop v).left ≠ 0)).map (fun v => (7, t, pmLoc (nth 0 k.loopAt v)))])

/-- Code 0x08 (R64, R74). -/
def ImgBuf.conflictErr (ws : List (Nat × Walk)) : Option ImgErr :=
  errOver ws (fun e => e.2.conflict.map (fun a => (8, e.1, pmLoc a)))

/-- The region of a set that is not linear: first and last word (R131). -/
def AddrSet.region (k : AddrSet) : Option (Nat × Nat) :=
  match k.mode with
  | 1 => some (k.base, k.base + k.len - 1)
  | 2 => some (k.base, k.base + 2 ^ k.brw - 1)
  | _ => none

/-- Code 0x09 (R61, R63, R131). -/
def ImgBuf.addressErr (b : ImgBuf) (ws : List (Nat × Walk)) : Option ImgErr :=
  errOver ws (fun e =>
    let t := e.1
    let loc (k : Nat) : Nat := b.secOff 3 t + 20 + 8 * k
    firstErr [
      errOver (List.range 16) (fun k =>
        let a := b.initSet t k
        errIf (a.mode = 3 || a.len = 0 || decide (a.len > 16384) || (a.mode = 2 && (a.brw = 0 || a.brw = 15))) (9, t, loc k)),
      errOver e.2.issued (fun i => errOver i.acc (fun m =>
        match (b.initSet t m.1).region with
        | some (lo, hi) => firstErr [
            errIf (decide (hi > 16383)) (9, t, loc m.1),
            errIf (decide (m.2.1 < lo) || decide (hi < m.2.1)) (9, t, pmLoc i.pm)]
        | none => errIf (decide (m.2.1 > 16383)) (9, t, pmLoc i.pm))),
      errOver (List.range 16) (fun k =>
        errIf ((b.initSet t k).region.isNone && (e.2.tile.as' k).ptr ≠ (b.initSet t k).ptr) (9, t, loc k))])

/-- The channels that an exchange record carries. -/
def ExGroup.channels (e : ExGroup) : List Nat := ((List.range 8).filter (fun l => e.mask.getLsbD l)).map (e.ch + ·)

/-- Code 0x0A (R58, R118, R119). -/
def ImgBuf.exchangeErr (b : ImgBuf) : Option ImgErr :=
  let all := b.tiles.flatMap (fun t => (b.recs 4 t).mapIdx (fun i o => (t, i, o, nth ⟨false, 0, 0, 0⟩ (b.exchange t) i)))
  let before (t i : Nat) (f : Nat × Nat × Nat × ExGroup) : Bool := decide (f.1 < t ∨ (f.1 = t ∧ f.2.1 < i))
  errOver b.tiles (fun t => firstErr [
    errOver (all.filter (fun f => f.1 = t)) (fun r =>
      let e := r.2.2.2
      let lim := if e.out then b.tocs else b.tics
      let same := all.filter (fun f => before t r.2.1 f && f.2.2.2.out == e.out)
      let words := ((same.filter (fun f => f.1 = t)).length + 1) * b.g
      errIf (decide (b.u r.2.2.1 1 > 1) || decide (e.buf + b.g > 16384) || decide (words > 96) ||
        e.channels.any (fun c => decide (c ≥ lim) || same.any (fun f => f.2.2.2.channels.contains c))) (0xA, t, r.2.2.1)),
    errOver (List.range 8) (fun l =>
      errIf (b.k7Tic t l ≠ 0xFFFF && decide (b.k7Tic t l ≥ b.tics)) (0xA, t, b.secOff 3 t + 4 + 2 * l))])

/-- A TXB record: the receiving tile, its offset, cycle, receive channel, source tile and channel (R120). -/
structure TxbRec where
  tile : Nat
  off : Nat
  cyc : Nat
  rx : Nat
  src : Nat
  ch : Nat
  deriving DecidableEq, Repr
/-- The TXB records of a tile. -/
def ImgBuf.txbRecs (b : ImgBuf) (t : Nat) : List TxbRec :=
  (b.recs 5 t).map (fun o => ⟨t, o, b.u o 4, b.u (o + 4) 1, b.u (o + 5) 1, b.u (o + 6) 1⟩)
/-- The cycle of the send that a record takes (R71). -/
def TxbRec.sendCyc (r : TxbRec) : Nat := r.cyc - (if quadOf r.src = quadOf r.tile then 4 else 6)

/-- Records are sorted by CYCLE and RX_CH without repeats; the first that is not. -/
def txbUnsorted : List TxbRec → Option TxbRec
  | a :: b :: r => if a.cyc < b.cyc ∨ (a.cyc = b.cyc ∧ a.rx < b.rx) then txbUnsorted (b :: r) else some b
  | _ => none

/-- Code 0x0B (R71, R104, R120). -/
def ImgBuf.txbErr (b : ImgBuf) (ws : List (Nat × Walk)) : Option ImgErr :=
  let recs := b.tiles.flatMap b.txbRecs
  let word (t cyc : Nat) : Option PmWord :=
    (ws.find? (fun e => e.1 = t)).bind (fun e => (e.2.items.find? (fun i => i.cyc = cyc)).map (fun i => b.pmWord t i.pm))
  errOver ws (fun e =>
    let t := e.1
    firstErr [
      errOver e.2.issued (fun i => errOver (pmSends (b.pmWord t i.pm)) (fun ch =>
        errIf (!recs.any (fun r => r.src = t && r.ch = ch && r.cyc ≥ 6 && r.sendCyc = i.cyc)) (0xB, t, pmLoc i.pm))),
      errOver (b.txbRecs t) (fun r =>
        errIf (decide (r.rx > 1) || decide (r.ch > 1) || decide (r.src ≥ 36) || !b.works r.src ||
          !((word r.src r.sendCyc).map pmSends |>.getD []).contains r.ch ||
          !((word t r.cyc).map pmRecvs |>.getD []).contains r.rx) (0xB, t, r.off)),
      (txbUnsorted (b.txbRecs t)).map (fun r => (0xB, t, r.off)),
      errOver e.2.issued (fun i => errOver (pmRecvs (b.pmWord t i.pm)) (fun ch =>
        errIf (!(b.txbRecs t).any (fun r => r.cyc = i.cyc && r.rx = ch)) (0xB, t, pmLoc i.pm)))])

/-- Code 0x0C (R59, R108, R121, R136). -/
def ImgBuf.windowErr (b : ImgBuf) (ws : List (Nat × Walk)) : Option ImgErr :=
  errOver ws (fun e =>
    let t := e.1
    let wins := (b.recs 6 t).mapIdx (fun i o => (i, o, b.u o 4, b.u (o + 4) 2, b.u (o + 6) 1))
    let p := ((b.persist t).map (·.2.1)).foldl (· + ·) 0
    firstErr [
      errOver wins (fun w =>
        let (i, o, st, len, kind) := w
        errIf (decide (kind > 1) || len = 0 || decide (st < 96) || decide (st + len > b.cs * b.g) ||
          wins.any (fun v => v.1 < i && decide (st < v.2.2.1 + v.2.2.2.1))) (0xC, t, o)),
      errOver e.2.issued (fun i =>
        errIf (i.acc.any (fun m => m.2.2.2) && wins.any (fun v => v.2.2.1 ≤ i.cyc && i.cyc < v.2.2.1 + v.2.2.2.1))
          (0xC, t, pmLoc i.pm)),
      errIf (decide (b.serviceCycles t < 32 + (p + 63) / 64)) (0xC, t, b.secOff 6 t)])

/-! ### Codes 0x0D–0x11, 0x15, 0x16 -/

/-- A transform suits an object (R124). -/
def suits (c : ObjClass) (xform : Nat) : Bool :=
  let code := xform / 4 % 16
  let db := c.ty = 7 && (c.unit = 1 || c.unit = 2) && c.law ≠ 6 && c.law ≠ 7
  match code with
  | 0 => true
  | 1 => true
  | 2 => db
  | 3 => db && xform % 4 = 0
  | 4 => true
  | _ => false

/-- A bound DM word: the tile, the word, the index of its PARAM range, the offset of its record. -/
structure BoundWord where
  tile : Nat
  word : Nat
  window : Nat
  off : Nat
  deriving DecidableEq, Repr

/-- Every bound DM word of the image (R123, R125). -/
def ImgBuf.boundDm (b : ImgBuf) : List BoundWord :=
  (b.recs 0x10 0xFF).map (fun o => ⟨b.u (o + 4) 1, b.u (o + 6) 2, b.u (o + 8) 2, o⟩) ++
  (b.recs 0x11 0xFF).flatMap (fun o =>
    (List.range 5).map (fun k => ⟨b.u (o + 2) 1, b.u (o + 4) 2 + k, b.u (o + 6) 2, o⟩))

/-- A bound word names a working tile, a word in DM and a PARAM range of that tile (R131). -/
def ImgBuf.boundOk (b : ImgBuf) (w : BoundWord) : Bool :=
  decide (w.tile < 36) && b.works w.tile && decide (w.word < 16384) &&
  match (b.windows w.tile)[w.window]? with
  | some r => r.2.2 = 0
  | none => false

/-- The START of the PARAM range of a bound word. -/
def ImgBuf.boundStart (b : ImgBuf) (w : BoundWord) : Nat :=
  match (b.windows w.tile)[w.window]? with | some r => r.1 | none => 0

/-- Code 0x0D (R123–R125, R134). What a write can reach is read as what a read can reach (DEDUCED, log 7). -/
def ImgBuf.bindingErr (b : ImgBuf) (ws : List (Nat × Walk)) : Option ImgErr :=
  let bound := b.boundDm
  let csu := b.recs 0x11 0xFF
  firstErr [
    errOver (b.recs 0x10 0xFF) (fun o =>
      let oid := b.u o 3
      let bad := match (if oid < 0x100000 then findObj oid else none) with
        | none => true
        | some (c, _, _) => !suits c (b.u (o + 3) 1)
      errIf (bad || decide (b.u (o + 5) 1 > 7) || (bound.filter (fun w => w.off = o)).any (fun w => !b.boundOk w)) (0xD, 0xFF, o)),
    errOver (csu.mapIdx (fun i o => (i, o))) (fun e =>
      let o := e.2
      let base := b.u (o + 8) 3
      errIf (decide (b.u o 2 > 8191) || (csu.take e.1).any (fun p => b.u p 2 = b.u o 2) || decide (b.u (o + 3) 1 > 7) ||
        (match sectionOf base with | some n => secBase n ≠ base | none => true) ||
        (bound.filter (fun w => w.off = o)).any (fun w => !b.boundOk w)) (0xD, 0xFF, o)),
    errOver bound (fun w =>
      let words := ((bound.filter (fun v => v.tile = w.tile && v.window = w.window)).map (·.word)).eraseDups
      errIf (decide (words.length > (match (b.windows w.tile)[w.window]? with | some r => r.2.1 | none => 0))) (0xD, 0xFF, w.off)),
    errOver ws (fun e =>
      let mine := bound.filter (fun w => w.tile = e.1)
      errOver e.2.issued (fun i => errOver i.acc (fun m =>
        let (k, a, wr, _) := m
        let reach (w : BoundWord) : Bool := match (b.initSet e.1 k).region with
          | some (lo, hi) => decide (lo ≤ w.word) && decide (w.word ≤ hi)
          | none => w.word = a % 16384
        let hit := mine.any (fun w => (wr || decide (i.cyc ≥ b.boundStart w)) && reach w)
        errIf hit (0xD, e.1, pmLoc i.pm)))),
    errIf (decide (csu.length > 8192)) (0xD, 0xFF, nth 0 csu 8192)]

/-- Code 0x0E (R126). -/
def ImgBuf.headroomErr (b : ImgBuf) : Option ImgErr :=
  errOver (b.recs 0x12 0xFF) (fun o =>
    let t := b.u o 1
    let pm := b.u (o + 2) 2
    errIf (decide (t ≥ 36) || !b.works t || decide (pm ≥ b.progLen t) || pmf (b.pmWord t pm) 101 100 ≠ 1 ||
      (b.u (o + 6) 1 % 2 = 1 && decide (b.u (o + 4) 2 > 255))) (0xE, 0xFF, o))

/-- Code 0x0F (R81, R128). -/
def ImgBuf.tunableErr (b : ImgBuf) : Option ImgErr :=
  errOver (b.recs 0x14 0xFF) (fun o =>
    let t := b.u o 1
    let k := b.u (o + 1) 1
    let rb := b.u (o + 2) 2
    let rl := b.u (o + 4) 2
    let a := b.initSet t k
    errIf (decide (t ≥ 36) || !b.works t || decide (k > 15) || rl = 0 || decide (rb + rl > 16384) ||
      (b.exchange t).any (fun e => rangesMeet e.buf b.g rb rl) ||
      b.boundDm.any (fun w => w.tile = t && decide (rb ≤ w.word) && decide (w.word < rb + rl)) ||
      decide (a.base < rb) || decide (a.base + a.len > rb + rl)) (0xF, 0xFF, o))

/-- Code 0x10 (R129). -/
def ImgBuf.altErr (b : ImgBuf) : Option ImgErr :=
  let recs := match b.sec 0x15 0xFF with | none => [] | some s => (List.range s.count).map (fun i => s.off + 12 * i)
  firstErr [
    errOver b.tiles (fun t => errIf (!recs.any (fun o => b.u o 1 = t)) (0x10, 0xFF, b.secOff 0x15 0xFF)),
    errOver (recs.mapIdx (fun i o => (i, o))) (fun e =>
      let o := e.2
      let t := b.u o 1
      let sp := b.u (o + 1) 1
      errIf (decide (t ≥ 36) || !b.works t || (recs.take e.1).any (fun p => b.u p 1 = t) ||
        (sp ≠ 0xFF && sp ≠ b.spareOf (quadOf t)) || (b.alt t).2.any (fun c => decide (c ≥ b.tocs))) (0x10, 0xFF, o))]

/-- Code 0x11 (R122). -/
def ImgBuf.persistErr (b : ImgBuf) : Option ImgErr :=
  let all := b.tiles.flatMap (fun t => (b.recs 7 t).mapIdx (fun i o => (t, i, o)))
  errOver (all.mapIdx (fun j e => (j, e))) (fun x =>
    let (j, t, i, o) := x
    let len := b.u (o + 2) 2
    let key := b.u (o + 4) 4
    let sum := (((b.recs 7 t).take (i + 1)).map (fun p => b.u (p + 2) 2)).foldl (· + ·) 0
    errIf (len = 0 || decide (b.u o 2 + len > 16384) || decide (sum > 8192) ||
      (key ≠ 0 && (all.take j).any (fun p => b.u (p.2.2 + 4) 4 = key))) (0x11, t, o))

/-- The offsets of the GATING records. -/
def ImgBuf.gateOffs (b : ImgBuf) : Nat → Nat → List Nat
  | 0, _ => []
  | n + 1, o => o :: b.gateOffs n (o + 4 + 4 * ((b.u (o + 2) 2 + 1) / 2))

/-- Code 0x15 (R127). -/
def ImgBuf.gatingErr (b : ImgBuf) : Option ImgErr :=
  let offs := match b.sec 0x13 0xFF with | none => [] | some s => b.gateOffs s.count s.off
  errOver ((offs.zip b.gating).mapIdx (fun i e => (i, e))) (fun x =>
    let (i, o, q, _, tics) := x
    errIf (decide (q > 3) || (b.gating.take i).any (fun p => p.1 = q) || tics.any (fun t => decide (t ≥ b.tics))) (0x15, 0xFF, o))

/-- The number of feeds that follow a bus, up to a bound (R165). -/
def ImgBuf.feedChain (b : ImgBuf) : Nat → Nat → Nat
  | 0, _ => 0
  | n + 1, bus => if b.feedDest bus = 0xFFFF then 0 else 1 + b.feedChain n (b.feedDest bus)

/-- Code 0x16 (R165, R597). -/
def ImgBuf.feedErr (b : ImgBuf) : Option ImgErr :=
  let recs := b.recs 0x16 0xFF
  firstErr [
    errOver (recs.mapIdx (fun i o => (i, o))) (fun e =>
      let src := b.u e.2 2
      let dst := b.u (e.2 + 2) 2
      errIf (decide (src > 255) || decide (dst > 255) || dst = src || (recs.take e.1).any (fun p => b.u p 2 = src)) (0x16, 0xFF, e.2)),
    errOver recs (fun o => errIf (decide (b.feedChain 5 (b.u o 2) > 3)) (0x16, 0xFF, o))]

/-- VERIFY of an image buffer (R130, R131): the first refusal in the order of the codes, or nothing. -/
def ImgBuf.verify (b : ImgBuf) : Option ImgErr :=
  match firstErr [b.headerErr] with
  | some e => some e
  | none =>
  match b.dirErr with
  | some e => some e
  | none =>
  match b.encErr with
  | some e => some e
  | none =>
    let ws := b.tiles.map (fun t => (t, b.walk t))
    firstErr [b.budgetErr ws, ImgBuf.conflictErr ws, b.addressErr ws, b.exchangeErr, b.txbErr ws, b.windowErr ws,
      b.bindingErr ws, b.headroomErr, b.tunableErr, b.altErr, b.persistErr, b.gatingErr, b.feedErr]

end Sys2Proof.Machine
end

