-- ==== Sys2Proof/Machine/ImgCtl.lean ====
section
/-!
DEFINITION. Image control: the PENDING buffer and its actions (R110–R113, R147–R149), activations (R132, R137–R142,
R146), takeovers and reloads (R143–R145, R526, R527), the quadrants' power (R75, R537), the T3 window (R59, R121, R134).

Every command of a grain boundary comes before GRAIN_BOUNDARY, which opens grain GN + 1.
-/

namespace Sys2Proof.Machine

/-- IMG_PEND_STATE codes (R111). -/
def peEmpty : Nat := 0
def peReceiving : Nat := 1
def peVerifying : Nat := 2
def peVerified : Nat := 3
def peRefused : Nat := 4
def peActivating : Nat := 5

/-- The size of an image buffer and of a NOR slot: 16 MiB (R110). -/
def imgBytes : Nat := 0x1000000

/-- The state of PENDING. -/
def State.pend (s : State) : Nat := s.obn oidImgPendState
/-- PENDING takes a state; IMG_PEND_ID reads zero unless it is VERIFIED or ACTIVATING (R147). -/
def State.setPend (s : State) (st : Nat) : State :=
  (s.putn oidImgPendState st).putn oidImgPendId (if st = peVerified ∨ st = peActivating then s.img.pend.id else 0)
/-- PENDING cannot be written: VERIFYING or ACTIVATING (R112). -/
def State.pendBusy (s : State) : Bool := decide (s.pend = peVerifying ∨ s.pend = peActivating)

/-- PENDING enters RECEIVING: its bytes read zero and none is received (R111, R112). -/
def State.receiving (s : State) : State :=
  if s.pend = peReceiving then s
  else { s.setPend peReceiving with img := { s.img with pend := {}, norBad := false, fromNor := false } }

/-- A write of IMG_WR_OFFSET (R112). -/
def wrImgOffset (v : Word) (s : State) : Wr :=
  if v.toNat % 4 ≠ 0 then .error stRange
  else if s.pendBusy then .error stBusy
  else .ok (s.receiving.put oidImgWrOffset v)

/-- A write of IMG_WR_DATA (R112). -/
def wrImgData (v : Word) (s : State) : Wr :=
  let o := s.obn oidImgWrOffset
  if o ≥ imgBytes then .error stRange
  else if s.pendBusy then .error stBusy
  else
    let s := s.receiving
    let p := s.img.pend
    let p := { p with bytes := mapSetFrom (fun _ => 0) p.bytes o (leBytes 4 v.toNat), recv := max p.recv (o + 4) }
    .ok ({ s with img := { s.img with pend := p } }.putn oidImgWrOffset (o + 4))

/-- IMG_WR_OFFSET_WRITE (R112). -/
def execImgWrOffsetWrite (acc : Access) (v : Word) (s : State) : Out :=
  .next (s.writeCmd acc oidImgWrOffset v (fun _ u => wrImgOffset v u))
/-- IMG_WR_DATA_WRITE (R112). -/
def execImgWrDataWrite (acc : Access) (v : Word) (s : State) : Out :=
  .next (s.writeCmd acc oidImgWrData v (fun _ u => wrImgData v u))

/-- The PENDING image is refused: code, tile and location are set and IMG_REFUSED is raised (R111, R130, R150). -/
def State.refuse (s : State) (e : ImgErr) (st : Nat) : State :=
  let s := ((s.putn oidImgErrCode e.1).putn oidImgErrTile e.2.1).putn oidImgErrLoc e.2.2
  (s.setPend st).raise 2 1 [(1, e.1), (1, e.2.1), (4, e.2.2)]

/-- IMG_VERIFY_DONE: the checks of R131 in the order of their codes (R111, R113, R130). `unread` says that the NOR slot from
which PENDING came cannot be read. -/
def State.verifyDone (s : State) (unread : Bool) : State :=
  if s.pend ≠ peVerifying then s
  else if s.img.norBad || (unread && s.img.fromNor) then s.refuse (0x14, 0xFF, 0) peRefused
  else match s.img.pend.verify with
    | some e => s.refuse e peRefused
    | none => (s.setPend peVerified).raise 2 0 [(4, s.img.pend.id)]

/-- A NOR slot is copied into PENDING (R110–R112); a slot that holds no image is refused when verified. -/
def State.loadNor (s : State) (slot : Bool) : State :=
  let img := s.img
  let s := match (if slot then img.nor1 else img.nor0) with
    | some b => { s with img := { img with pend := { b with recv := imgBytes }, norBad := false, fromNor := true } }
    | none => { s with img := { img with pend := { recv := imgBytes }, norBad := true, fromNor := true } }
  s.setPend peVerifying

/-- The VERIFIED image is written to a NOR slot (R149). -/
def State.storeNor (s : State) (slot boot : Bool) : State :=
  let img := s.img
  let b : ImgBuf := { img.pend with recv := imgBytes }
  { s with jnl := if boot ∧ slot ≠ img.bootSlot then s.jnl.relayout else s.jnl, img := { img with
      nor0 := if slot then img.nor0 else some b
      nor1 := if slot then some b else img.nor1
      bootSlot := if boot then slot else img.bootSlot } }

/-- An activation is requested (R137); beside a peer it waits until the standby has verified the image (R488). -/
def State.activate (s : State) (partial' atTime : Bool) : State :=
  { s.setPend peActivating with img := { s.img with
      act := { phase := 1, partial' := partial', atTime := atTime, peerWait := s.mirrors }, autoAct := false } }

/-- CANCEL (R111, R112): before b0, and an enabled time action with target IMAGE_ACTIVATE is disabled (R361). -/
def State.cancelAct (s : State) : Wr :=
  if s.pend ≠ peActivating then .error stNotReady
  else if s.img.act.phase ≠ 1 then .error stBusy
  else
    let s := s.disableTa 8
    .ok { s.setPend peVerified with img := { s.img with act := {} } }

/-- A write of IMG_CTRL (R111, R112, R137, R148, R149). -/
def wrImgCtrl (v : Word) (s : State) : Wr :=
  let a := fld v 3 0
  if a > 6 then .error stRange
  else if a = 0 then .ok s
  else if a = 6 then s.cancelAct
  else if s.pendBusy then .error stBusy
  else if a = 1 then (if s.pend = peReceiving then .ok (s.setPend peVerifying) else .error stNotReady)
  else if a = 2 then
    if s.pend ≠ peVerified ∨ (bit v 7 ∧ (s.taEnabled 8).isNone) then .error stNotReady
    else .ok (s.activate (bit v 6) (bit v 7))
  else if a = 3 then .ok (s.setPend peEmpty)
  else if a = 4 then .ok (s.loadNor (bit v 4))
  else if s.pend ≠ peVerified then .error stNotReady
  else .ok (s.storeNor (bit v 4) (bit v 5))

/-- An action of IMG_CTRL as one write. -/
def State.imgAction (s : State) (acc : Access) (v : Nat) : State :=
  s.writeCmd acc oidImgCtrl (wd v) (fun _ u => wrImgCtrl (wd v) u)

/-- VERIFY (R111). -/
def execVerify (acc : Access) (s : State) : Out := .next (s.imgAction acc 1)
/-- ACTIVATE (R137). -/
def execActivate (acc : Access) (partial' atTime : Bool) (s : State) : Out :=
  .next (s.imgAction acc (2 + (if partial' then 64 else 0) + (if atTime then 128 else 0)))
/-- DISCARD (R111). -/
def execDiscard (acc : Access) (s : State) : Out := .next (s.imgAction acc 3)
/-- LOAD_NOR (R111). -/
def execLoadNor (acc : Access) (slot : Bool) (s : State) : Out := .next (s.imgAction acc (4 + (if slot then 16 else 0)))
/-- STORE_NOR (R149). -/
def execStoreNor (acc : Access) (slot boot : Bool) (s : State) : Out :=
  .next (s.imgAction acc (5 + (if slot then 16 else 0) + (if boot then 32 else 0)))
/-- CANCEL (R111, R112). -/
def execCancel (acc : Access) (s : State) : Out := .next (s.imgAction acc 6)

/-! ### Quadrants (R75, R537) -/

/-- The state of a quadrant domain: 0 OFF, 1 ON, 2 GATED, 3 WAKING (R537, R555). -/
def State.quad (s : State) (q : Nat) : Nat := fld (s.ob oidPwrQuadState) (8 * q + 1) (8 * q)
/-- A quadrant domain takes a state; PWR_DOMAINS shows whether it is powered. -/
def State.setQuad (s : State) (q st : Nat) : State :=
  (s.putFld oidPwrQuadState (8 * q + 1) (8 * q) st).putFld oidPwrDomains (8 + q) (8 + q) (if st = 0 then 0 else 1)
/-- The grains for which a quadrant has been ON start over. -/
def State.quadRunZero (s : State) (q : Nat) : State :=
  { s with img := { s.img with quadRun := mapSet (fun _ => 0) s.img.quadRun q 0 } }
/-- A quadrant powers up: its tiles go from OFF to STOPPED, or to RETIRED where PD2 records it; registers and predicates are
zero (R75). DM and PM, which are undefined until loaded, read zero (DESIGN CHOICE, log 3). -/
def State.quadOn (s : State) (q : Nat) : State :=
  if s.quad q ≠ 0 then s else
  forUpTo 9 (fun i t =>
    let p := 9 * q + i
    if t.tileState p = tsOff then
      (t.setTile p {}).setTileState p (if t.img.retired.contains p then tsRetired else tsStopped)
    else t) ((s.setQuad q 1).quadRunZero q)
/-- A quadrant powers down: its tiles lose their contents; a retired tile stays RETIRED (R75). -/
def State.quadOff (s : State) (q : Nat) : State :=
  if s.quad q = 0 then s else
  forUpTo 9 (fun i t =>
    let p := 9 * q + i
    if t.tileState p = tsRetired then t.setTile p {} else (t.setTile p {}).setTileState p tsOff)
    ((s.setQuad q 0).quadRunZero q)
/-- A quadrant has work: a working tile that runs on it, or an engaged spare (R537). -/
def State.quadWorks (s : State) (q : Nat) : Bool :=
  (List.range 36).any (fun w => s.img.active.works w && decide (quadOf (s.carrierOf w) = q)
    && !s.img.retired.contains (s.carrierOf w))
/-- Every quadrant without work goes OFF (R138, R537). -/
def State.quadsIdleOff (s : State) : State := forUpTo 4 (fun q t => if t.quadWorks q then t else t.quadOff q) s

/-! ### Loading a tile (R116–R118, R138, R139) -/

/-- The DM that DM_INIT gives a tile. -/
def ImgBuf.dmOf (b : ImgBuf) (w : Nat) : SMap Word :=
  (b.dmInit w).foldl (fun m r =>
    mapSetFrom (fun _ => 0) m (8 * r.1) ((List.range (8 * r.2.1)).map (fun i => wd (b.u (r.2.2 + 4 * i) 4)))) []
/-- The PM that PROGRAM gives a tile. -/
def ImgBuf.pmOf (b : ImgBuf) (w : Nat) : SMap PmWord :=
  mapSetFrom (fun _ => 0) [] 0 ((List.range (b.progLen w)).map (b.pmWord w))
/-- The initial address sets of a tile. -/
def ImgBuf.setsOf (b : ImgBuf) (w : Nat) : SMap AddrSet :=
  (List.range 16).foldl (fun m k => mapSet (fun _ => {}) m k (b.initSet w k)) []

/-- DM with the carried regions of the same key and length laid over it (R139). -/
def ImgBuf.carryInto (b : ImgBuf) (w : Nat) (carried : SMap (List Word)) (dm : SMap Word) : SMap Word :=
  (b.persist w).foldl (fun m r =>
    let old := mapGet (fun _ => []) carried r.2.2
    if r.2.2 ≠ 0 ∧ old.length = 8 * r.2.1 then mapSetFrom (fun _ => 0) m (8 * r.1) old else m) dm

/-- Physical tile `p` holds the program, data and address sets of work `w`, ready to start (R75, R138). Its predicates are
zero (R69), and its registers where `zero` says so (R42). It has no checkpoint (R136). -/
def State.loadTile (s : State) (b : ImgBuf) (p w : Nat) (dm : SMap Word) (zero : Bool) : State :=
  let t := s.tile p
  let t : Tile := if zero then {} else { d := t.d, a := t.a, aSeen := t.aSeen }
  s.setTile p { t with dm := dm, pm := b.pmOf w, sets := b.setsOf w, ip := b.entry w, cyc := 0, t3q := (s.tile p).t3q }

/-- The loads and takeovers of a work end. -/
def State.dropTakeovers (s : State) (ws : List Nat) : State :=
  { s with img := { s.img with takeovers := s.img.takeovers.filter (fun k => !ws.contains k.work) } }

/-- The patch unit releases zero from the TOCs of a list. -/
def State.zeroTocs (s : State) (l : List Nat) : State :=
  l.foldl (fun t c => t.setTocFade c { retired := (t.tocFade c).retired, zero := true }) s
/-- The TOCs of a list fade in with the output grain after next, unless they are retired (R138, R144, R526). The length is
IMG_FADE_LEN as it stands when the tiles start; the spec does not say which L governs the fade-in after a write of IMG_FADE_LEN
during the activation (DESIGN CHOICE, log 4). -/
def State.fadeInTocs (s : State) (l : List Nat) : State :=
  l.foldl (fun t c => if (t.tocFade c).retired then t
    else t.setTocFade c { zero := true, wait := 2, inLen := t.obn oidImgFadeLen }) s

/-- The TOCs of a work's fallback set are retired (R145). -/
def State.retireTocs (s : State) (b : ImgBuf) (w : Nat) : State :=
  let l := (b.alt w).2
  let n := (l.filter (fun c => !(s.tocFade c).retired)).length
  let s := l.foldl (fun t c => t.setTocFade c { zero := true, retired := true }) s
  let s := s.putn oidImgChanRetiredCnt (s.img.toc.filter (fun e => e.2.retired)).length
  s.raise 2 4 [(1, w), (4, n)]

/-! ### Placement (R143, R145, R146) -/

/-- The spare that a work's ALT record names, while it is FREE (R143). -/
def State.freeSpare (s : State) (b : ImgBuf) (w : Nat) : Option Nat :=
  let sp := (b.alt w).1
  if sp < 36 ∧ !s.img.retired.contains sp ∧ mapGet (fun _ => 0) s.img.engaged sp = 0 then some sp else none
/-- A spare is engaged for a work. -/
def State.engage (s : State) (sp w : Nat) : State :=
  { s with img := { s.img with engaged := mapSet (fun _ => 0) s.img.engaged sp (w + 1) } }

/-- A spare holds no program: it is STOPPED with nothing loaded (R138, R143). -/
def State.clearSpare (s : State) (p : Nat) : State := if s.tileState p = tsStopped then s.setTile p {} else s

/-- The engagements of the works of `old` end, and the works of a new image whose tiles are retired are placed on their spares,
in ascending order (R138, R146). -/
def State.place (s : State) (b : ImgBuf) (old ws : List Nat) : State :=
  let gone := s.img.engaged.filter (fun e => old.contains (e.2 - 1))
  let s := { s with img := { s.img with engaged := s.img.engaged.filter (fun e => !old.contains (e.2 - 1)) } }
  let s := gone.foldl (fun t e => t.clearSpare e.1) s
  ws.foldl (fun t w =>
    if !t.img.retired.contains w then t
    else match t.freeSpare b w with
      | some sp => t.engage sp w
      | none => t) s

/-! ### Activation (R137–R142) -/

/-- The bytes of a section. -/
def ImgBuf.secBytes (b : ImgBuf) (ty t : Nat) : List Byte :=
  match b.sec ty t with | none => [] | some s => b.slice s.off s.len
/-- The global records of a type that name a tile at byte `o` of the record. -/
def ImgBuf.recsOf (b : ImgBuf) (ty o t : Nat) : List (List Byte) :=
  ((b.recs ty 0xFF).filter (fun r => b.u (r + o) 1 = t)).map (fun r => b.slice r (recSize ty))

/-- A tile is changed between two images (R140). -/
def ImgBuf.tileDiffers (a b : ImgBuf) (t : Nat) : Bool :=
  (a.works t != b.works t) ||
  (a.works t && ((List.range 7).any (fun i => a.secBytes (i + 1) t ≠ b.secBytes (i + 1) t) ||
    a.recsOf 0x10 4 t ≠ b.recsOf 0x10 4 t || a.recsOf 0x11 2 t ≠ b.recsOf 0x11 2 t ||
    a.recsOf 0x12 0 t ≠ b.recsOf 0x12 0 t || a.recsOf 0x14 0 t ≠ b.recsOf 0x14 0 t ||
    a.recsOf 0x15 0 t ≠ b.recsOf 0x15 0 t || a.alt t ≠ b.alt t))

/-- The first header field by which a partial swap breaks R140, as its byte offset. -/
def ImgBuf.partialBad (a b : ImgBuf) : Option Nat :=
  if a.cs ≠ b.cs then some 12
  else if a.g ≠ b.g then some 14
  else if !a.partialOk || !b.partialOk then some 15
  else if (List.range 4).any (fun q => a.spareOf q ≠ b.spareOf q) then some 32
  else if a.compat ≠ b.compat then some 36
  else if a.tics ≠ b.tics then some 46
  else if a.tocs ≠ b.tocs then some 48
  else none

/-- The refusal of an activation at its first boundary (R26, R131, R140): CS must match the rate that DOM_RATE_A names, which is
the one in force or the one that DA relocks to. -/
def State.actRefusal (s : State) : Option ImgErr :=
  if s.img.pend.cs ≠ rateCs (s.obn oidDomRateA) then some (0x12, 0xFF, 12)
  else if s.img.act.partial' then (s.img.active.partialBad s.img.pend).map (fun o => (0x13, 0xFF, o))
  else none

/-- The tiles that an activation changes: every tile of either image when FULL (R138, R140). -/
def State.actChanged (s : State) : List Nat :=
  (List.range 36).filter (fun t =>
    if s.img.act.partial' then s.img.active.tileDiffers s.img.pend t
    else (s.imgActive && s.img.active.works t) || s.img.pend.works t)
/-- The TOCs that an activation fades: all when FULL, the fallback sets of the changed tiles when PARTIAL (R140). -/
def State.actFade (s : State) (changed : List Nat) : List Nat :=
  if s.img.act.partial' then (changed.flatMap (fun t => (s.img.active.alt t).2 ++ (s.img.pend.alt t).2)).eraseDups
  else List.range (max s.img.active.tocs s.img.pend.tocs)

/-- A gated quadrant starts to wake (R539). A request made at a grain boundary is not judged at that boundary: `quadRun`
then holds 1 until GRAIN_BOUNDARY. -/
def State.wakeQuad (s : State) (q : Nat) (atBoundary : Bool) : State :=
  if s.quad q ≠ 2 then s
  else
    let s := s.setQuad q 3
    { s with img := { s.img with quadRun := mapSet (fun _ => 0) s.img.quadRun q (if atBoundary then 1 else 0) },
             pwr := { s.pwr with qready := setBitN s.pwr.qready q false } }

/-- IMG_ACTIVATION_BEGIN: b0 (R137, R138, R140, R142, R184, R539). -/
def execImgActivationBegin (s : State) : Out :=
  let a := s.img.act
  .next (
    if a.phase ≠ 1 ∨ a.peerWait ∨ (a.atTime ∧ !a.fired) ∨ a.b0.any (fun b => decide ((s.gn + 1 - b).toInt < 0)) then s
    else match s.actRefusal with
      | some e => { (s.refuse e peVerified) with img := { s.img with act := {} } }
      | none =>
        let s := s.mirror (.image a.partial' (s.gn + 1))
        let changed := s.actChanged
        let fades := s.actFade changed
        let len := s.obn oidImgFadeLen
        let s := { s with img := { s.img with
          act := { a with phase := 3, samples := 0, changed := changed, fadeSet := fades, len := len } } }
        let s := fades.foldl (fun t c =>
          let f := t.tocFade c
          if f.zero then t else t.setTocFade c { f with outLen := len, outK := 0 }) s
        let s := forUpTo 4 (fun q t => t.wakeQuad q true) s
        s.silB0)

/-- The carried regions of a work as its tile leaves them (R139). -/
def State.capture (s : State) (w : Nat) : State :=
  let t := s.tile (s.carrierOf w)
  let c := (s.img.active.persist w).foldl (fun m r =>
    if r.2.2 = 0 then m
    else mapSet (fun _ => []) m r.2.2 (mapRead (fun _ => 0) t.dm (8 * r.1) (8 * r.2.1))) s.img.act.carried
  { s with img := { s.img with act := { s.img.act with carried := c } } }

/-- A waiting write reaches DM: the bytes that it names are written, the others keep what they then hold (R59). -/
def Tile.t3Write (t : Tile) (a : T3Acc) : Tile :=
  let old := leBytes 4 (t.dmKey a.addr).toNat
  let new := leBytes 4 a.data.toNat
  t.setDmKey a.addr (wd (ofLe ((List.range 4).map (fun i => if a.bytes.getLsbD i then nth 0 new i else nth 0 old i))))
/-- The accesses that wait at a tile's window are served at once when the tile stops (R59). -/
def Tile.flushT3 (t : Tile) : Tile :=
  { t.t3q.foldl (fun (u : Tile) a => if a.write then u.t3Write a else u) t with t3q := [] }
/-- A tile stops at the boundary that ends its grain: what lands in the grain has landed (R41, R75). -/
def State.stopTile (s : State) (p : Nat) : State :=
  (s.setTile p ((s.tile p).endGrain s.grainCyc).flushT3).setTileState p tsStopped

/-- IMG_TILES_STOP: the first grain boundary at or after L samples from b0 (R138, R139, R248). -/
def execImgTilesStop (s : State) : Out :=
  let a := s.img.act
  .next (
    if a.phase ≠ 3 ∨ a.samples < a.len then s
    else
      let s := a.changed.foldl (fun t w =>
        let p := t.carrierOf w
        if t.imgActive && t.img.active.works w then
          let t := if t.tileState p = tsRunning ∨ t.tileState p = tsGated then t.stopTile p else t
          if t.tileState p = tsStopped ∧ !a.copied then t.capture w else t
        else t) s
      let s := a.changed.foldl (fun t w => t.abandonFirs w) s
      let s := (s.dropTakeovers a.changed).zeroTocs a.fadeSet
      { s with img := { s.img with act := { s.img.act with phase := 4 }, running := s.img.running && a.partial' } })

/-- The loader writes the works of a list from an image into the stopped tiles that carry them (R138, R139). -/
def State.loadWorks (s : State) (b : ImgBuf) (old ws : List Nat) : State :=
  let s := (List.range 4).foldl (fun t q => if ws.any (fun w => quadOf w = q) then t.quadOn q else t) s
  let s := s.place b old ws
  ws.foldl (fun t w =>
    let p := t.carrierOf w
    if t.tileState p = tsStopped then
      t.loadTile b p w (b.carryInto w t.img.act.carried (b.dmOf w)) false
    else t) s

/-- An uncorrectable word of an image buffer or a checkpoint: flag, address, fault-log entry (R231, R255, R530). -/
def State.dmemUe (s : State) (addr : Nat) : State :=
  let image := decide (addr < 0x2000000)
  ((s.putn oidDmemUeAddr addr).dmemFlag (if image then 3 else 4)).noteFault 8
    ((if image then 2 else 3) * 2 ^ 25 + addr / 64)

/-- IMG_LOAD_DONE: the loader has finished. `ue` is the address of an image word that failed twice; the activation is
then refused with BAD_DIGEST and the previous image is reloaded (R138, R231). -/
def execImgLoadDone (ue : Option Nat) (s : State) : Out :=
  let a := s.img.act
  .next (
    if a.phase ≠ 4 then s
    else match ue with
      | none =>
        let s := s.loadWorks s.img.pend a.changed (a.changed.filter s.img.pend.works)
        { s with img := { s.img with act := { s.img.act with phase := 5 } } }
      | some addr =>
        let s := (s.dmemUe addr).refuse (3, 0xFF, s.img.pend.size - 32) peVerified
        let s := s.loadWorks s.img.active a.changed (a.changed.filter (fun w => s.imgActive && s.img.active.works w))
        { s with img := { s.img with act := { s.img.act with phase := 5, back := true } } })

/-- ACTIVE and PENDING exchange roles (R111, R141). Without a previous image PENDING is EMPTY. -/
def State.exchangeImages (s : State) : State :=
  let had := s.imgActive
  let img := s.img
  let s := { s with img := { img with active := img.pend, pend := img.active } }
  let b := s.img.active
  let s := (s.putn oidImgActiveId b.id).putn oidImgActiveForm (b.cs + 65536 * b.g)
  s.setPend (if had then peVerified else peEmpty)

/-- A tap whose meter a work reports, by the OID of its PEAK: of a strip whose TIC it takes, of a bus or output stage whose TOC it
gives (R279, R280). -/
def ImgBuf.reportsTap (b : ImgBuf) (w oid : Nat) : Bool :=
  let has (out : Bool) (n : Nat) : Bool :=
    (b.exchange w).any (fun e => e.out == out && decide (e.ch ≤ n ∧ n < e.ch + 8) && e.mask.getLsbD (n - e.ch))
  if oid < 0x102000 then has false ((oid - 0x100000) / 16)
  else if oid < 0x102800 then has true ((oid - 0x102000) / 8)
  else decide (oid < 0x110000) && has true ((oid - 0x102800) / 2)
/-- The meter averages of the works of a list restart from zero (R279). -/
def State.metersStart (s : State) (ws : List Nat) : State :=
  { s with conv := { s.conv with mhist := s.conv.mhist.filter (fun e => !ws.any (fun w => s.img.active.reportsTap w e.1)) } }

/-- The works of a list start: RUNNING at the boundary, bound words at their values for the grain that opens, the FIR
selections in bank A, the meter averages from zero (R75, R134, R138, R248, R279). -/
def State.startWorks (s : State) (ws : List Nat) : State :=
  let s := ws.foldl (fun t w =>
    let p := t.carrierOf w
    if t.tileState p = tsStopped then t.setTileState p tsRunning else t) s
  let s := (s.writeBound (s.gn + 1) (fun w => ws.contains w)).metersStart ws
  ws.foldl (fun t w => t.loadFirs w true) s

/-- A physical tile is retired with the work it carries (R75, R143–R146, R536). IMG_CHANNELS_RETIRED names the tile of the
work, also where the spare that carried it is the tile retired: the spec does not say which (DESIGN CHOICE, log 5). -/
def State.retireTile (s : State) (p : Nat) : State :=
  let w := s.workOf p
  let b := s.img.active
  let s := s.abandonFirs w
  let s := (s.setTile p { fails := (s.tile p).fails, ckpt := (s.tile p).ckpt }).setTileState p tsRetired
  let s := { s with img := { s.img with retired := if s.img.retired.contains p then s.img.retired else s.img.retired ++ [p] } }
  let s := s.dropTakeovers [w]
  match (if p = w then s.freeSpare b w else none) with
  | some sp =>
    let s := s.engage sp w
    let s := { s with img := { s.img with takeovers := s.img.takeovers ++ [({ work := w, onto := sp, phase := 1, fallback := (b.alt w).2 } : Takeover)] } }
    (s.zeroTocs (b.alt w).2).raise 13 10 [(1, p), (1, sp)]
  | none => (s.retireTocs b w).raise 13 10 [(1, p), (1, 0x3F)]

/-- IMG_SPARE_ENGAGED for the works that start on a spare (R150). -/
def State.sparesStarted (s : State) (ws : List Nat) : State :=
  ws.foldl (fun t w => if t.carrierOf w = w then t else t.raise 2 3 [(1, w), (1, t.carrierOf w)]) s

/-- The TOCs that stay retired at an activation: those of unchanged works that have no placement (R145). -/
def State.keepRetired (s : State) (b : ImgBuf) (changed : List Nat) : List Nat :=
  ((List.range 36).filter (fun w => b.works w && !changed.contains w && s.img.retired.contains (s.carrierOf w))).flatMap
    (fun w => (b.alt w).2)

/-- The tiles of an activation start at the first grain boundary after the load (R111, R138, R141, R142, R146, R233, R239);
mutes for the lack of running tiles end (R517). Retirements decided while the tiles were stopped are applied through the new
image (R142). -/
def State.imgTilesStart (s : State) : State :=
  let a := s.img.act
  if a.phase ≠ 5 then s
  else
    let s := if a.back then s else s.exchangeImages
    let b := s.img.active
    let ws := a.changed.filter b.works
    let lost := ws.filter (fun w => s.img.retired.contains (s.carrierOf w))
    let kept := s.keepRetired b a.changed
    let late := s.img.retirePend
    let s := (s.startWorks (ws.filter (fun w => !late.contains (s.carrierOf w)))).sparesStarted ws
    let s := a.fadeSet.foldl (fun t c => t.setTocFade c { zero := true, retired := kept.contains c }) s
    let s := lost.foldl (fun t w => t.retireTocs b w) s
    let s := s.putn oidImgChanRetiredCnt (s.img.toc.filter (fun e => e.2.retired)).length
    let s := s.fadeInTocs a.fadeSet
    let s := { s with img := { s.img with retirePend := [] } }
    let s := late.foldl (fun t p => t.retireTile p) s
    let s := s.assignLines
    let s := s.silStart
    let s := s.quadsIdleOff
    let gap := a.samples + b.g - a.len
    let s := { s with img := { s.img with act := {}, running := true, relockStop := false, autoAct := false }, guard := { s.guard with sys := false } }
    if a.back then s
    else (s.putn oidImgLastGap gap).raise 2 2 [(4, b.id), (1, if a.partial' then 1 else 0), (4, gap)]

/-- IMG_AUTO_ACTIVATE: a VERIFIED image whose CS matches the rate is activated in FULL mode while the tiles are stopped
for lack of one (R132, R142). -/
def execImgAutoActivate (s : State) : Out :=
  let cs := rateCs s.conv.rateA
  .next (
    if s.img.relockStop && decide (s.pend = peVerified) && decide (s.img.pend.cs = cs)
        && (s.img.autoAct || decide (s.cs ≠ cs)) then s.activate false false
    else s)

/-- A domain A rate change ends an activation that has not started its tiles (R142). `cs` is the new C_s. -/
def State.abortActivation (s : State) (cs : Nat) : State :=
  let a := s.img.act
  if a.phase = 0 then s
  else
    let s := if a.phase ≥ 5 ∧ !a.back then
        s.loadWorks s.img.active a.changed (a.changed.filter (fun w => s.imgActive && s.img.active.works w)) else s
    -- the outputs are muted by the rate change; what the restarted tiles put out is released again (R27)
    let s := a.fadeSet.foldl (fun t c =>
      let f := t.tocFade c
      if f.retired then t else t.setTocFade c (if a.phase = 3 then { f with outLen := 0, outK := 0 } else {})) s
    let match' := decide (s.img.pend.cs = cs)
    let s := if a.back then s else if match' then s.setPend peVerified else s.refuse (0x12, 0xFF, 12) peVerified
    { s with img := { s.img with act := {}, autoAct := match' && !a.back } }

/-! ### Takeover and reload (R143–R145, R526, R527) -/

/-- A reload of a tile begins: it goes to STOPPED with the image unloaded from it, only its checkpoint kept, and its fallback
set releases zero (R75, R526). -/
def State.beginReload (s : State) (p : Nat) : State :=
  let w := s.workOf p
  let s := (s.abandonFirs w).stopTile p
  let s := s.setTile p { fails := (s.tile p).fails, ckpt := (s.tile p).ckpt, failed := (s.tile p).failed }
  let l := (s.img.active.alt w).2
  { s with img := { s.img with takeovers := s.img.takeovers ++ [({ work := w, onto := p, phase := 1, fallback := l } : Takeover)] } }

/-- The takeover or reload whose target is a physical tile. -/
def State.takeover (s : State) (p : Nat) : Option Takeover := s.img.takeovers.find? (fun k => k.onto = p)

/-- The load of a takeover or a reload is complete. -/
def State.loaded (s : State) (onto : Nat) : State :=
  { s with img := { s.img with takeovers := s.img.takeovers.map (fun x => if x.onto = onto then { x with phase := 2 } else x) } }

/-- DM of a work with its last complete checkpoint in the PERSIST regions; `bad` is a region whose checkpoint failed
(R136, R231). -/
def ImgBuf.restore (b : ImgBuf) (w : Nat) (c : Ckpt) (bad : Option Nat) : SMap Word :=
  ((b.persist w).mapIdx (fun i r => (i, r))).foldl (fun m e =>
    if c.valid ∧ bad ≠ some e.1 then
      mapSetFrom (fun _ => 0) m (8 * e.2.1) (mapRead (fun _ => 0) c.area (8 * e.2.1) (8 * e.2.2.1))
    else m) (b.dmOf w)

/-- The loader has written a work with the checkpoint of tile `ck` (R144, R526), or met an error (R231): an image word
that failed twice leaves the work without placement, a checkpoint error loads its region from DM_INIT. -/
def State.loadWork (s : State) (k : Takeover) (ck : Nat) (err : LoadErr) : State :=
  let b := s.img.active
  let c := (s.tile ck).ckpt
  let load (bad : Option Nat) (t : State) : State :=
    let t := t.loadTile b k.onto k.work (b.restore k.work c bad) true
    (t.setTile k.onto { t.tile k.onto with ckpt := ({ valid := c.valid, area := c.area, age := c.age } : Ckpt) }).loaded k.onto
  match err with
  | .ok => load none s
  | .ckpt a r => load (some r) (s.dmemUe a)
  | .image a =>
    let s := (s.dmemUe a).dropTakeovers [k.work]
    let s := { s with img := { s.img with engaged := s.img.engaged.filter (fun e => !(e.1 = k.onto && k.onto ≠ k.work)) } }
    s.retireTocs b k.work

/-- A loaded work starts on its tile: RUNNING, bound words, FIR selections; its fallback set fades in one grain later
(R75, R144, R526). -/
def State.startWork (s : State) (k : Takeover) : State :=
  let s := (s.dropTakeovers [k.work]).startWorks [k.work]
  s.fadeInTocs k.fallback

/-- SPARE_LOAD_DONE (R144, R231). -/
def execSpareLoadDone (tile : Fin 36) (err : LoadErr) (s : State) : Out :=
  .next (match s.takeover tile with
    | some k => if k.phase = 1 ∧ k.onto ≠ k.work then s.loadWork k k.work err else s
    | none => s)

/-- SPARE_START (R144). -/
def execSpareStart (tile : Fin 36) (s : State) : Out :=
  .next (match s.takeover tile with
    | some k =>
      if k.phase = 2 ∧ k.onto ≠ k.work then (s.startWork k).raise 2 3 [(1, k.work), (1, tile)] else s
    | none => s)

/-- TILE_RELOAD_DONE (R526, R231). -/
def execTileReloadDone (tile : Fin 36) (err : LoadErr) (s : State) : Out :=
  .next (match s.takeover tile with
    | some k => if k.phase = 1 ∧ s.workOf tile = k.work ∧ !s.img.retired.contains k.work then s.loadWork k tile err else s
    | none => s)

/-- TILE_RESTART (R526). -/
def execTileRestart (tile : Fin 36) (s : State) : Out :=
  .next (match s.takeover tile with
    | some k =>
      if k.phase = 2 ∧ s.workOf tile = k.work ∧ !s.img.retired.contains k.work then (s.startWork k).raise 13 9 [(1, tile)]
      else s
    | none => s)

/-- IMG_SPARE_STATE as it reads (R147). -/
def State.readSpareState (s : State) : Word :=
  wd ((List.range 4).foldl (fun a q =>
    let sp := s.img.active.spareOf q
    let e := mapGet (fun _ => 0) s.img.engaged sp
    let b := if !s.imgActive || decide (sp ≥ 36) then 0xC0
      else if s.img.retired.contains sp then 0x80
      else if e ≠ 0 then 0x40 + (e - 1) else 0
    a + b * 2 ^ (8 * q)) 0)

/-- IMG_CKPT_AGE as it reads: the oldest checkpoint of a working tile (R136, R147). -/
def State.readCkptAge (s : State) : Nat :=
  ((List.range 36).filter (fun w => s.imgActive && s.img.active.works w)).foldl
    (fun a w => max a (s.tile (s.carrierOf w)).ckpt.age) 0

/-! ### The T3 window (R59, R121, R134, R247) -/

/-- The output that the FIR loader serves next on a tile's work: the lowest in phase 1 (R247). -/
def State.firNext (s : State) (w : Nat) : Option Nat := (s.img.active.firOuts w).find? (fun m => (s.fir m).phase = 1)

/-- The window range of a tile's work that holds an ecyc: its index and its kind (R121). -/
def ImgBuf.windowAt (b : ImgBuf) (w cyc : Nat) : Option (Nat × Nat) :=
  (((b.windows w).mapIdx (fun i r => (i, r))).find? (fun e => e.2.1 ≤ cyc && cyc < e.2.1 + e.2.2.1)).map
    (fun e => (e.1, e.2.2.2))

/-- The FIR loader or a T3 access takes the next SERVICE cycle of a tile: at most 32 a grain do (R121). -/
def State.serviceWaits (s : State) (p : Nat) : Bool :=
  decide ((s.tile p).t3used < 32) && ((s.firNext (s.workOf p)).isSome || !(s.tile p).t3q.isEmpty)

/-- One SERVICE cycle of phase 1: the FIR loader, else the oldest waiting access (R121). -/
def State.serviceCycle (s : State) (p : Nat) : State :=
  let w := s.workOf p
  let t := s.tile p
  if t.t3used ≥ 32 then s
  else match s.firNext w with
    | some m =>
      let s := s.firStep m
      s.setTile p { s.tile p with t3used := t.t3used + 1 }
    | none =>
      match t.t3q with
      | [] => s
      | a :: r =>
        let t := { t with t3q := r, t3used := t.t3used + 1 }
        if a.write then s.setTile p (t.t3Write a)
        else { s.setTile p t with answer := { body := leBytes 4 (t.dmKey a.addr).toNat } }

/-- A window cycle of a RUNNING tile, `adv` ecyc on: `f` says what acts, from the range's index and kind. Outside the tile's ranges,
and where slot 1 or another access has the cycle, nothing acts (R59, R121). -/
def State.windowOp (s : State) (tile : Fin 36) (adv : Nat) (f : Nat → Nat → State → Option State) : State :=
  let p : Slot := ⟨tile, adv, ⟨0, false⟩⟩
  let u := s.toWord p
  let t := u.tile tile
  if s.canIssue p && fitsWord (.window :: t.used) then
    match u.img.active.windowAt (u.workOf tile) t.cyc with
    | some (i, kind) => (f i kind (u.setTile tile { t with used := .window :: t.used })).getD u
    | none => u
  else u

/-- T3_WINDOW_SERVICE: a window cycle of a RUNNING tile. A PARAM cycle writes the next bound word of its range that differs
in the grain to come; a SERVICE cycle serves the FIR loader or a T3 access (R22, R121, R133, R134, R247). -/
def execT3WindowService (tile : Fin 36) (adv : Nat) (s : State) : Out :=
  .next (s.windowOp tile adv (fun i kind u =>
    if kind = 0 then
      (u.nextBound tile i (u.gn + 1)).map (fun w => u.setTile tile ((u.tile tile).setDmKey w.key w.value))
    else if u.serviceWaits tile then some (u.serviceCycle tile) else none))

/-- The checkpoint engine reads the next persistent word of a tile; after the last word the pass is the tile's checkpoint
(R136). -/
def State.ckptStep (s : State) (tile : Nat) : State :=
  let t := s.tile tile
  let ws := s.img.active.persistWords (s.workOf tile)
  let c := t.ckpt
  if t.failed ∨ ws = [] then s
  else
    let a := nth 0 ws c.pos
    let pass := mapSetFrom (fun _ => 0) c.pass (8 * a) (lanes (t.dmw a))
    let s := (s.traffic 1).areaWritten 0x2000000 0x4000000
    s.setTile tile { t with ckpt :=
      if c.pos + 1 < ws.length then { c with pos := c.pos + 1, pass := pass }
      else { valid := true, area := pass, age := 0, pos := 0, pass := [] } }

/-- CHECKPOINT_CYCLE: a SERVICE cycle that neither T3 nor the FIR loader takes (R121, R136). -/
def execCheckpointCycle (tile : Fin 36) (adv : Nat) (s : State) : Out :=
  .next (s.windowOp tile adv (fun _ kind u =>
    if kind = 1 ∧ !u.serviceWaits tile then some (u.ckptStep tile) else none))

end Sys2Proof.Machine
end

