-- ==== Sys2Proof/Machine/Conv.lean ====
section
/-!
DEFINITION. Domain assignment (R257, R258), bridge groups and channels (R260–R269), decimation and analysis chains
(R270–R278), meters (R279), the power of PD5 (R281).

Every command of a boundary comes before GRAIN_BOUNDARY and SAMPLE_BOUNDARY of that instant, METER_WINDOW_END after.
-/

namespace Sys2Proof.Machine

/-- A CONV_STICKY flag with its counter (R286). -/
def State.convFlag (s : State) (b : Nat) : State := s.sticky oidConvSticky b (oidConvCnt b)
/-- PD5 is powered (R281). -/
def State.pd5 (s : State) : Bool := bit (s.ob oidPwrDomains) 5

/-! ### Domain assignment -/

/-- A domain code may be named: its rate is not OFF (R257). -/
def State.domUsable (s : State) (d : Nat) : Bool := decide (d < 3) && decide (s.domHz d ≠ 0)

/-- A write of PORT_DOMAIN, NET_RX_DOMAIN or NET_TX_DOMAIN (R257): in force from the next grain boundary. -/
def wrDomain (oid : Nat) (v : Word) (s : State) : Wr :=
  if s.domUsable v.toNat then .ok (s.put oid v) else .error stRange

/-- DOMAIN_ASSIGN_WRITE: kind 0 a port, 1 a receive stream, 2 a transmit stream (R257). -/
def execDomainAssignWrite (acc : Access) (kind : Fin 3) (n : Fin 128) (v : Word) (s : State) : Out :=
  let oid := if kind.val = 0 then oidPortDomain n else if kind.val = 1 then oidNetRxDomain n else oidNetTxDomain n
  .next (s.writeCmd acc oid v (fun _ u => wrDomain oid v u))

/-! ### Bridges -/

/-- The state of a group: 0 OFF, 1 ACQUIRE, 2 LOCKED, 3 UNLOCKED, 4 RESYNC (R285). -/
def State.brg (s : State) (g : Nat) : Nat := fld (s.ob (oidBrgGrpStatus g)) 2 0
/-- The fade of a group's outputs; zero until the group first locks. -/
def State.grpFade (s : State) (g : Nat) : Fade := mapGet (fun _ => { dir := 2 }) s.conv.grpFade g
/-- Replace the fade of a group. At zero, and from the start of a fade in, the group's outputs follow BRG_GRP_CFG (R268). -/
def State.setGrpFade (s : State) (g : Nat) (f : Fade) : State :=
  let o := if f.dir = 1 then s.conv.outCfg else mapDel g s.conv.outCfg
  { s with conv := { s.conv with grpFade := mapSet (fun _ => { dir := 2 }) s.conv.grpFade g f, outCfg := o } }
/-- The configuration that a group's samples follow: the old one until the fade after a change of DIR or FAR ends (R268). -/
def State.brgCfg (s : State) (g : Nat) : Word :=
  (mapGet (fun _ => none) s.conv.outCfg g).getD (s.ob (oidBrgGrpCfg g))
/-- The far domain that a configuration names: 1 B, 2 C (R285). -/
def farDomOf (cfg : Word) : Nat := if bit cfg 2 then 2 else 1
/-- The far domain of a group. -/
def State.brgFarDom (s : State) (g : Nat) : Nat := farDomOf (s.ob (oidBrgGrpCfg g))
/-- The nominal ratio of a group, far rate over domain A rate, Q4.28 (R264, R282). -/
def State.nominalRatio (s : State) (g : Nat) : Word := wdI (rneDiv (s.domHz (s.brgFarDom g) * 2 ^ 28 : Nat) s.fsA)
/-- A group takes a state: BRG_GRP_DELAY reads zero unless it is LOCKED, ACQ_SLOW is clear on entry, UNSUPPORTED belongs
to UNLOCKED; the tracker starts from the nominal ratio (R264, R268, R282, R285). -/
def State.setBrg (s : State) (g st : Nat) : State :=
  let s := (s.putFld (oidBrgGrpStatus g) 2 0 st).putFld (oidBrgGrpStatus g) 4 4 0
  let s := if st = 3 then s else s.putFld (oidBrgGrpStatus g) 3 3 0
  let s := if st = 2 then s else s.put (oidBrgGrpDelay g) 0
  if st = 1 then
    let s := s.put (oidBrgGrpRatio g) (s.nominalRatio g)
    { s with conv := { s.conv with lockCnt := mapSet (fun _ => 0) s.conv.lockCnt g 0 } }
  else s
/-- The rate pair qualifies: a ratio from 1:4 to 4:1 (R263). -/
def State.brgQualifies (s : State) (g : Nat) : Bool :=
  let a := s.fsA
  let f := s.domHz (s.brgFarDom g)
  decide (f * 4 ≥ a ∧ a * 4 ≥ f)
/-- The rate that DOM_RATE_A names is in force: no change of it waits for the engine's stop (R27, R269). -/
def State.rateSettled (s : State) : Bool := decide (s.obn oidDomRateA = s.conv.rateA)

/-- An enabled group starts (R268). -/
def State.startBrg (s : State) (g : Nat) : State :=
  if s.domHz (s.brgFarDom g) = 0 ∨ !s.rateSettled then s.setBrg g 3
  else if s.brgQualifies g then s.setBrg g 1
  else (s.setBrg g 3).putFld (oidBrgGrpStatus g) 3 3 1
/-- An UNLOCKED group with a qualifying pair and a running far domain acquires, at the rates in force (R268, R269). -/
def State.reacquire (s : State) (g : Nat) : State :=
  if s.brg g = 3 ∧ s.domHz (s.brgFarDom g) ≠ 0 ∧ s.rateSettled then
    (if s.brgQualifies g then s.setBrg g 1 else s.putFld (oidBrgGrpStatus g) 3 3 1)
  else s
/-- A group goes to UNLOCKED: 0 RATIO, 1 FAR_RATE, 2 FAR_OFF, 3 RATE_A (R256, R268, R287). -/
def State.unlockBrg (s : State) (g cause : Nat) : State :=
  let st := s.brg g
  if st = 0 ∨ st = 3 then s
  else
    let s := (s.setBrg g 3).setGrpFade g (s.grpFade g).out
    if st = 2 then (s.convFlag 0).raise 6 1 [(1, g), (1, cause)] else s
/-- Every group whose far domain is `d` goes to UNLOCKED. -/
def State.unlockFar (s : State) (d cause : Nat) : State :=
  forUpTo 16 (fun g t => if t.brgFarDom g = d then t.unlockBrg g cause else t) s

/-- τ of a group in ns (R266). -/
def State.brgDelay (s : State) (g : Nat) : Nat :=
  let a := s.fsA
  let f := s.domHz (s.brgFarDom g)
  let lo := min a f
  let out := if bit (s.ob (oidBrgGrpCfg g)) 1 then f else a
  (rneDiv ((72 * out + 3 * lo) * 1000000000 : Nat) (lo * out : Nat)).toNat

/-- A channel of the block. -/
def State.brgCh (s : State) (c : Nat) : BrgCh := mapGet (fun _ => {}) s.conv.chs c
/-- Replace a channel. -/
def State.setBrgCh (s : State) (c : Nat) (x : BrgCh) : State :=
  { s with conv := { s.conv with chs := mapSet (fun _ => {}) s.conv.chs c x } }

/-- An end is of the right kind for a direction and belongs to domain `d` (R261, R262). -/
def State.farEnd (s : State) (out : Bool) (d far : Nat) : Bool :=
  if far < 0x300 then s.domOf 0 (far / 32) = d
  else if far < 0x340 then !out && s.modDom (far - 0x300) = d
  else if 0x400 ≤ far ∧ far < 0x800 then
    match (if out then s.txStream (far - 0x400) else s.rxStream (far - 0x400)) with
    | some n => s.domOf (if out then 2 else 1) n = d
    | none => false
  else false
/-- A channel's far end is valid under the configuration that its samples follow. A slot that its port's frame does not
hold is absent (R262, R292). -/
def State.farValid (s : State) (c : Nat) : Bool :=
  let far := s.obn (oidBrgFar c)
  let cfg := s.brgCfg (c / 16)
  far = 0xFFFF || (s.farEnd (bit cfg 1) (farDomOf cfg) far && (decide (far ≥ 0x300) || s.slotPresent far))

/-- CH_INVALID of a channel (R285). -/
def State.chInvalid (s : State) (c : Nat) : Bool := bit (s.ob (oidBrgGrpStatus (c / 16))) (5 + c % 16)
/-- A channel's end is looked at (R262). -/
def State.checkFar (s : State) (c : Nat) : State :=
  let g := c / 16
  let b := 5 + c % 16
  let x := s.brgCh c
  if s.farValid c then
    if s.chInvalid c then
      (s.putFld (oidBrgGrpStatus g) b b 0).setBrgCh c { x with fade := Fade.inOver (s.obn oidBrgFadeLen) }
    else s
  else if s.chInvalid c then s
  else
    let s := (s.putFld (oidBrgGrpStatus g) b b 1).setBrgCh c { x with fade := x.fade.out }
    (s.convFlag 2).raiseOnce g 6 3 [(1, c)]
/-- The ends of every group in use are looked at. -/
def State.checkFars (s : State) : State := forUpTo 256 (fun c t => if t.brg (c / 16) = 0 then t else t.checkFar c) s

/-- A write of BRG_GRP_CFG (R268, R281, R285): the outputs fade to zero under the configuration they had. -/
def wrBrgCfg (g : Nat) (v : Word) (s : State) : Wr :=
  if s.ob (oidBrgGrpCfg g) = v then .ok s else
  let old := s.brgCfg g
  let s := (s.put (oidBrgGrpCfg g) v).setGrpFade g (s.grpFade g).out
  let out := { s with conv := { s.conv with outCfg := mapSet (fun _ => none) s.conv.outCfg g (some old) } }
  .ok (
    if !bit v 0 then
      if (s.grpFade g).dir = 1 then out.setBrg g 0 else s.setBrg g 0
    else if s.brg g = 0 then (if s.pd5 then s.startBrg g else s)
    else if (s.grpFade g).dir = 1 then out.startBrg g else s.startBrg g)
/-- BRG_GRP_CFG_WRITE (R268). -/
def execBrgGrpCfgWrite (acc : Access) (g : Fin 16) (v : Word) (s : State) : Out :=
  .next (s.writeCmd acc (oidBrgGrpCfg g) v (fun _ u => wrBrgCfg g v u))

/-- A write of BRG_FAR (R261, R262). -/
def wrBrgFar (c : Nat) (v : Word) (s : State) : Wr :=
  let out := s.brgOut c
  let fed := out && (List.range 256).any (fun k => k ≠ c && s.brgOut k && s.ob (oidBrgFar k) = v)
  if v ≠ 0xFFFF ∧ (!s.farEnd out (s.brgFarDom (c / 16)) v.toNat || fed) then .error stRange
  else .ok ((s.put (oidBrgFar c) v).checkFar c)
/-- BRG_FAR_WRITE (R262). -/
def execBrgFarWrite (acc : Access) (c : Fin 256) (v : Word) (s : State) : Out :=
  .next (s.writeCmd acc (oidBrgFar c) v (fun _ u => wrBrgFar c v u))

/-- The tracker's report for a domain A sample: the ratio and the phase sample it has reached, and how long its error has been
below 1/16 of a sample of the lower rate (R264). -/
def State.track (s : State) (r : TrackReport) : State :=
  let st := s.brg r.group
  if r.group ≥ 16 ∨ (st ≠ 1 ∧ st ≠ 2 ∧ st ≠ 4) then s
  else
    let n := if st = 1 ∧ r.err.natAbs < 2 ^ 28 then mapGet (fun _ => 0) s.conv.lockCnt r.group + 1 else 0
    let s := s.put (oidBrgGrpRatio r.group) r.ratio
    let s := { s with conv := { s.conv with phases := mapSet (fun _ => 0) s.conv.phases r.group r.phase } }
    { s with conv := { s.conv with lockCnt := mapSet (fun _ => 0) s.conv.lockCnt r.group n } }
/-- The loop bandwidth of a group's tracker in Hz, binary32: 50 Hz until it locks, then BRG_TRACK_BW (R264). -/
def State.trackBw (s : State) (g : Nat) : Word := if s.brg g = 1 then 0x42480000 else s.ob oidBrgTrackBw
/-- The phase sample that converts: a receiver or standby takes the one its active unit sends (R265, R486). -/
def State.phaseSample (s : State) (g : Nat) : Word :=
  if s.isStandby then nth 0 s.twin.phases g else mapGet (fun _ => 0) s.conv.phases g
/-- BRG_PHASE of a beacon: the phase samples of the LOCKED groups (R479). -/
def State.beaconPhases (s : State) : List Word :=
  (List.range 16).map (fun g => if s.brg g = 2 then mapGet (fun _ => 0) s.conv.phases g else 0)
/-- The ratio lies within ±2,000 ppm of the nominal (R263). -/
def State.ratioNear (s : State) (g : Nat) : Bool :=
  let n := (s.nominalRatio g).toNat
  let r := s.obn (oidBrgGrpRatio g)
  decide ((max n r - min n r) * 500 ≤ n)

/-- BRG_LOCK: the error of an acquiring group has been below the limit for 50 ms (R264, R266, R268, R287). -/
def execBrgLock (g : Fin 16) (s : State) : Out :=
  .next (
    if s.brg g = 1 ∧ mapGet (fun _ => 0) s.conv.lockCnt g * 20 ≥ s.fsA then
      let s := s.setBrg g 2
      let s := s.putn (oidBrgGrpDelay g) (s.brgDelay g)
      (s.setGrpFade g (Fade.inOver (s.obn oidBrgFadeLen))).raise 6 0 [(1, g), (4, s.brgDelay g)]
    else s)
/-- BRG_ACQ_TIMEOUT: no lock within 2 s (R268). -/
def execBrgAcqTimeout (g : Fin 16) (s : State) : Out :=
  .next (if s.brg g = 1 then (s.putFld (oidBrgGrpStatus g) 4 4 1).convFlag 3 else s)
/-- BRG_RATIO_OUT: the tracked ratio leaves the range of R263 (R268). -/
def execBrgRatioOut (g : Fin 16) (s : State) : Out := .next (if s.brg g = 2 ∧ !s.ratioNear g then s.unlockBrg g 0 else s)
/-- BRG_POSITION_SLIP: the input position departs by more than four samples (R268). -/
def execBrgPositionSlip (g : Fin 16) (s : State) : Out :=
  .next (if s.brg g = 2 then ((s.setBrg g 4).setGrpFade g (s.grpFade g).out).convFlag 1 else s)
/-- BRG_RECENTRED: the position has been re-centred (R268, R287). -/
def execBrgRecentred (g : Fin 16) (s : State) : Out :=
  .next (
    if s.brg g = 4 then
      let s := s.setBrg g 2
      let s := s.putn (oidBrgGrpDelay g) (s.brgDelay g)
      (s.setGrpFade g (Fade.inOver (s.obn oidBrgFadeLen))).raise 6 2 [(1, g)]
    else s)

/-- The age of a group's newest input at the output instant, in units of 2^−32 of an input sample (R265). The phase sample
gives how much of a far sample had passed at the domain A boundary. -/
def State.inputAge (s : State) (g : Nat) : Nat :=
  let frac := (Config.phaseFraction (s.phaseSample g)).toNat
  let cfg := s.brgCfg g
  if bit cfg 1 then
    (mapGet (fun _ => 0) s.conv.farCnt (farDomOf cfg) * 2 ^ 32 - frac) * 2 ^ 28 / s.obn (oidBrgGrpRatio g)
  else frac

/-- The coefficient for a place on the filter, in units of 2^−32 of a sample of the lower rate: 128 taps of 2^20 phases, with
linear interpolation between adjacent phases, Q1.31 (R265). -/
def bridgeCoef (fin lo : Nat) (place : Nat) : Int :=
  let tap := place / 2 ^ 32
  let phase := place / 2 ^ 12 % 2 ^ 20
  let rest : Int := (place % 2 ^ 12 : Nat)
  let c (p : Nat) : Int := (Config.bridgeTap fin lo tap p).toInt
  rneShift (c phase * (2 ^ 12 - rest) + c (phase + 1) * rest) 12

/-- A channel's converter output (R265, R266): the filter begins 8 samples of the lower rate after the newest instant and is
symmetric about 64 more; a 64-bit accumulator, one rounding to Q1.31, saturation. -/
def convert (fin lo age : Nat) (hist : List Word) : Word :=
  let acc := hist.zipIdx.foldl (fun (a : BitVec 64) (x, i) =>
    let u := (i * 2 ^ 32 + age) * lo / fin
    if u < 8 * 2 ^ 32 ∨ u ≥ 136 * 2 ^ 32 then a
    else a + BitVec.ofInt 64 (x.toInt * bridgeCoef fin lo (u - 8 * 2 ^ 32))) 0
  wdI (satInt 32 (rneShift acc.toInt 31))

/-- The sample a channel puts out at a boundary of its output domain, and the channel after it: the converter, three output
samples of handover (R266), then the channel's fade and the group's (R268). -/
def State.brgOutput (s : State) (c : Nat) : Word × State :=
  let x := s.brgCh c
  let grp := c / 16
  let g := s.grpFade grp
  let cfg := s.brgCfg grp
  let far := s.domHz (farDomOf cfg)
  let fin := if bit cfg 1 then s.fsA else far
  let y := convert fin (min s.fsA far) (s.inputAge grp) x.hist
  let v := if s.obn (oidBrgFar c) = 0xFFFF ∧ !bit cfg 1 then 0 else g.apply (x.fade.apply (nth 0 x.pipe 2))
  (v, s.setBrgCh c { x with pipe := (y :: x.pipe).take 3, fade := x.fade.step })
/-- A channel takes an input sample. -/
def State.brgInput (s : State) (c : Nat) (v : Word) : State :=
  let x := s.brgCh c
  s.setBrgCh c { x with hist := (v :: x.hist).take 552 }

/-! ### Decimation chains -/

/-- Chain `i`: 0–63 modulator, 64–79 analysis. -/
def State.chain (s : State) (i : Nat) : Chain := mapGet (fun _ => {}) s.conv.chains i
/-- Replace chain `i`; MOD_STATUS shows its state (R282). -/
def State.setChain (s : State) (i : Nat) (c : Chain) : State :=
  let s := { s with conv := { s.conv with chains := mapSet (fun _ => {}) s.conv.chains i c } }
  if i < 64 then s.putn (oidModStatus i) c.st else s
/-- The configuration word of a chain. -/
def State.chainCfg (s : State) (i : Nat) : Word := if i < 64 then s.ob (oidModCfg i) else s.ob (oidAcCfg (i - 64))
/-- The domain of a chain; analysis chains work in domain A (R257). -/
def State.chainDom (s : State) (i : Nat) : Nat := if i < 64 then s.modDom i else 0
/-- OSR of a modulator clock configuration (R283). -/
def osrOf (clk : Word) : Nat := 64 * 2 ^ fld clk 4 3
/-- S and K of a ROM entry (R272). -/
def romS (resp : Nat) : Nat := nth 0 [0, 2, 2, 2, 3, 3, 1, 1] resp
def romK (resp : Nat) : Nat := nth 0 [10, 48, 72, 48, 52, 52, 32, 56] resp
/-- R of a chain: OSR / 2^S, or 2^LOG2R (R273, R278). -/
def State.chainR (s : State) (i : Nat) : Nat :=
  let cfg := s.chainCfg i
  if i < 64 then osrOf (s.ob (oidModclkCfg (fld cfg 2 1))) / 2 ^ romS (fld cfg 9 7) else 2 ^ fld cfg 14 11
/-- R of a modulator chain lies within 16–256 (R273). -/
def modRBad (cfg clk : Word) : Bool :=
  let r := osrOf clk / 2 ^ romS (fld cfg 9 7)
  decide (r < 16 ∨ r > 256)

/-- A reset of chains is requested (R275). -/
def State.requestSync (s : State) (src modMask acMask : Nat) (chains : List Nat) : State :=
  let l := chains.filter (fun i => (s.chain i).st ≠ 3)
  if s.isStandby ∧ (src = 1 ∨ src = 3) then s
  else { s with conv := { s.conv with reqs := s.conv.reqs ++ [⟨src, modMask, acMask, l⟩] } }
/-- The chains in use that masks select: a bit per modulator clock group and per analysis chain (R275, R282). -/
def State.maskChains (s : State) (modMask acMask : Nat) : List Nat :=
  (List.range 80).filter (fun i =>
    decide ((s.chain i).st ≠ 0) &&
    (if i < 64 then modMask / 2 ^ fld (s.ob (oidModCfg i)) 2 1 % 2 = 1 else acMask / 2 ^ (i - 64) % 2 = 1))

/-- A chain is in use: it waits for its reset (R275, R281). -/
def State.enableChain (s : State) (i : Nat) : State :=
  let s := s.setChain i { s.chain i with st := if (s.chain i).st = 3 then 3 else 1 }
  s.requestSync 0 (if i < 64 then 2 ^ fld (s.chainCfg i) 2 1 else 0) (if i < 64 then 0 else 2 ^ (i - 64)) [i]

/-- What a write of a chain's configuration does (R275, R281, R284). -/
def State.chainWritten (s : State) (i : Nat) (v : Word) : State :=
  if !bit v 0 then s.setChain i {} else if s.pd5 then s.enableChain i else s

/-- A write of MOD_CFG (R273, R284). -/
def wrModCfg (n : Nat) (v : Word) (s : State) : Wr :=
  if fld v 5 3 = 0 ∨ fld v 5 3 > 5 ∨ fld v 14 11 ≠ 0 then .error stRange
  else if bit v 0 ∧ modRBad v (s.ob (oidModclkCfg (fld v 2 1))) then .error stRange
  else .ok ((s.put (oidModCfg n) v).chainWritten n v)
/-- MOD_CFG_WRITE (R284). -/
def execModCfgWrite (acc : Access) (n : Fin 64) (v : Word) (s : State) : Out :=
  .next (s.writeCmd acc (oidModCfg n) v (fun _ u => wrModCfg n v u))

/-- A write of MODCLK_CFG (R257, R273, R283): the domain is in force from the next grain boundary. -/
def wrModclkCfg (k : Nat) (v : Word) (s : State) : Wr :=
  let hit := (List.range 64).any (fun n =>
    let c := s.ob (oidModCfg n)
    bit c 0 && fld c 2 1 = k && modRBad c v)
  if fld v 2 1 = 3 ∨ fld v 4 3 = 3 ∨ fld v 15 6 < 8 ∨ !s.domUsable (fld v 2 1) ∨ hit then .error stRange
  else .ok (s.put (oidModclkCfg k) v)
/-- MODCLK_CFG_WRITE (R283). -/
def execModclkCfgWrite (acc : Access) (k : Fin 4) (v : Word) (s : State) : Out :=
  .next (s.writeCmd acc (oidModclkCfg k) v (fun _ u => wrModclkCfg k v u))

/-- A write of AC_CFG (R278, R284). -/
def wrAcCfg (a : Nat) (v : Word) (s : State) : Wr :=
  if fld v 2 1 ≠ 0 ∨ fld v 5 3 = 0 ∨ fld v 5 3 > 5 ∨ (bit v 0 ∧ (fld v 14 11 < 4 ∨ fld v 14 11 > 8)) then .error stRange
  else .ok ((s.put (oidAcCfg a) v).chainWritten (64 + a) v)
/-- AC_CFG_WRITE (R278, R284). -/
def execAcCfgWrite (acc : Access) (a : Fin 16) (v : Word) (s : State) : Out :=
  .next (s.writeCmd acc (oidAcCfg a) v (fun _ u => wrAcCfg a v u))
/-- A write of AC_SRC: a source of domain A that exists (R278). -/
def wrAcSrc (a : Nat) (v : Word) (s : State) : Wr :=
  let n := v.toNat
  if sourceExists n && s.srcLegal n && !(decide (0x300 ≤ n ∧ n < 0x340) && decide (s.modDom (n - 0x300) ≠ 0)) then .ok (s.put (oidAcSrc a) v) else .error stRange
/-- A write of METER_PROFILE (R282). -/
def wrMeterProfile (k : Nat) (v : Word) (s : State) : Wr :=
  if fld v 2 0 = 0 ∨ fld v 2 0 > 5 ∨ fld v 6 3 < 4 ∨ fld v 6 3 > 8 then .error stRange
  else .ok (s.put (oidMeterProfile k) v)
/-- A write of DEC_SYNC_CFG (R286). -/
def wrDecSyncCfg (v : Word) (s : State) : Wr :=
  if fld v 21 20 = 3 then .error stRange else .ok (s.put oidDecSyncCfg v)

/-- DEC_SYNC_PIN: an edge whose new level was held `held` ecyc; 64 qualify it (R275). -/
def execDecSyncPin (rising : Bool) (held : Nat) (s : State) : Out :=
  let c := s.ob oidDecSyncCfg
  let edge := fld c 21 20 = 2 || (fld c 21 20 = 1) == rising
  .next (
    if !(edge && decide (held ≥ 64)) || !bit c 22 then s
    else if fld c 19 0 = 0 then s.convFlag 6
    else s.requestSync 1 (fld c 3 0) (fld c 19 4) (s.maskChains (fld c 3 0) (fld c 19 4)))

/-- A write of DEC_SYNC_CMD (R275, R282). -/
def wrDecSyncCmd (v : Word) (s : State) : Wr :=
  .ok (if fld v 19 0 = 0 then s else s.requestSync 2 (fld v 3 0) (fld v 19 4) (s.maskChains (fld v 3 0) (fld v 19 4)))
/-- DEC_SYNC_CMD (R275). -/
def execDecSyncCmd (acc : Access) (v : Word) (s : State) : Out :=
  .next (s.writeCmd acc oidDecSyncCmd v (fun _ u => wrDecSyncCmd v u))

/-- A chain clears at this boundary: registers, phase and counts (R275). -/
def State.resetChain (s : State) (i : Nat) : State :=
  let n := fld (s.chainCfg i) 5 3
  let m := if bit (s.chainCfg i) 6 then 2 else 1
  let c := s.chain i
  let s := s.setChain i { st := 1, integ := List.replicate n 0, comb := List.replicate n (List.replicate m 0), fresh := true, counts := if c.st = 3 then [] else c.counts, silent := if c.st = 3 then 0 else c.silent }
  if i < 64 then s else s.put (oidAcWidx (i - 64)) 0

/-- SYNC_RESET_APPLY: the requested chains of a domain reset at its sample boundary; DEC_SYNC_DONE is raised when every
chain of a request has (R275, R287). -/
def execSyncResetApply (dom : Dom) (s : State) : Out :=
  let d := match dom with | .a => 0 | .b => 1 | .c => 2
  .next (
    let rs := s.conv.reqs
    let s := { s with conv := { s.conv with reqs := [] } }
    rs.foldl (fun (t : State) (r : SyncReq) =>
      let now := r.left.filter (fun i => t.chainDom i = d)
      let t := now.foldl (fun u i => if (u.chain i).st = 0 ∨ (u.chain i).st = 3 then u else u.resetChain i) t
      let rest := r.left.filter (fun i => t.chainDom i ≠ d)
      let t := if now.isEmpty then t else t.mirror (.place (.reset r.modMask r.acMask) t.gn t.mix.pos)
      if rest.isEmpty then t.raiseFull none (wd t.dtSec) (wd t.dtNs) 6 7 [(1, r.src), (1, r.modMask), (2, r.acMask)]
      else { t with conv := { t.conv with reqs := t.conv.reqs ++ [{ r with left := rest }] } }) s)

/-- A chain goes to FAULT: the last output that it delivered is held and fades to zero (R276, R277). -/
def State.chainFault (s : State) (i : Nat) : State :=
  let c := s.chain i
  if c.st = 3 then s else
  let held := if c.st = 1 ∧ bit (s.chainCfg i) 10 then 0 else c.cur
  let s := s.setChain i { c with st := 3, stable := 0, cur := held, fade := { dir := 1 } }
  (s.convFlag 4).raise 6 4 [(1, fld (s.chainCfg i) 2 1), (1, i)]

/-- MOD_REENTRY: the count has been within ±2 of OSR for REENTRY samples; the faulted chain resets (R275, R277). -/
def execModReentry (n : Fin 64) (s : State) : Out :=
  let c := s.chain n
  let k := fld (s.chainCfg n) 2 1
  .next (
    if c.st = 3 ∧ c.stable ≥ fld (s.ob (oidModclkCfg k)) 15 6 then
      (s.resetChain n).raiseFull none (wd s.dtSec) (wd s.dtNs) 6 7 [(1, 4), (1, 2 ^ k), (2, 0)]
    else s)

/-- The integrators of a chain after one input, modulo 2^80 (R271). -/
def integrate : List Acc → Acc → List Acc
  | [], _ => []
  | a :: r, x => (a + x) :: integrate r (a + x)
/-- The combs of a chain after one decimated value: the value that leaves and the registers (R271). -/
def combs : List (List Acc) → Acc → Acc × List (List Acc)
  | [], x => (x, [])
  | l :: r, x =>
    let y := x - l.getLastD 0
    let (z, r') := combs r y
    (z, (x :: l.dropLast) :: r')

/-- A normalised output `y / scale` divided by MODI, rounded RNE to Q1.31 and saturated (R273). -/
def chainWord (y : Int) (scale : Nat) (modi : Word) : Word :=
  -- y / scale / MODI × 2^31 with MODI = Num / 2^149
  wdI (satInt 32 (rneDiv (y * 2 ^ 31 * 2 ^ 149) ((scale : Int) * f32Num modi)))

/-- The lengths less one of the stages of a response: the linear ones have the group delay of R272, and every one settles
within K outputs (R276). -/
def compLens (resp : Nat) : List Nat :=
  nth [] [[], [48, 50], [52, 100], [62, 60], [40, 36, 50], [46, 60, 60], [50], [98]] resp
/-- The coefficients of a stage in units of 2^−30: they sum to exactly 1 (R271), and a linear response is symmetric (R272). -/
def compTaps (resp n m stage len : Nat) : List Int :=
  let c (k : Nat) : Int := Config.compTap resp n m stage k
  if resp = 3 ∨ resp = 5 then
    let l := (List.range len).map c
    l ++ [2 ^ 30 - l.foldl (· + ·) 0]
  else
    let l := (List.range (len / 2)).map c
    l ++ [2 ^ 30 - 2 * l.foldl (· + ·) 0] ++ l.reverse
/-- The inputs that decimate-by-two stages need for one output. -/
def compNeed : List Nat → Nat
  | [] => 1
  | l :: r => 2 * (compNeed r - 1) + l + 1
/-- The stages of a response from stage `j` on, each decimating by two; values newest first (R271). -/
def compRun (resp n m : Nat) : Nat → List Nat → List Int → List Int
  | _, [], x => x
  | j, l :: r, x =>
    let taps := compTaps resp n m j l
    compRun resp n m (j + 1) r ((List.range (compNeed r)).map (fun i =>
      (taps.zip (x.drop (2 * i))).foldl (fun a p => a + p.1 * p.2) 0))
/-- A response on the stage outputs, newest first, in units of 2^(−30·S); stage outputs before the reset count as zero
(R271, R275). -/
def compensator (resp n m : Nat) (stages : List Int) : Int := (compRun resp n m 0 (compLens resp) stages).headD 0

/-- One input of a chain: a bit or a sample (R271, R272). `one` is the gain of an input of full scale. -/
def Chain.input (c : Chain) (r n m resp : Nat) (modi : Word) (one : Nat) (x : Int) : Chain :=
  let integ := integrate c.integ (BitVec.ofInt 80 x)
  if c.ph + 1 < r then { c with integ := integ, ph := c.ph + 1 }
  else
    let (y, comb) := combs c.comb (integ.getLastD 0)
    let stages := (y.toInt :: c.stages).take 512
    let c := { c with integ := integ, comb := comb, ph := 0, stages := stages, nst := c.nst + 1 }
    if c.nst % 2 ^ romS resp = 0 then
      { c with cur := chainWord (compensator resp n m stages) ((r * m) ^ n * one * 2 ^ (30 * romS resp)) modi }
    else c

/-- The output count of a chain goes on: SETTLED from output K (R276). -/
def Chain.deliver (c : Chain) (k : Nat) : Chain :=
  { c with st := if c.st = 1 ∧ c.outs ≥ k then 2 else c.st, outs := c.outs + 1, fresh := false }

/-- A modulator chain at a boundary of its domain: the bits of the period that ends and the count of its clock's edges
(R270–R277). Answers the sample delivered. -/
def State.modSample (s : State) (i : Nat) (edges : Nat) (bits : List (Bool × Bool)) : Word × State :=
  let c := s.chain i
  let cfg := s.chainCfg i
  let clk := s.ob (oidModclkCfg (fld cfg 2 1))
  let osr := osrOf clk
  -- a group that is not in use has no clock; EDGE selects the sample of the rising or the falling edge (R270, R283)
  let edges := if bit clk 0 then edges else 0
  let bits := if bit clk 0 then bits.map (fun b => if bit clk 5 then b.2 else b.1) else []
  let k := romK (fld cfg 9 7)
  if c.st = 0 then (0, s)
  else
    let c := if c.fresh ∧ c.counts.isEmpty then c else
      { c with
        counts := (edges :: c.counts).take 64
        silent := if edges = 0 then c.silent + 1 else 0 }
    let c := if c.fresh then c else
      { c with
        dep := c.dep + edges - osr
        stable := if decide (edges + 2 < osr ∨ edges > osr + 2) then 0 else c.stable + 1 }
    let sum := c.counts.foldl (· + ·) 0
    let off := max (sum - 64 * osr) (64 * osr - sum)
    let bad := decide (c.silent ≥ 2) || (c.counts.length = 64 && decide (off * 100 > 64 * osr))
    let s := s.setChain i c
    if c.st = 3 then
      let v := c.fade.apply c.cur
      (v, s.setChain i { c with fade := c.fade.step })
    else if bad then
      let s := s.chainFault i
      let c := s.chain i
      (c.fade.apply c.cur, s.setChain i { c with fade := c.fade.step })
    else
      let slip := decide (c.dep > 2 ∨ c.dep < -2)
      let c' := if c.fresh then c else
        bits.foldl (fun (a : Chain) b =>
          a.input (s.chainR i) (fld cfg 5 3) (if bit cfg 6 then 2 else 1) (fld cfg 9 7) (s.ob (oidModModi i)) 1 (if b then 1 else -1)) c
      let d := c'.deliver k
      let s := s.setChain i (if slip then { d with dep := 0 } else d)
      let s := if c.st = 1 ∧ d.st = 2 then { s with conv := { s.conv with settled := s.conv.settled + 1 } } else s
      let s := if slip then
          ((s.convFlag 5).raise 6 5 [(1, i)]).requestSync 4 (2 ^ fld cfg 2 1) 0 [i] else s
      let v := if d.st = 1 ∧ bit cfg 10 then 0 else d.cur
      (v, s)

/-- What a meter object reads while nothing is measured: −128 dB (R280). -/
def meterNone : Word := 0x80000000
/-- Write a meter object. -/
def State.putMeter (s : State) (oid : Nat) (v : Word) : State :=
  { s with conv := { s.conv with meters := mapSet (fun _ => meterNone) s.conv.meters oid v } }

/-- An analysis chain at a boundary of domain A with the sample of its source: outputs fall where the count of samples
since its reset is a multiple of R × 2^S (R276, R278). -/
def State.acSample (s : State) (a : Nat) (x : Word) : State :=
  let i := 64 + a
  let c := s.chain i
  let cfg := s.chainCfg i
  let resp := fld cfg 9 7
  if c.st = 0 ∨ (c.outs = 0 ∧ !c.fresh) then s
  else
    let r := s.chainR i
    let d := if c.fresh then c
      else c.input r (fld cfg 5 3) (if bit cfg 6 then 2 else 1) resp f32One (2 ^ 31) x.toInt
    let due := c.fresh || (d.ph = 0 && decide (d.nst % 2 ^ romS resp = 0))
    if !due then s.setChain i d
    else
      let e := d.deliver (romK resp)
      let w := s.ob (oidAcWidx a)
      let v := if e.st = 1 ∧ bit cfg 10 then 0 else e.cur
      ((s.setChain i e).putMeter (0x13C000 + 0x400 * a + w.toNat % 1024) v).put (oidAcWidx a) (w + 1)

/-! ### Meters (R279, R280) -/

/-- The profile of a meter point, by the OID of its PEAK. -/
def meterProfile (oid : Nat) : Nat :=
  if oid < 0x102000 then 0 else if oid < 0x102800 then 1 else if oid < 0x110000 then 2 else 3
/-- A meter point takes one more sample of the grain. -/
def State.meterSample (s : State) (oid : Nat) (v : Word) : State :=
  if v = 0 then s else
  let (p, q) := mapGet (fun _ => (0, 0)) s.conv.macc oid
  let a := v.toInt.natAbs
  { s with conv := { s.conv with macc := mapSet (fun _ => (0, 0)) s.conv.macc oid (max p a, q + a * a) } }
/-- The grain ends: each point keeps its largest magnitude and its sum of squares. -/
def State.meterGrain (s : State) : State :=
  let m := s.conv.macc
  let keys := (m.map (·.1) ++ (s.conv.mhist.map (·.1)).filter (fun k => (mapGet (fun _ => (0, 0)) m k) = (0, 0)))
  let h := keys.foldl (fun h k =>
    let l := (mapGet (fun _ => (0, 0)) m k :: mapGet (fun _ => []) h k).take 1280
    mapSet (fun _ => []) h k (if l.all (· = (0, 0)) then [] else l)) s.conv.mhist
  { s with conv := { s.conv with mhist := h, macc := [] } }
/-- The N-stage moving average of length `r` of sums of squares, newest first, as a sum over `r^N`. -/
def movingSum (r : Nat) : Nat → List Nat → List Nat
  | 0, l => l
  | n + 1, l => (List.range (l.length)).map (fun i => (((movingSum r n l).drop i).take r).foldl (· + ·) 0)
/-- The averages of the tiles' points restart from zero (R279). -/
def State.meterRestart (s : State) : State :=
  { s with conv := { s.conv with mhist := s.conv.mhist.filter (fun e => e.1 ≥ 0x110000) } }

/-- A mean square `n / d` of full scale as a meter reads (R279): 10·log10 in dB/128 as Q1.31, RNE (R596); −128 dB and less
read 0x8000_0000. -/
def meterWord (n d : Nat) : Word :=
  if n = 0 then meterNone
  else wdI (satInt 32 (rneShift (fxDiv (10 * fxLnRat n d) (128 * fxLn10)) 65))

/-- METER_WINDOW_END: where GN mod R is 0, PEAK and RMS of the points of a profile are written, with the gain reductions
the tiles report (R279, R280). -/
def execMeterWindowEnd (k : Fin 4) (gr : List (Nat × Word)) (s : State) : Out :=
  let c := s.ob (oidMeterProfile k)
  let r := 2 ^ fld c 6 3
  let n := fld c 2 0
  .next (
    if s.gn.toNat % r ≠ 0 then s
    else
      let s := s.conv.mhist.foldl (fun t e =>
        if meterProfile e.1 ≠ k.val then t
        else
          let peak := (e.2.take r).foldl (fun a p => max a p.1) 0
          let sq := (movingSum r n ((e.2.take (n * r)).map (·.2))).headD 0
          (t.putMeter e.1 (meterWord (peak * peak) (2 ^ 62))).putMeter (e.1 + 1)
            (meterWord sq (r ^ n * s.gsize * 2 ^ 62))) s
      gr.foldl (fun t e => if meterProfile e.1 = k.val then t.putMeter e.1 e.2 else t) s)

/-! ### PD5 (R281) -/

/-- Every enabled bridge group and chain that is not in use starts. -/
def State.convStart (s : State) : State :=
  let s := forUpTo 16 (fun g t => if bit (t.ob (oidBrgGrpCfg g)) 0 ∧ t.brg g = 0 then t.startBrg g else t) s
  forUpTo 80 (fun i t => if bit (t.chainCfg i) 0 ∧ (t.chain i).st = 0 then t.enableChain i else t) s
/-- PD5 is powered: its items start (R281, R557). -/
def State.pd5On (s : State) : State :=
  if s.pd5 then s.convStart
  else
    let s := s.putFld oidPwrDomains 5 5 1
    (s.raise 14 5 [(4, s.obn oidPwrDomains)]).convStart
/-- A bridge group or a chain is enabled, or a session holds meter reads enabled (R34, R281). -/
def State.wantsPd5 (s : State) : Bool :=
  (List.range 16).any (fun g => bit (s.ob (oidBrgGrpCfg g)) 0) || (List.range 80).any (fun i => bit (s.chainCfg i) 0) ||
  s.sess.any (fun e => decide (e.2.st ≠ 0) && e.2.meters)
/-- The firmware switches domains: from the restore step of Eclosion on, and in RUN (R537, R548). -/
def State.switches (s : State) : Bool :=
  decide (s.obn oidPwrState = 3) || (decide (s.obn oidPwrState = 2) && decide (s.pwr.stage ≥ 5))
/-- PD5_READY: PD5 has powered up for what is in use, and what waits for it starts (R281). -/
def execPd5Ready (s : State) : Out := .next (if s.switches ∧ s.wantsPd5 then s.pd5On else s)

end Sys2Proof.Machine
end

