-- ==== Sys2Proof/Machine/Port.lean ====
section
/-!
DEFINITION. The TDM ports: frames, the port state machine, zero-crossing start and stop, starvation and substitution,
alignment groups, share groups (R288–R315).
-/

namespace Sys2Proof.Machine

/-- PORT_STATE and PORT_CAUSE codes (R310). -/
def pOff : Nat := 0
def pSeek : Nat := 1
def pEnter : Nat := 2
def pRun : Nat := 3
def pResync : Nat := 4
def pStarved : Nat := 5
def pStopping : Nat := 6
def caClock : Nat := 1
def caRate : Nat := 2
def caPhase : Nat := 3
def caFraming : Nat := 4
def caDomain : Nat := 5

/-- Port `p`. -/
def State.port (s : State) (p : Nat) : Port := mapGet (fun _ => {}) s.ports p
/-- Replace port `p`. -/
def State.setPort (s : State) (p : Nat) (x : Port) : State := { s with ports := mapSet (fun _ => {}) s.ports p x }
/-- The state of a port. -/
def State.pst (s : State) (p : Nat) : Nat := s.obn (oidPortState p)
/-- A port takes a state. -/
def State.setPst (s : State) (p st : Nat) : State := s.putn (oidPortState p) st
/-- A PORT_STICKY flag with its counter (R313). -/
def State.portFlag (s : State) (p b : Nat) : State := s.sticky (oidPortSticky p) b (oidPortCnt p b)

/-- The preset that FORMAT selects (R312). -/
def timingPreset (frame : Word) : Word := nth 1 [0x01, 0x00, 0x41, 0xC0] (fld frame 14 12)
/-- PORT_TIMING as it reads: the preset while PORT_TIMING_SRC is BASIC (R310, R312). -/
def State.readPortTiming (s : State) (p : Nat) : Word :=
  if s.psWordAt (oidPortTimingSrc p) s.gn = 0 then timingPreset (s.ob (oidPortFrame p)) else s.ob (oidPortTiming p)
/-- OFFSET of a timing word (R312). -/
def offsetOf (t : Word) : Nat := fld t 5 0
/-- A port is shared (R307). -/
def State.portShared (s : State) (p : Nat) : Bool := decide (s.obn (oidPortTxShare p) ≠ 0xFF)
/-- SLOTS, slot width and data width of a port (R311). -/
def State.slotsOf (s : State) (p : Nat) : Nat := fld (s.ob (oidPortFrame p)) 5 0
def widthOf (code : Nat) : Nat := nth 16 [16, 20, 24, 32] code
def State.slotWidth (s : State) (p : Nat) : Nat := widthOf (fld (s.ob (oidPortFrame p)) 7 6)
def State.dataWidth (s : State) (p : Nat) : Nat := widthOf (fld (s.ob (oidPortFrame p)) 9 8)
def State.rxEn (s : State) (p : Nat) : Bool := bit (s.ob (oidPortFrame p)) 10
def State.txEn (s : State) (p : Nat) : Bool := bit (s.ob (oidPortFrame p)) 11
/-- The nominal rate of a port's domain. -/
def State.portHz (s : State) (p : Nat) : Nat := s.domHz (s.domOf 0 p)

/-! ### Starting and stopping (R297–R299) -/

/-- The stability count of a port starts from zero. -/
def Port.seek (x : Port) : Port :=
  { x with stable := 0, bpf0 := none, win := [], offs := 0, odds := 0, frame := none, wait := none, held := false, entry := false }

/-- This unit owns share group `k` (R307). -/
def State.ownsShare (s : State) (k : Nat) : Bool := decide (s.shares / 2 ^ k % 2 = 1)
/-- A port may drive TXD: a shared one while its unit owns the group (R307). -/
def State.mayDrive (s : State) (p : Nat) : Bool := !s.portShared p || s.ownsShare (s.obn (oidPortTxShare p))

/-- START of a port that is OFF (R299). -/
def State.startPort (s : State) (p : Nat) : State :=
  ((s.setPst p pSeek).setPort p { (s.port p).seek with
    subst := none, again := false, been := false, rx := [], tx := [], ferrs := [], timing := s.readPortTiming p
    drives := s.mayDrive p, drives0 := s.mayDrive p, line := [] }).gPort p

/-- A port reaches OFF (R298, R299, R315); a RESTART starts it again. -/
def State.portOffNow (s : State) (p : Nat) : State :=
  let again := (s.port p).again
  let s := ((s.setPst p pOff).putn (oidPortMeasRate p) 0).setPort p
    { (s.port p).seek with subst := none, again := false, rx := [], tx := [], line := [] }
  let s := (s.gPort p).raise 7 4 [(1, p)]
  if again && !(s.portShared p && offsetOf (s.readPortTiming p) = 0) then s.startPort p else s

/-- A slot begins its stop: it runs on to its zero crossing with the weight it has reached (R298). -/
def PSlot.stop (x : PSlot) : PSlot :=
  if x.st = 3 then { x with st := 4, w := 2 ^ 30 }
  else if x.st = 2 then { x with st := 4, w := if x.k = 0 then 0 else gainWeight (x.k - 1) x.len }
  else { x with st := 0 }
/-- Apply a change to every slot of a map. -/
def slotsMap (m : SMap PSlot) (f : PSlot → PSlot) : SMap PSlot :=
  m.foldl (fun a e => mapSet (fun _ => {}) a e.1 (f e.2)) m

/-- STOP of a port (R298, R299). -/
def State.stopPort (s : State) (p : Nat) (again : Bool) : State :=
  let x := { s.port p with again := (s.port p).again || again }
  let st := s.pst p
  if st = pSeek ∨ st = pStarved then (s.setPort p x).portOffNow p
  else if st = pStopping then s.setPort p x
  else
    (s.setPst p pStopping).setPort p { x with rx := slotsMap x.rx PSlot.stop, tx := slotsMap x.tx PSlot.stop, zc := 0, entry := false }

/-- A write of PORT_CTRL (R299, R307, R310). -/
def wrPortCtrl (p : Nat) (v : Word) (s : State) : Wr :=
  match fld v 1 0 with
  | 0 => .ok s
  | 1 =>
    if s.portShared p && offsetOf (s.readPortTiming p) = 0 then .error stRange
    else if s.pst p ≠ pOff then .error stNotReady
    else .ok (s.startPort p)
  | 2 => if s.pst p = pOff then .error stNotReady else .ok (s.stopPort p false)
  | _ => if s.pst p = pOff then .error stNotReady else .ok (s.stopPort p true)

/-- START (R299, R310). -/
def execStart (acc : Access) (p : Fin 24) (s : State) : Out :=
  .next (s.writeCmd acc (oidPortCtrl p) 1 (fun _ u => wrPortCtrl p 1 u))
/-- STOP (R298, R310). -/
def execStop (acc : Access) (p : Fin 24) (s : State) : Out :=
  .next (s.writeCmd acc (oidPortCtrl p) 2 (fun _ u => wrPortCtrl p 2 u))
/-- RESTART (R299, R310). -/
def execRestart (acc : Access) (p : Fin 24) (s : State) : Out :=
  .next (s.writeCmd acc (oidPortCtrl p) 3 (fun _ u => wrPortCtrl p 3 u))

/-! ### Configuration (R303, R307, R311, R312) -/

/-- A write of an object that only an OFF port accepts (R303). -/
def wrFrozen (p oid : Nat) (bad : Bool) (v : Word) (s : State) : Wr :=
  if bad then .error stRange else if s.pst p ≠ pOff then .error stNotReady else .ok (s.put oid v)
/-- A PORT_FRAME word that returns RANGE (R307, R311). -/
def State.frameBad (s : State) (p : Nat) (v : Word) : Bool :=
  decide (fld v 5 0 = 0 ∨ fld v 5 0 > 32 ∨ fld v 9 8 > fld v 7 6 ∨ fld v 14 12 > 3) ||
  (s.portShared p && decide (s.psWordAt (oidPortTimingSrc p) s.gn = 0) && decide (offsetOf (timingPreset v) = 0))
/-- A write of PORT_FRAME. -/
def wrPortFrame (p : Nat) (v : Word) (s : State) : Wr := wrFrozen p (oidPortFrame p) (s.frameBad p v) v s
/-- A write of PORT_TIMING: refused while its control source is BASIC (R196, R310, R312). -/
def wrPortTiming (p : Nat) (v : Word) (s : State) : Wr :=
  if s.target (oidPortTimingSrc p) = 0 then .error stDenied
  else wrFrozen p (oidPortTiming p) (s.portShared p && decide (offsetOf v = 0)) v s
/-- A write of PORT_TX_SHARE (R307). -/
def wrPortTxShare (p : Nat) (v : Word) (s : State) : Wr :=
  let n := v.toNat
  wrFrozen p (oidPortTxShare p) (decide (n > 3 ∧ n ≠ 0xFF) || (decide (n ≠ 0xFF) && decide (offsetOf (s.readPortTiming p) = 0))) v s
/-- A write of PORT_ALIGN (R310). -/
def wrPortAlign (p : Nat) (v : Word) (s : State) : Wr := wrFrozen p (oidPortAlign p) (decide (v.toNat > 7 ∧ v.toNat ≠ 0xFF)) v s
/-- A write of PORT_TX_MASK (R303). -/
def wrPortTxMask (p : Nat) (v : Word) (s : State) : Wr := wrFrozen p (oidPortTxMask p) false v s

/-- PORT_FRAME_WRITE (R311). -/
def execPortFrameWrite (acc : Access) (p : Fin 24) (v : Word) (s : State) : Out :=
  .next (s.writeCmd acc (oidPortFrame p) v (fun _ u => wrPortFrame p v u))
/-- PORT_TX_SHARE_WRITE (R307). -/
def execPortTxShareWrite (acc : Access) (p : Fin 24) (v : Word) (s : State) : Out :=
  .next (s.writeCmd acc (oidPortTxShare p) v (fun _ u => wrPortTxShare p v u))

/-! ### Faults (R299–R302) -/

/-- The substitution starts, or goes on, when a port leaves ENTER or RUN: no slot plays on, each keeps the last sample that
it carried (R301). -/
def Port.substitute (x : Port) : Port :=
  let f (y : PSlot) : PSlot := { y with st := 0 }
  { x with subst := some (x.subst.getD 0), rx := slotsMap x.rx f, tx := slotsMap x.tx f }

/-- A port starves: state, cause, flags, events; the stability count starts from zero (R299, R300, R315). -/
def State.starvePort (s : State) (p cause : Nat) : State :=
  let st := s.pst p
  let x := s.port p
  let x := if st = pEnter ∨ st = pRun ∨ st = pStopping then x.substitute else x
  let s := (s.setPst p pStarved).putn (oidPortCause p) cause
  let s := s.setPort p { x.seek with again := false }
  let s := s.portFlag p 0
  let s := if cause = caRate then s.portFlag p 1 else if cause = caPhase then s.portFlag p 7 else s
  let s := s.raise 7 0 [(1, p), (1, cause)]
  if cause = caRate then s.raise 7 1 [(1, p), (4, s.obn (oidPortMeasRate p))] else s

/-- Every port of a domain starves for a change of its rate or of its domain; a port that is OFF stays (R256, R299). -/
def State.starveDomain (s : State) (d : Nat) : State :=
  forUpTo 24 (fun p t => if t.domOf 0 p = d ∧ t.pst p ≠ pOff then t.starvePort p caRate else t) s

/-- A framing error: the flag and the event, and RESYNC from ENTER or RUN; the frame is dropped, and the transmit slots of the
next carry zero (R295, R299, R302, R315). -/
def State.framingError (s : State) (p : Nat) : State :=
  let x := s.port p
  let ferrs := (x.tick :: x.ferrs).filter (fun t => x.tick < t + s.portHz p)
  let tx := if s.pst p = pStopping then x.tx else slotsMap x.tx (fun y => { y with out := 0 })
  let s := ((s.setPort p { x with ferrs := ferrs, frame := none, tx := tx }).portFlag p 2).raiseOnce p 7 2 [(1, p)]
  if s.pst p = pEnter ∨ s.pst p = pRun then (s.setPst p pResync).setPort p { (s.port p).substitute with entry := false } else s

/-- ±0.5 % in units of 0.001 ppm (R300). -/
def halfPercent : Nat := 5000000
/-- The phase moved by more than a quarter sample (R295). -/
def phaseFar (a b : Int) : Bool :=
  let d := (a - b + 512) % 1024 - 512
  decide (d > 256 ∨ d < -256)

/-- The word a transmit slot sends, left-justified (R294). -/
def txWord (dw : Nat) (w : Word) : Word :=
  if dw = 32 then w else wdI (satInt dw (rneShift w.toInt (32 - dw)) * 2 ^ (32 - dw))

/-! ### Frames on the pins (R289–R294, R307) -/

/-- FS in its active level and RXD at the sampling edges of a frame (R290, R312). -/
def tdmSamples (f : TdmFrame) (timing : Word) : List (Bool × Bool) :=
  f.periods.map (fun q =>
    let e := if bit timing 7 then q.fall else q.rise
    (e.fs != bit timing 6, e.rxd))
/-- The width of FS (R291). -/
def fsWidth (l : List (Bool × Bool)) : Nat := (l.takeWhile (·.1)).length
/-- The sampling edges up to the next transition of FS into its active level. -/
def frameEdges (l : List (Bool × Bool)) : List (Bool × Bool) :=
  l.takeWhile (·.1) ++ (l.dropWhile (·.1)).takeWhile (fun e => !e.1)
/-- The data word of slot `i`, left-justified: DATA_WIDTH bits from position OFFSET + i × SLOT_WIDTH, MSB first (R290,
R293). -/
def slotWord (l : List (Bool × Bool)) (offset width dw i : Nat) : Word :=
  wd ((List.range dw).foldl (fun a j => 2 * a + (if (nth (false, false) l (offset + i * width + j)).2 then 1 else 0)) 0 *
    2 ^ (32 - dw))

/-- TXD in the period from the launch edge of position `q` (R289, R290, R294, R299, R301, R307): high impedance while the port
is OFF or in SEEK, while its unit does not own the line, and in the slots that PORT_TX_MASK does not list; else the data
bits of the slots, and low everywhere else. -/
def State.txdAt (s : State) (p q : Nat) : Txd :=
  let x := s.port p
  let off := offsetOf x.timing
  let width := s.slotWidth p
  let st := s.pst p
  if st = pOff ∨ st = pSeek ∨ !s.txEn p ∨ !(if q = 0 then x.drives0 else x.drives) then .z
  else if q < off ∨ q ≥ off + s.slotsOf p * width then .low
  else
    let i := (q - off) / width
    let j := (q - off) % width
    if !bit (s.ob (oidPortTxMask p)) i then .z
    else if j < s.dataWidth p ∧ bit (mapGet (fun _ => {}) x.tx i).out (31 - j) then .high else .low

/-- TDM_FRAME: a frame has been received (R290–R293, R295, R299, R300, R302). The causes of one frame are looked at in the
order of R300. -/
def execTdmFrame (p : Fin 24) (f : TdmFrame) (s : State) : Out :=
  let st := s.pst p
  let hz := s.portHz p
  let l := tdmSamples f (s.port p).timing
  let e := frameEdges l
  let bpf := e.length
  let ended := f.ended || decide (bpf < l.length)
  .next (
    if st = pOff ∨ hz = 0 ∨ fsWidth l = 0 ∨ (ended ∧ fsWidth l = bpf) then s
    else
      let s := if ended then s.putn (oidPortMeasBpf p) (min bpf 65535) else s
      let s := s.putn (oidPortMeasRate p) (rneDiv ((hz * 1000 * 10 ^ 9 : Nat) : Int) (10 ^ 9 + f.dev)).toNat
      let s := s.put (oidPortMeasPhase p) (wdI (satInt 16 f.phase))
      let x := s.port p
      let slots := (List.range (s.slotsOf p)).map (slotWord e (offsetOf x.timing) (s.slotWidth p) (s.dataWidth p))
      let good := ended && decide (offsetOf x.timing + s.slotsOf p * s.slotWidth p ≤ bpf)
      let x : Port := { x with
        fsw := fsWidth l, phase := f.phase, win := (f.dev :: x.win).take 256, twice := true
        line := (List.range bpf).map (s.txdAt p), drives0 := x.drives
        frame := if good then some slots else none }
      let off := decide (f.dev.natAbs > halfPercent)
      if st = pSeek ∨ st = pStarved then
        let ok := ended && !off && decide (x.bpf0.getD bpf = bpf)
        s.setPort p { x with
          stable := if ok then x.stable + 1 else 0
          bpf0 := if ended then some bpf else none
          win := if ok then x.win else []
          held := x.held && ok
          lockBpf := bpf }
      else
        let twice := (s.port p).twice
        let odd := decide (ended ∧ bpf ≠ x.lockBpf)
        let odds : Nat := if !odd then 0 else if x.odds ≠ 0 ∧ x.oddBpf = bpf then x.odds + 1 else 1
        let offs := if off then x.offs + 1 else 0
        let mean := decide (x.win.length = 256 ∧
          ((x.win.foldl (· + ·) 0).natAbs : Int) > (256 * 1000 * s.obn (oidPortRateTol p) : Nat))
        let t := s.setPort p { x with offs := offs, odds := odds, oddBpf := bpf }
        let t := if odd || twice then t.framingError p else t
        if st = pStopping then t
        else if offs ≥ 2 ∨ odds ≥ 2 ∨ mean then t.starvePort p caRate
        else if !twice && phaseFar f.phase x.ph0 then t.starvePort p caPhase
        else if (odd || twice) && decide ((t.port p).ferrs.length ≥ 4) then t.starvePort p caFraming
        else t)

/-- The lowest-numbered member of a group in ENTER or RUN (R304). -/
def State.alignLead (s : State) (g : Nat) : Option Nat :=
  (List.range 24).find? (fun q => s.obn (oidPortAlign q) = g && (s.pst q = pEnter || s.pst q = pRun))
/-- An alignment group. -/
def State.align (s : State) (g : Nat) : AlignGrp := mapGet (fun _ => {}) s.aligns g
/-- Replace an alignment group. -/
def State.setAlign (s : State) (g : Nat) (x : AlignGrp) : State := { s with aligns := mapSet (fun _ => {}) s.aligns g x }

/-- The boundaries from the FS of a member's frame to its handover, with that FS taken next to a group's phase: the first
boundary at or after the last data bit of its last slot (R295, R304). -/
def State.handoverOf (s : State) (p : Nat) (phase : Int) : Int :=
  let x := s.port p
  let near := phase + ((x.phase - phase + 512) % 1024 - 512)
  let last := offsetOf x.timing + (s.slotsOf p - 1) * s.slotWidth p + s.dataWidth p - 1
  let den : Int := (1024 * max 1 x.lockBpf : Nat)
  (near * x.lockBpf + 1024 * last + den - 1) / den
/-- The boundaries by which a member's frames wait for those of its group (R304, R305). -/
def State.handDelay (s : State) (p : Nat) : Nat :=
  let g := s.obn (oidPortAlign p)
  if g = 0xFF ∨ (s.pst p ≠ pEnter ∧ s.pst p ≠ pRun ∧ s.pst p ≠ pResync) then 0
  else min 1 ((s.align g).hand - s.handoverOf p (s.align g).phase).toNat

/-- A port enters: it records its phase, and the slots start at the next boundary, after any substitution. The first member of
an alignment group to enter sets the group's handover (R295, R297, R299, R304). -/
def State.enterPort (s : State) (p : Nat) : State :=
  let g := s.obn (oidPortAlign p)
  let x := s.port p
  let s := if g ≠ 0xFF ∧ s.alignLead g = none then
      s.setAlign g { phase := x.phase, hand := s.handoverOf p x.phase } else s
  ((s.setPst p pEnter).setPort p { x with entry := true, held := false, been := true, zc := 0, ph0 := x.phase }).mirror
    (.place (.port (Fin.ofNat 24 p)) s.gn s.mix.pos)
/-- Members of a group that enter together: with no member in ENTER or RUN before, the group hands over when the last of
their frames is complete (R304, R306). -/
def State.enterGroup (s : State) (g : Nat) (ps : List Nat) : State :=
  let fresh := (s.alignLead g).isNone
  let s := ps.foldl State.enterPort s
  let a := s.align g
  if fresh then s.setAlign g { a with hand := ps.foldl (fun m p => max m (s.handoverOf p a.phase)) a.hand } else s

/-- PORT_LOCK: PORT_REENTRY stable frames have been counted; the conditions of R292, R304 and R306 are looked at. On a
standby the port waits for the active's decision (R486). -/
def execPortLock (p : Fin 24) (s : State) : Out :=
  let st := s.pst p
  let x := s.port p
  let fr := s.ob (oidPortFrame p)
  let fast := decide (x.lockBpf > 50000000 / max 1 (s.portHz p))
  let short := decide (offsetOf x.timing + fld fr 5 0 * s.slotWidth p > x.lockBpf)
  let g := s.obn (oidPortAlign p)
  let again : Port := { x with stable := 0, bpf0 := none, win := [] }
  let far := match (if g = 0xFF then none else s.alignLead g) with
    | some q => phaseFar x.phase (s.port q).phase
    | none => false
  .next (
    if (st ≠ pSeek ∧ st ≠ pStarved) ∨ s.portHz p = 0 ∨ x.held ∨ x.stable < s.obn (oidPortReentry p) then s
    else if fast || short then
      let s := if fast then s.portFlag p 5 else s
      let s := if short then s.portFlag p 6 else s
      s.setPort p again
    else if far then ((s.setPort p again).portFlag p 4).raise 7 5 [(1, p), (1, g)]
    else if s.isStandby ∨ (g ≠ 0xFF ∧ !x.been ∧ bit (s.ob oidAlignCtrl) g) then s.setPort p { x with held := true }
    else s.enterPort p)

/-- PORT_CLOCK_LOSS: no complete frame within two nominal periods; a port in SEEK or STARVED counts anew (R299, R300). -/
def execPortClockLoss (p : Fin 24) (s : State) : Out :=
  let st := s.pst p
  .next (
    if st = pEnter ∨ st = pRun ∨ st = pResync then s.starvePort p caClock
    else if st = pSeek ∨ st = pStarved then s.setPort p (s.port p).seek
    else s)

/-- PORT_ZC_TIMEOUT: PORT_ZC_TIMEOUT has passed since the entry boundary or the STOP (R297, R298). -/
def execPortZcTimeout (p : Fin 24) (s : State) : Out :=
  let st := s.pst p
  let x := s.port p
  let due := decide (x.zc * 1000 ≥ s.obn (oidPortZcTimeout p) * s.portHz p)
  let hit (y : PSlot) : Bool := decide ((st = pEnter ∧ y.st = 1) ∨ (st = pStopping ∧ y.st = 4))
  let l := s.obn (oidPortFadeLen p)
  let f (y : PSlot) : PSlot := if !hit y then y else if y.st = 1 then { y with st := 2, k := 0, len := l } else { y with st := 5, j := 0 }
  let n := ((x.rx ++ x.tx).filter (fun e => hit e.2)).length
  .next (
    if !due ∨ x.entry then s
    else forUpTo n (fun _ t => t.portFlag p 3) (s.setPort p { x with rx := slotsMap x.rx f, tx := slotsMap x.tx f }))

/-- PORT_SUBST_END: the 32 substitutes are complete (R301). -/
def execPortSubstEnd (p : Fin 24) (s : State) : Out :=
  let x := s.port p
  .next (match x.subst with
    | some k => if k ≥ 32 then s.setPort p { x with subst := none } else s
    | none => s)

/-- ALIGN_GROUP_ENTER: the waiting members enter at the boundary at which every member with START issued has locked, or
when the hold is cleared; a member that starves after it has entered holds no other (R306). On a standby the active decides
(R486). -/
def execAlignGroupEnter (g : Fin 8) (s : State) : Out :=
  let mem := (List.range 24).filter (fun p => s.obn (oidPortAlign p) = g.val && s.pst p ≠ pOff)
  .next (
    if s.isStandby then s
    else if mem.all (fun p => (s.port p).been || (s.port p).held) || !bit (s.ob oidAlignCtrl) g.val then
      s.enterGroup g (mem.filter (fun p => (s.port p).held))
    else s)

/-- The lowest-numbered port of a share group in ENTER or RUN (R308). -/
def State.shareLead (s : State) (k : Nat) : Option Nat :=
  (List.range 24).find? (fun q => s.obn (oidPortTxShare q) = k && (s.pst q = pEnter || s.pst q = pRun))
/-- TWIN_OEk takes the level of the ownership (R308, R315). -/
def State.setOe (s : State) (k : Nat) : State :=
  let own := s.ownsShare k
  if bit (s.ob oidTwinOeState) k = own then s
  else (s.put oidTwinOeState (setBit (s.ob oidTwinOeState) k own)).raise 7 6 [(1, k), (1, if own then 1 else 0)]

/-- SHARE_HANDOVER: at the next frame of a shared port its driver follows the ownership of its group: a unit that releases the
line stops at position 0, one that takes it drives from position 1 (R307, R308). -/
def execShareHandover (p : Fin 24) (s : State) : Out :=
  let k := s.obn (oidPortTxShare p)
  let own := s.ownsShare k
  .next (
    if k > 3 then s
    else
      let s := s.setPort p { s.port p with drives := own, drives0 := own && (s.port p).drives }
      if (s.shareLead k).getD p.val = p.val then s.setOe k else s)
/-- The share groups change owner; TWIN_OEk follows at once where no port of the group is in ENTER or RUN (R307, R308). -/
def State.setShares (s : State) (n : Nat) : State :=
  forUpTo 4 (fun k t => if (t.shareLead k).isNone then t.setOe k else t) { s with shares := n }

/-! ### Slots at a boundary (R296–R298, R301) -/

/-- A sample is a zero crossing of its slot (R296). -/
def PSlot.crosses (x : PSlot) (v : Word) : Bool :=
  v = 0 || (match x.prev with | some u => bit u 31 != bit v 31 | none => false)

/-- A slot takes its next sample; `l` is PORT_FADE_LEN, which a fade-in takes as it begins (R296–R298). -/
def PSlot.step (x : PSlot) (l : Nat) (v : Word) : PSlot :=
  let cross := x.crosses v
  let x := { x with prev := some v }
  let x := if x.st = 1 ∧ cross then { x with st := 2, k := 0, len := l } else if x.st = 4 ∧ cross then { x with st := 0 } else x
  if x.st = 2 then
    let y := { x with out := scaleWord (gainWeight x.k x.len) v, k := x.k + 1 }
    if x.k + 1 ≥ x.len then { y with st := 3 } else y
  else if x.st = 3 then { x with out := v }
  else if x.st = 4 then { x with out := scaleWord x.w v }
  else if x.st = 5 then
    let y := { x with out := wdI (rneShift (v.toInt * x.w * (31 - x.j : Nat)) 35) }
    if x.j ≥ 31 then { y with st := 0 } else { y with j := x.j + 1 }
  else { x with out := 0 }

/-- A slot of a map. -/
def slotAt (m : SMap PSlot) (i : Nat) : PSlot := mapGet (fun _ => {}) m i

/-- The slots of an entering port start at zero (R297). -/
def State.openSlots (s : State) (p : Nat) : State :=
  let x := s.port p
  let n := s.slotsOf p
  let fresh : SMap PSlot := (List.range n).map (fun i => (i, ({ st := 1 } : PSlot)))
  s.setPort p { x with entry := false, zc := 0, rx := if s.rxEn p then fresh else [], tx := if s.txEn p then fresh else [] }

/-- A port at a boundary of its domain, before its slots: the frame handed over, and the changes of state that wait for a
boundary (R295, R297, R299, R301, R304). -/
def State.portTurn (s : State) (p : Nat) : State :=
  let st := s.pst p
  let x := s.port p
  if st = pOff then s
  else
    let hand := if s.handDelay p = 0 then x.frame else x.wait
    let x : Port := { x with
      tick := x.tick + 1, zc := x.zc + 1, hand := hand, wait := x.frame, frame := none, twice := false }
    let s := s.setPort p x
    if (st = pEnter ∨ st = pRun) ∧ hand.isNone then
      (s.setPst p pResync).setPort p { x.substitute with entry := false }
    else if st = pEnter ∧ x.entry then (if x.subst.isNone then s.openSlots p else s)
    else if st = pEnter ∧ (x.rx ++ x.tx).all (fun e => e.2.st = 3) then (s.setPst p pRun).raise 7 3 [(1, p)]
    else if st = pResync ∧ x.subst.isNone ∧ hand.isSome then s.enterPort p
    else s

/-- The frame index of every alignment group with members in ENTER or RUN in a domain goes on (R304). -/
def State.alignTurn (s : State) (d : Nat) : State :=
  forUpTo 8 (fun g t => match t.alignLead g with
    | some q => if t.domOf 0 q = d then t.setAlign g { t.align g with index := (t.align g).index + 1 } else t
    | none => t) s

/-- Transmit slots at a boundary, after the Sluice: what the next frame carries (R294, R298, R301). -/
def State.portTx (s : State) (p : Nat) : State :=
  let st := s.pst p
  let x := s.port p
  if st = pOff then s
  else
    let l := s.obn (oidPortFadeLen p)
    let dw := s.dataWidth p
    let tx :=
      if (st = pEnter ∨ st = pRun ∨ st = pStopping) ∧ !x.entry then
        x.tx.foldl (fun m e =>
          let y := e.2.step l (s.gOut (32 * p + e.1))
          mapSet (fun _ => {}) m e.1 { y with out := txWord dw y.out }) x.tx
      else slotsMap x.tx (fun y => { y with out := 0 })
    s.setPort p { x with tx := tx }

/-- Receive slots at a boundary of the port's domain: the substitutes or the frame handed over, and the samples delivered; a
stop that has reached zero everywhere ends (R295, R298, R301). A slot that runs on without a frame keeps its signal. -/
def State.portRx (s : State) (p : Nat) : State :=
  let st := s.pst p
  let x := s.port p
  if st = pOff then s
  else
    let l := s.obn (oidPortFadeLen p)
    let rx := match x.subst with
      | some k => x.rx.foldl (fun m e =>
          let y := e.2
          -- the last sample carried before the substitution stays in `prev`
          let b := if k = 0 then y.out else y.prev.getD 0
          mapSet (fun _ => {}) m e.1 { y with prev := some b, out := scaleWord ((31 - min k 31 : Nat) * 2 ^ 25) b }) x.rx
      | none =>
        if (st = pEnter ∨ st = pRun ∨ st = pStopping) ∧ !x.entry then
          x.rx.foldl (fun m e =>
            let v := match x.hand with | some d => nth 0 d e.1 | none => e.2.prev.getD 0
            mapSet (fun _ => {}) m e.1 (e.2.step l v)) x.rx
        else slotsMap x.rx (fun y => { y with out := 0 })
    let s := s.setPort p { x with rx := rx, hand := none, subst := x.subst.map (fun k => min (k + 1) 32) }
    let s := forUpTo 32 (fun i t =>
      { t with mix := { t.mix with srcNow := mapSet (fun _ => 0) t.mix.srcNow (32 * p + i) (slotAt rx i).out } }) s
    let x := s.port p
    if st = pStopping ∧ (x.rx ++ x.tx).all (fun e => e.2.st = 0) ∧ x.subst.getD 32 ≥ 32 then s.portOffNow p else s

/-- ALIGN_MEMBERS as it reads (R314). -/
def State.readAlignMembers (s : State) : Nat :=
  (List.range 24).foldl (fun a p =>
    if s.obn (oidPortAlign p) ≠ 0xFF ∧ (s.pst p = pEnter ∨ s.pst p = pRun) then a + 2 ^ p else a) 0

end Sys2Proof.Machine
end

