-- ==== Sys2Proof/Machine/Clock.lean ====
section
/-!
DEFINITION. Reference inputs (R316–R322), selection (R323–R327), the DPLLs (R328–R332), output groups and MCLK outputs
(R333–R335).
-/

namespace Sys2Proof.Machine

/-- REF_STATE codes (R322). -/
def rsDisabled : Nat := 0
def rsLos : Nat := 1
def rsQualifying : Nat := 2
def rsQualified : Nat := 3
def rsFreq : Nat := 4
def rsDrift : Nat := 5
/-- DPLL_STATE codes (R339). -/
def dsOff : Nat := 0
def dsFreerun : Nat := 1
def dsSwitching : Nat := 2
def dsAcquire : Nat := 3
def dsLocked : Nat := 4
def dsHoldover : Nat := 5
def dsOpenLoop : Nat := 6
/-- Causes of a switch, in the order of R343. -/
def swLos : Nat := 0
def swFreq : Nat := 1
def swDrift : Nat := 2
def swQl : Nat := 3
def swRevert : Nat := 4
def swManual : Nat := 5
def swLockLost : Nat := 6
def swLoopClosed : Nat := 7

/-- The state of reference `r`. -/
def State.rst (s : State) (r : Nat) : Nat := s.obn (oidRefState r)
/-- A REF_STICKY flag with its counter (R338). -/
def State.refFlag (s : State) (r b : Nat) : State := s.sticky (oidRefSticky r) b (oidRefCnt r b)
/-- DPLL `d`. -/
def State.dpll (s : State) (d : Nat) : Dpll := mapGet (fun _ => {}) s.clk.dplls d
/-- Replace DPLL `d`; DOM_PPM reports its output offset in units of 0.001 ppm, which are ppb (R282, R332). -/
def State.setDpll (s : State) (d : Nat) (x : Dpll) : State :=
  ({ s with clk := { s.clk with dplls := mapSet (fun _ => {}) s.clk.dplls d x } }).put (oidDomPpm d) (wdI x.freq)
/-- The state of DPLL `d`. -/
def State.dst (s : State) (d : Nat) : Nat := s.obn (oidDpllState d)
/-- The reference that DPLL `d` follows or targets; 8 is none. -/
def State.dsel (s : State) (d : Nat) : Nat := s.obn (oidDpllSelected d)
/-- A DPLL_STICKY flag with its counter (R340). -/
def State.dpllFlag (s : State) (d b : Nat) : State := s.sticky (oidDpllSticky d) b (oidDpllCnt d b)

/-! ### Selection (R323–R327) -/

/-- A reference that a DPLL follows still serves: QUALIFIED, with a rank of at least DPLL_MIN_RANK (R323). -/
def State.refOk (s : State) (d r : Nat) : Bool :=
  decide (r < 8) && s.rst r = rsQualified && decide (s.obn (oidRefRank r) ≥ s.obn (oidDpllMinRank d))
/-- The order of choice of a DPLL: the manual reference, then the list (R323). -/
def State.refOrder (s : State) (d : Nat) : List Nat :=
  s.obn (oidDpllManualRef d) :: (List.range 7).map (fun j => s.obn (oidDpllFallback d j))
/-- The first eligible reference of a DPLL (R323). -/
def State.choose (s : State) (d : Nat) : Option Nat := (s.refOrder d).find? (s.refOk d)

/-- The average of a history over its window: the last 60 s but for the second before LOCKED was left (R329). -/
def histMean (h : List Int) : Int := let l := (h.drop 10).take 600; rneDiv (l.foldl (· + ·) 0) (l.length : Int)
/-- The seconds that a history covers (R329). -/
def histSecs (h : List Int) : Nat := ((h.drop 10).take 600).length / 10

/-- A DPLL takes a state; on leaving LOCKED the holdover frequency is fixed (R329). -/
def State.setDst (s : State) (d st : Nat) : State :=
  let s := if s.dst d = dsLocked ∧ st ≠ dsLocked then
      (s.put (oidDpllHoFreq d) (wdI (histMean (s.dpll d).hist))).putn (oidDpllHoHist d) (histSecs (s.dpll d).hist)
    else s
  s.putn (oidDpllState d) st

/-- The holdover history is valid once it covers 10 s (R329). -/
def State.histValid (s : State) (d : Nat) : Bool :=
  decide ((if s.dst d = dsLocked then histSecs (s.dpll d).hist else s.obn (oidDpllHoHist d)) ≥ 10)

/-- A switch to reference `r` begins; a reversion that waits goes on waiting (R325, R328, R331, R343). -/
def State.beginSwitch (s : State) (d r cause : Nat) : State :=
  let old := s.dsel d
  let s := (s.setDst d dsSwitching).putn (oidDpllSelected d) r
  let wait := (s.dpll d).revert && decide (r ≠ s.obn (oidDpllManualRef d))
  let s := s.setDpll d { s.dpll d with revert := wait, first := false, cause := cause }
  (s.dpllFlag d 0).raise 8 5 [(1, d), (1, old), (1, r), (1, cause)]

/-- The first stage of R330 whose bandwidth is above DPLL_TRACK_BW; 4 is the tracking stage. -/
def State.stageFrom (s : State) (d n : Nat) : Nat :=
  let above (bw : Nat) : Bool := f32Lt (s.ob (oidDpllTrackBw d)) (f32OfNat bw)
  if n ≤ 1 ∧ above 200 then 1 else if n ≤ 2 ∧ above 20 then 2 else if n ≤ 3 ∧ above 2 then 3 else 4

/-- The output offset is clamped at ±1,000 ppm; reaching the clamp sets PULL_LIMIT (R25, R332). -/
def State.setFreq (s : State) (d : Nat) (f : Int) : State :=
  let c := max (-1000000) (min 1000000 f)
  let s := s.setDpll d { s.dpll d with freq := c }
  if f ≤ -1000000 ∨ f ≥ 1000000 then s.dpllFlag d 4 else s

/-- A DPLL reaches LOCKED: a new reference starts a new history; a reversion that waited begins (R325, R328, R329). -/
def State.reachLocked (s : State) (d : Nat) : State :=
  let r := s.dsel d
  let x := s.dpll d
  let s := s.setDst d dsLocked
  let f := if r < 8 then (s.ob (oidRefOffset r)).toInt else 0
  let s := s.setDpll d { x with stage := 4, locked := true, direct := false, lastRef := r, first := false, hist := if x.lastRef = r then x.hist else [] }
  let s := s.setFreq d f
  let s := s.raise 8 6 [(1, d)]
  let m := s.obn (oidDpllManualRef d)
  if x.revert ∧ r ≠ m ∧ s.refOk d m then s.beginSwitch d m swRevert else s

/-- DA, in FREERUN when step 7 of Eclosion began, makes its first lock after the tiles have started: the lock is carried out
as a relock, so the outputs fade and the tiles stop at the next boundary (R551). -/
def State.lateRelock (s : State) : State :=
  if s.pwr.lateLock && decide (s.pwr.stage ≥ 8) then
    { s with pwr := { s.pwr with lateLock := false }, img := { s.img with relock := true }, guard := { s.guard with sys := true } }
  else s

/-- An acquisition enters the stage that follows `n`, or LOCKED. -/
def State.enterStage (s : State) (d n : Nat) : State :=
  let k := s.stageFrom d n
  let s := s.setDpll d { s.dpll d with stage := k }
  let s := if d = 0 ∧ k ≠ 1 then s.lateRelock else s
  if k = 4 then s.reachLocked d else s

/-- An acquisition begins, `first` with direct alignment (R328, R330, R331). -/
def State.beginAcquire (s : State) (d r : Nat) (first : Bool) : State :=
  let s := (s.setDst d dsAcquire).putn (oidDpllSelected d) r
  let s := s.setDpll d { s.dpll d with first := first }
  let s := if first then s.put (oidDpllBuildout d) 0 else s
  s.enterStage d 1

/-- A reference carries a phase marker (R316). -/
def hasMarker (r : Nat) : Bool := decide (r < 6)
/-- The offset of output group `g` (1–4) in ps. -/
def State.ogOff (s : State) (g : Nat) : Int := mapGet (fun _ => 0) s.clk.ogOff g
/-- Replace the offset of a group. -/
def State.setOgOff (s : State) (g : Nat) (o : Int) : State :=
  { s with clk := { s.clk with ogOff := mapSet (fun _ => 0) s.clk.ogOff g o } }
/-- A phase reduced modulo one sample period to the range ±half a period, in ps (R331). -/
def phaseMod (x : Int) (hz : Nat) : Int :=
  let p : Int := 10 ^ 12 / (max 1 hz : Nat)
  (x + p / 2) % p - p / 2

/-- Every group sourced from DA pulls to the nearest marker of the new reference, where a switch of DA has ended; without
phase markers, and where DA enters HOLDOVER, FREERUN or OPEN_LOOP, it stays at the offset in force. While a pull runs the
offset that it has reached depends on the time elapsed and is a free value (R334). -/
def State.pullGroups (s : State) (b : Int) (marker : Bool) : State :=
  forUpTo 4 (fun i t =>
    let g := i + 1
    if fld (t.ob (oidOgCfg i)) 1 0 ≠ 0 then t
    else
      let (at', t) := if t.obn (oidOgState i) = 1 then (let (w, u) := t.free; (w.toInt, u)) else (t.ogOff g, t)
      if !marker then ((t.setOgOff g at').putn (oidOgState i) 0).put (oidOgPhaseRem i) 0
      else
        let rem := phaseMod (b - at') t.fsA
        if rem = 0 then ((t.setOgOff g at').putn (oidOgState i) 0).put (oidOgPhaseRem i) 0
        else ((t.setOgOff g (at' + rem)).putn (oidOgState i) 1).put (oidOgPhaseRem i) (wdI rem)) s

/-- A DPLL follows no reference: HOLDOVER, FREERUN or OPEN_LOOP (R328, R334). -/
def State.unfollow (s : State) (d st : Nat) : State :=
  let s := (s.setDst d st).putn (oidDpllSelected d) 8
  if d = 0 then s.pullGroups 0 false else s
/-- A DPLL enters FREERUN at the nominal frequency; after a lock that is flagged (R328, R340, R343). -/
def State.enterFreerun (s : State) (d : Nat) : State :=
  if s.dst d = dsFreerun then s
  else
    let s := s.unfollow d dsFreerun
    let s := s.setDpll d { s.dpll d with freq := 0 }
    if (s.dpll d).locked then (s.dpllFlag d 2).raise 8 8 [(1, d)] else s
/-- A DPLL has no eligible reference: HOLDOVER, or FREERUN without valid history (R323, R328). -/
def State.loseAll (s : State) (d : Nat) : State :=
  if !s.histValid d then s.enterFreerun d
  else if s.dst d = dsHoldover then s
  else
    let s := s.unfollow d dsHoldover
    let s := s.setDpll d { s.dpll d with freq := (s.ob (oidDpllHoFreq d)).toInt }
    (s.dpllFlag d 1).raise 8 7 [(1, d)]

/-- A DPLL in AUTO chooses again where its reference no longer serves, or takes the first that exists (R323, R328). -/
def State.reselect (s : State) (d cause : Nat) : State :=
  let st := s.dst d
  if s.obn (oidDpllMode d) ≠ 0 ∨ st = dsOff ∨ st = dsOpenLoop then s
  else if st = dsFreerun ∨ st = dsHoldover then
    match s.choose d with
    | none => s
    | some r => if (s.dpll d).direct then s.beginAcquire d r true else s.beginSwitch d r cause
  else if s.refOk d (s.dsel d) then s
  else
    let s := s.setDpll d { s.dpll d with cause := cause }
    match s.choose d with
    | some r => s.beginSwitch d r cause
    | none => s.loseAll d
/-- Every DPLL without a reference takes the first that exists, with the cause for which it lost its last (R323, R343). -/
def State.reselectRest (s : State) : State := forUpTo 3 (fun d t => t.reselect d (t.dpll d).cause) s
/-- Every DPLL chooses again under its own configuration (R327). -/
def State.reselectAll (s : State) (cause : Nat) : State := forUpTo 3 (fun d t => t.reselect d cause) s

/-- The monitor of a reference. -/
def State.refMon (s : State) (r : Nat) : RefMon := mapGet (fun _ => {}) s.clk.refs r
/-- Replace the monitor of a reference. -/
def State.setRefMon (s : State) (r : Nat) (x : RefMon) : State :=
  { s with clk := { s.clk with refs := mapSet (fun _ => {}) s.clk.refs r x } }
/-- A reference takes a state: without a signal its measurements begin anew, and a manual reference that leaves QUALIFIED
starts its WTR again (R317, R322, R325). -/
def State.setRst (s : State) (r st : Nat) : State :=
  let s := s.putn (oidRefState r) st
  let s := if st = rsDisabled ∨ st = rsLos then s.setRefMon r {} else s.setRefMon r { s.refMon r with good := 0 }
  if st = rsQualified then s
  else forUpTo 3 (fun d t =>
    if t.obn (oidDpllManualRef d) = r then t.setDpll d { t.dpll d with revert := false } else t) s

/-- A reference takes a rank (R318–R320). -/
def State.setRank (s : State) (r rank : Nat) : State :=
  let old := s.obn (oidRefRank r)
  if old = rank then s
  else (((s.putn (oidRefRank r) rank).refFlag r 4).raise 8 4 [(1, r), (1, old), (1, rank)]).reselectAll swQl

/-- The REF0 rank from clockClass and clockAccuracy (R319); the step of an accuracy that R319 does not list is free. -/
def ptpRank (cls acc : Nat) : Nat :=
  let base := match cls with
    | 6 => 15 | 7 => 13 | 13 => 12 | 14 => 11 | 52 => 4 | 58 => 4 | 187 => 4 | 193 => 4 | 248 => 3 | 255 => 0 | _ => 2
  let red := if 0x17 ≤ acc ∧ acc ≤ 0x21 then 0 else if acc = 0x22 ∨ acc = 0x23 then 1
    else if 0x24 ≤ acc ∧ acc ≤ 0x27 then 2 else if (0x28 ≤ acc ∧ acc ≤ 0x31) ∨ acc = 0xFE then 4
    else Config.accuracyStep acc
  if base = 0 then 0 else max 1 (base - red)

/-- The rank of an ESMC quality level (R320). -/
def ssmRank (ssm : Nat) (enh : Option Nat) : Nat :=
  match ssm, enh with
  | 2, some 0x21 => 15
  | 2, some 0x20 => 15
  | 2, some 0x23 => 14
  | 2, none => 14
  | 4, none => 12
  | 8, none => 10
  | 0xB, some 0x22 => 7
  | 0xB, none => 6
  | _, _ => 0

/-! ### References -/

/-- A REF_CFG word that returns RANGE (R338). -/
def refCfgBad (r : Nat) (v : Word) : Bool :=
  let pin := r = 1 || r = 2
  let port := r = 4 || r = 5
  (if pin || port then decide (fld v 3 1 > 5) else decide (fld v 3 1 ≠ 0)) ||
  (!pin && bit v 4) || (if port then decide (fld v 9 5 > 23) else decide (fld v 9 5 ≠ 0))
/-- A write of REF_CFG: monitoring restarts (R322, R338). -/
def wrRefCfg (r : Nat) (v : Word) (s : State) : Wr :=
  if refCfgBad r v then .error stRange
  else
    let s := (s.put (oidRefCfg r) v).setRst r (if bit v 0 then rsLos else rsDisabled)
    .ok ((if r = 3 ∧ bit v 0 then s.setRank 3 0 else s).reselectAll swLos)
/-- REF_CFG_WRITE (R322). -/
def execRefCfgWrite (acc : Access) (r : Fin 8) (v : Word) (s : State) : Out :=
  .next (s.writeCmd acc (oidRefCfg r) v (fun _ u => wrRefCfg r v u))

/-- A write of REF_LIMITS: the orders of R321. -/
def wrRefLimits (r : Nat) (v : Word) (s : State) : Wr :=
  let soft := fld v 9 0
  let hard := fld v 19 10
  let hyst := fld v 29 20
  if soft < 1 ∨ soft > 990 ∨ hard < soft ∨ hard > 990 ∨ hyst ≥ hard then .error stRange
  else .ok (s.put (oidRefLimits r) v)
/-- REF_LIMITS_WRITE (R321). -/
def execRefLimitsWrite (acc : Access) (r : Fin 8) (v : Word) (s : State) : Out :=
  .next (s.writeCmd acc (oidRefLimits r) v (fun _ u => wrRefLimits r v u))

/-- A write of REF_QL_SW: the rank of REF1, REF2, REF4 and REF5 (R318, R337). -/
def wrRefQlSw (r : Nat) (v : Word) (s : State) : Wr :=
  if r = 1 ∨ r = 2 ∨ r = 4 ∨ r = 5 then .ok ((s.put (oidRefQlSw r) v).setRank r v.toNat) else .error stRange

/-- A reference loses its signal (R316, R318, R322). -/
def State.refLost (s : State) (r : Nat) : State :=
  let st := s.rst r
  if st = rsDisabled ∨ st = rsLos then s
  else
    let s := ((s.setRst r rsLos).refFlag r 0).raise 8 0 [(1, r)]
    let s := if r = 3 then s.setRank 3 0 else s
    s.reselectAll swLos
/-- REF_LOS (R316, R322). -/
def execRefLos (r : Fin 8) (s : State) : Out := .next (s.refLost r)
/-- The source of a reference can carry a signal: the servo is LOCKED, L3 has lock, the lane is enabled (R316). -/
def State.refSource (s : State) (r : Nat) : Bool :=
  if r = 0 then s.ob oidServoState = 2
  else if r = 3 then s.ob (oidLaneState 3) = 2
  else if r ≥ 6 then bit (s.ob (oidLaneCfg (r - 6))) 0
  else true
/-- REF_SIGNAL_PRESENT (R316, R322). -/
def execRefSignalPresent (r : Fin 8) (s : State) : Out :=
  .next (if s.rst r = rsLos ∧ s.refSource r then s.setRst r rsQualifying else s)

/-- The requalification conditions of R321. -/
def State.requalifies (s : State) (r : Nat) : Bool :=
  let l := s.ob (oidRefLimits r)
  let off := (s.ob (oidRefOffset r)).toInt.natAbs
  let dr := (s.ob (oidRefDrift r)).toInt.natAbs
  decide (off < (fld l 19 10 - fld l 29 20) * 1000 ∧ 2 * dr < s.obn (oidRefDriftLim r))

/-- REF_QUALIFY: the conditions have held for REF_QUAL_TIME, at one update each 100 ms (R317, R322). -/
def execRefQualify (r : Fin 8) (s : State) : Out :=
  let st := s.rst r
  .next (
    if (st = rsQualifying ∨ st = rsFreq ∨ st = rsDrift) ∧ s.requalifies r
        ∧ (s.refMon r).good * 100 ≥ s.obn (oidRefQualTime r) then
      (((s.setRst r rsQualified).refFlag r 6).raise 8 1 [(1, r)]).reselectRest
    else s)

/-- The least-squares slope of one-second offsets, newest first, in ppb/s, RNE (R317); 0 with fewer than two. -/
def refSlope (l : List Int) : Int :=
  let n : Int := l.length
  if n < 2 then 0
  else
    let m := l.zipIdx.foldl (fun a (y, i) => a + (n - 1 - 2 * (i : Int)) * y) 0
    rneDiv (6 * m) (n * (n * n - 1))
/-- The mean of a list of offsets, RNE. -/
def refMean (l : List Int) : Int := rneDiv (l.foldl (· + ·) 0) l.length

/-- REF_MONITOR_UPDATE: the mean offset against XO of the last 100 ms, in ppb (R317, R321, R322, R329). -/
def execRefMonitorUpdate (r : Fin 8) (meas : Int) (s : State) : Out :=
  let l := s.ob (oidRefLimits r)
  let x := s.refMon r
  let parts := ((meas + (s.ob oidXoCal).toInt) :: x.parts).take 10
  let offset := satInt 32 (refMean parts)
  let offs := (offset :: x.offs).take 151
  let drift := satInt 32 (refSlope ((List.range 16).filterMap (fun i => offs[10 * i]?)))
  let soft := decide (offset.natAbs > fld l 9 0 * 1000)
  let st := s.rst r
  .next (
    if st = rsDisabled ∨ st = rsLos then s
    else
      let s := (s.put (oidRefOffset r) (wdI offset)).put (oidRefDrift r) (wdI drift)
      let s := s.setRefMon r { parts := parts, offs := offs, soft := soft, good := if s.requalifies r then x.good + 1 else 0 }
      let s := if soft && !x.soft then (s.refFlag r 1).raise 8 2 [(1, r), (4, (wdI offset).toNat)] else s
      let s := forUpTo 3 (fun d t =>
        if t.dst d = dsLocked ∧ t.dsel d = r.val then
          let t := t.setFreq d offset
          t.setDpll d { t.dpll d with hist := ((t.dpll d).freq :: (t.dpll d).hist).take 610 }
        else t) s
      let hard := decide (offset.natAbs > fld l 19 10 * 1000)
      let fast := decide (drift.natAbs > s.obn (oidRefDriftLim r))
      if st = rsQualified ∧ (hard ∨ fast) then
        let s := if hard then s.refFlag r 2 else s
        let s := if fast then s.refFlag r 3 else s
        let s := (s.setRst r (if hard then rsFreq else rsDrift)).raise 8 3 [(1, r), (1, if hard then 0 else 1)]
        s.reselectAll (if hard then swFreq else swDrift)
      else s)

/-- ESMC_PDU on L0 or L1 (R320). -/
def execEsmcPdu (lane : Fin 2) (ssm : BitVec 4) (enh : Option Byte) (s : State) : Out :=
  let r := 6 + lane.val
  let e := enh.map (·.toNat)
  .next ((s.putn (oidRefQlRaw r) (256 * e.getD 0xFF + ssm.toNat)).setRank r (ssmRank ssm.toNat e))
/-- SSM_TIMEOUT (R320). -/
def execSsmTimeout (lane : Fin 2) (s : State) : Out :=
  let r := 6 + lane.val
  .next ((s.refFlag r 5).setRank r 0)

/-- REF_WTR_EXPIRE: the manual reference has been QUALIFIED for its REF_WTR; the DPLL reverts, or waits for LOCKED
(R325). -/
def execRefWtrExpire (d : Fin 3) (s : State) : Out :=
  let m := s.obn (oidDpllManualRef d)
  let st := s.dst d
  .next (
    if s.obn (oidDpllMode d) ≠ 0 ∨ !s.refOk d m ∨ s.dsel d = m then s
    else if st = dsSwitching ∨ st = dsAcquire then s.setDpll d { s.dpll d with revert := true }
    else if st = dsLocked then s.beginSwitch d m swRevert
    else s.reselect d swRevert)

/-! ### DPLL configuration -/

/-- A write of DPLL_MODE (R326). -/
def wrDpllMode (d : Nat) (v : Word) (s : State) : Wr :=
  let s := s.put (oidDpllMode d) v
  let st := s.dst d
  .ok (
    if st = dsOff ∨ st = dsOpenLoop then s
    else match v.toNat with
      | 0 => s.reselect d (s.dpll d).cause
      | 1 => s.loseAll d
      | _ => s.enterFreerun d)
/-- DPLL_MODE_WRITE (R326). -/
def execDpllModeWrite (acc : Access) (d : Fin 3) (v : Word) (s : State) : Out :=
  .next (s.writeCmd acc (oidDpllMode d) v (fun _ u => wrDpllMode d v u))

/-- A list of references names none twice. -/
def namesTwice (l : List Nat) : Bool := let m := l.filter (· < 8); decide (m.eraseDups.length ≠ m.length)

/-- A write of DPLL_MANUAL_REF (R326, R339). -/
def wrDpllManual (d : Nat) (v : Word) (s : State) : Wr :=
  let n := v.toNat
  let list := (List.range 7).map (fun j => s.obn (oidDpllFallback d j))
  if namesTwice (n :: list) then .error stRange
  else
    let old := s.obn (oidDpllManualRef d)
    let s := s.put (oidDpllManualRef d) v
    let s := s.setDpll d { s.dpll d with revert := false }
    let st := s.dst d
    let follows := decide (st = dsSwitching ∨ st = dsAcquire ∨ st = dsLocked)
    .ok (
      if s.obn (oidDpllMode d) ≠ 0 ∨ st = dsOff ∨ st = dsOpenLoop then s
      else if n = 8 then
        if follows && s.dsel d = old && !list.contains old then
          match s.choose d with | some r => s.beginSwitch d r swManual | none => s.loseAll d
        else s
      else if !follows then s.reselect d (if s.refOk d n then swManual else (s.dpll d).cause)
      else if s.refOk d n ∧ s.dsel d ≠ n then s.beginSwitch d n swManual
      else s)
/-- DPLL_MANUAL_REF_WRITE (R326). -/
def execDpllManualRefWrite (acc : Access) (d : Fin 3) (v : Word) (s : State) : Out :=
  .next (s.writeCmd acc (oidDpllManualRef d) v (fun _ u => wrDpllManual d v u))
/-- A write of DPLL_FALLBACK: later choices only (R326, R339). -/
def wrDpllFallback (d j : Nat) (v : Word) (s : State) : Wr :=
  let l := s.obn (oidDpllManualRef d) :: (List.range 7).map (fun i => if i = j then v.toNat else s.obn (oidDpllFallback d i))
  if namesTwice l then .error stRange
  else
    let s := s.put (oidDpllFallback d j) v
    .ok (if s.dst d = dsFreerun ∨ s.dst d = dsHoldover then s.reselect d (s.dpll d).cause else s)
/-- A write of DPLL_MIN_RANK: the DPLL chooses again where its reference falls below (R323). -/
def wrDpllMinRank (d : Nat) (v : Word) (s : State) : Wr := .ok ((s.put (oidDpllMinRank d) v).reselect d swQl)

/-- A write of DPLL_DCO: refused while the loop is closed (R196, R332). -/
def wrDpllDco (d : Nat) (v : Word) (s : State) : Wr :=
  if s.target (oidDpllCtrlSource d) = 0 then .error stDenied
  else
    let s := s.put (oidDpllDco d) v
    .ok (if s.dst d = dsOpenLoop then s.setFreq d v.toInt else s)
/-- DPLL_DCO_WRITE (R332). -/
def execDpllDcoWrite (acc : Access) (d : Fin 3) (v : Word) (s : State) : Out :=
  .next (s.writeCmd acc (oidDpllDco d) v (fun _ u => wrDpllDco d v u))
/-- DPLL_DCO as it reads: the frequency in force while the loop is closed (R328, R339). -/
def State.readDco (s : State) (d : Nat) : Word := if s.dst d = dsOpenLoop then s.ob (oidDpllDco d) else wdI (s.dpll d).freq

/-- A write of DPLL_TRACK_BW: the loop gain changes without a phase step (R330). -/
def wrDpllTrackBw (d : Nat) (v : Word) (s : State) : Wr := .ok (s.put (oidDpllTrackBw d) v)
/-- DPLL_TRACK_BW_WRITE (R330). -/
def execDpllTrackBwWrite (acc : Access) (d : Fin 3) (v : Word) (s : State) : Out :=
  .next (s.writeCmd acc (oidDpllTrackBw d) v (fun c u => wrDpllTrackBw d (encNorm c v) u))
/-- A write of DPLL_SLOPE, which DA does not have (R339). -/
def wrDpllSlope (d : Nat) (v : Word) (s : State) : Wr := if d = 0 then .error stUnimpl else .ok (s.put (oidDpllSlope d) v)

/-- DPLL_RANK as it reads (R339). -/
def State.readDpllRank (s : State) (d : Nat) : Nat :=
  let st := s.dst d
  if st = dsSwitching ∨ st = dsAcquire ∨ st = dsLocked then (if s.dsel d < 8 then s.obn (oidRefRank (s.dsel d)) else 0)
  else if st = dsHoldover then 3 else if st = dsFreerun then 1 else 0
/-- DPLL_HO_HIST as it reads (R329). -/
def State.readHoHist (s : State) (d : Nat) : Nat :=
  if s.dst d = dsLocked then histSecs (s.dpll d).hist else s.obn (oidDpllHoHist d)

/-! ### DPLL events -/

/-- DPLL_BUILDOUT_DONE: the offset between the grid and the new reference has been measured, in ps (R328, R331, R334). -/
def execDpllBuildoutDone (d : Fin 3) (off : Int) (s : State) : Out :=
  .next (
    if s.dst d ≠ dsSwitching then s
    else
      let b := phaseMod off (s.domHz d)
      let r := s.dsel d
      let s := s.put (oidDpllBuildout d) (wdI b)
      let s := if d.val = 0 then s.pullGroups b (hasMarker r) else s
      s.beginAcquire d r false)

/-- DPLL_STAGE_ADVANCE: an acquisition stage ends (R328, R330). -/
def execDpllStageAdvance (d : Fin 3) (s : State) : Out :=
  .next (if s.dst d = dsAcquire then s.enterStage d ((s.dpll d).stage + 1) else s)
/-- DPLL_ACQ_TIMEOUT: not LOCKED within 10 s (R328). -/
def execDpllAcqTimeout (d : Fin 3) (s : State) : Out := .next (if s.dst d = dsAcquire then s.dpllFlag d 5 else s)
/-- DPLL_LOCK_LOSS: the phase error has been above 1 µs for 100 ms (R328). -/
def execDpllLockLoss (d : Fin 3) (s : State) : Out :=
  .next (if s.dst d = dsLocked then (s.dpllFlag d 3).beginSwitch d (s.dsel d) swLockLost else s)
/-- DPLL_BUILDOUT_REMOVED: the grid of DB or DC coincides with the reference's marker (R331, R343). -/
def execDpllBuildoutRemoved (d : Fin 3) (s : State) : Out :=
  .next (
    if d.val ≠ 0 ∧ s.ob (oidDpllBuildout d) ≠ 0 ∧ (s.dst d = dsAcquire ∨ s.dst d = dsLocked) ∧ hasMarker (s.dsel d) then
      (s.put (oidDpllBuildout d) 0).raise 8 9 [(1, d)]
    else s)

/-- DPLL_CTRL_SOURCE at a moult: EXPERT opens the loop at the frequency in force, BASIC closes it and
selection resumes under DPLL_MODE (R200, R326, R328). -/
def State.loopSource (s : State) (d : Nat) (expert : Bool) : State :=
  let st := s.dst d
  if expert then
    let s := s.put (oidDpllDco d) (wdI (s.dpll d).freq)
    if st = dsOff then s else s.unfollow d dsOpenLoop
  else if st ≠ dsOpenLoop then s
  else if s.obn (oidDpllMode d) = 1 then s.loseAll d
  else match (if s.obn (oidDpllMode d) = 0 then s.choose d else none) with
    | some r => s.beginSwitch d r swLoopClosed
    | none => s.enterFreerun d

/-- A DPLL takes a state as after OFF: without history (R328, R329). -/
def State.freshDpll (s : State) (d st : Nat) : State :=
  let s := ((s.unfollow d st).setDpll d {}).put (oidDpllBuildout d) 0
  (s.put (oidDpllHoFreq d) 0).put (oidDpllHoHist d) 0
/-- A DPLL starts from OFF (R328). -/
def State.startDpll (s : State) (d : Nat) : State :=
  let s := s.freshDpll d dsFreerun
  if s.psWordAt (oidDpllCtrlSource d) s.gn ≠ 0 then s.loopSource d true else s.reselect d swLos
/-- The rate of a DPLL's domain becomes OFF (R328). -/
def State.stopDpll (s : State) (d : Nat) : State := s.freshDpll d dsOff

/-! ### Output groups and MCLK (R333–R335) -/

/-- The output group of MCLKk (R333). -/
def mclkGroup (k : Nat) : Nat := nth 0 [0, 0, 1, 1, 2, 2, 3, 4] k
/-- The domain that sources output group `g`. -/
def State.ogDom (s : State) (g : Nat) : Nat := if g = 0 then 0 else fld (s.ob (oidOgCfg (g - 1))) 1 0
/-- The frequency that an MCLK_CFG word asks for, at a rate. -/
def mclkHzOf (v : Word) (hz : Nat) : Nat := nth 0 [1, 64, 128, 256, 512, 1024] (fld v 3 1) * hz
/-- The frequency of MCLKk; 0 while it is driven low (R335). -/
def State.mclkHz (s : State) (k : Nat) : Nat :=
  let d := s.ogDom (mclkGroup k)
  let f := mclkHzOf (s.ob (oidMclkCfg k)) (s.domHz d)
  if bit (s.ob (oidMclkCfg k)) 0 ∧ s.dst d ≠ dsOff ∧ f ≤ 50000000 then f else 0

/-- A write of MCLK_CFG (R335, R342). -/
def wrMclkCfg (k : Nat) (v : Word) (s : State) : Wr :=
  if fld v 3 1 > 5 ∨ mclkHzOf v (s.domHz (s.ogDom (mclkGroup k))) > 50000000 then .error stRange
  else .ok (s.put (oidMclkCfg k) v)
/-- MCLK_CFG_WRITE (R335). -/
def execMclkCfgWrite (acc : Access) (k : Fin 8) (v : Word) (s : State) : Out :=
  .next (s.writeCmd acc (oidMclkCfg k) v (fun _ u => wrMclkCfg k v u))

/-- A write of OG_CFG of group `i + 1` (R335, R341). -/
def wrOgCfg (i : Nat) (v : Word) (s : State) : Wr :=
  if fld v 1 0 = 3 then .error stRange
  else if (List.range 8).any (fun k => mclkGroup k = i + 1 && bit (s.ob (oidMclkCfg k)) 0) then .error stNotReady
  else .ok ((((s.put (oidOgCfg i) v).putn (oidOgState i) 0).put (oidOgPhaseRem i) 0).setOgOff (i + 1) 0)
/-- OG_CFG_WRITE (R335). -/
def execOgCfgWrite (acc : Access) (g : Fin 4) (v : Word) (s : State) : Out :=
  .next (s.writeCmd acc (oidOgCfg g) v (fun _ u => wrOgCfg g v u))
/-- OG_PULL_DONE: the offset of group `g + 1` has reached its target (R334). -/
def execOgPullDone (g : Fin 4) (s : State) : Out :=
  .next (
    if s.obn (oidOgState g) = 1 then ((s.putn (oidOgState g) 0).put (oidOgPhaseRem g) 0).raise 8 9 [(1, g.val + 1)] else s)

/-- The nominal rate of a DPLL's domain changes: it acquires with direct alignment, or will when a reference exists (R328,
R331, R335). -/
def State.retuneDpll (s : State) (d : Nat) : State :=
  let st := s.dst d
  let s := if st = dsOff then s.startDpll d
    else
      let s := s.setDpll d { s.dpll d with direct := true }
      if st = dsOpenLoop ∨ s.dsel d = 8 then s else s.beginAcquire d (s.dsel d) true
  forUpTo 8 (fun k t =>
    if t.ogDom (mclkGroup k) = d ∧ bit (t.ob (oidMclkCfg k)) 0 ∧
        mclkHzOf (t.ob (oidMclkCfg k)) (t.domHz d) > 50000000 then t.dpllFlag d 6 else t) s

end Sys2Proof.Machine
end

