-- ==== Sys2Proof/Machine/Time.lean ====
section
/-!
DEFINITION. The time unit: device time and steps (R344–R348), the servo and the PTP instance (R349–R351), time actions
(R356–R361) and captures (R362, R363).
-/

namespace Sys2Proof.Machine

/-- SERVO_STATE codes (R350). -/
def svFree : Nat := 0
def svAcquire : Nat := 1
def svLocked : Nat := 2
def svHoldover : Nat := 3

/-- PD3, and with it the time unit, is on (R34, R346). -/
def State.pd3 (s : State) : Bool := bit (s.ob oidPwrDomains) 3
/-- The modulus of DT in units of 2^−48 ns: SECONDS has 48 bits (R344). -/
def dtMod : Nat := 2 ^ 48 * 10 ^ 9 * 2 ^ 48
/-- Replace the time unit. -/
def State.setTime (s : State) (t : TimeSt) : State := { s with time := t }
/-- A TIME_STICKY flag with its counter (R364). -/
def State.timeFlag (s : State) (b : Nat) : State := s.sticky oidTimeSticky b (oidTimeCnt b)

/-- DT advances by 4 ns × (1 + y) (R347). -/
def State.advance (t : TimeSt) : TimeSt :=
  { t with dt := ((t.dt : Int) + 4 * 2 ^ 48 + t.y).toNat % dtMod, cyc := t.cyc + 1 }
/-- TIME_CLOCK_TICK (R347). -/
def execTimeClockTick (s : State) : Out := .next (if s.pd3 then s.setTime (State.advance s.time) else s)

/-! ### Due times of time actions (R345, R357, R359) -/

/-- DUE of an entry in ns. -/
def State.due (s : State) (e : Nat) : Nat :=
  (s.obn (oidTaDueSecHi e) * 2 ^ 32 + s.obn (oidTaDueSecLo e)) * 10 ^ 9 + s.obn (oidTaDueNs e)
/-- Replace DUE. -/
def State.setDue (s : State) (e ns : Nat) : State :=
  let n := ns % (2 ^ 48 * 10 ^ 9)
  ((s.putn (oidTaDueSecHi e) (n / 10 ^ 9 / 2 ^ 32)).putn (oidTaDueSecLo e) (n / 10 ^ 9)).putn (oidTaDueNs e) (n % 10 ^ 9)
/-- Instant `a` relative to instant `b`, both in ns, as a signed 64-bit difference of their ticks (R345). -/
def tickDiff (a b : Nat) : Int := (BitVec.ofNat 64 a - BitVec.ofNat 64 b).toInt
/-- How far ahead DUE lies, in ns. -/
def State.dueIn (s : State) (e : Nat) : Int := tickDiff (s.due e) s.dtTotal
/-- The target of an entry. -/
def State.taTarget (s : State) (e : Nat) : Nat := fld (s.ob (oidTaCfg e)) 4 1
/-- An entry is enabled. -/
def State.taOn (s : State) (e : Nat) : Bool := bit (s.ob (oidTaCfg e)) 0
/-- How far ahead DUE lies, in units of 2^−48 ns. -/
def State.dueFine (s : State) (e : Nat) : Int := s.dueIn e * 2 ^ 48 - (s.time.dt % 2 ^ 48 : Nat)
/-- How far ahead the firing instant lies, in units of 2^−48 ns, with grain boundaries as predicted from the last record (R354,
R357): the last boundary before DUE for SCENE_COMMIT, the first at or after it for IMAGE_ACTIVATE, DUE for the rest. -/
def State.fireIn (s : State) (e : Nat) : Int :=
  let d := s.dueFine e
  let dur : Int := s.time.gbDur
  let b : Int := (s.time.gb : Int) - s.time.dt
  let n := (d - b + dur - 1) / dur
  if dur = 0 then d
  else if s.taTarget e = 7 then b + (n - 1) * dur
  else if s.taTarget e = 8 then b + n * dur
  else d

/-- Set the state field of TA_STATUS. -/
def State.taState (s : State) (e st : Nat) : State := s.putFld (oidTaStatus e) 1 0 st
/-- Clear ENABLE of an entry. -/
def State.taClear (s : State) (e : Nat) : State :=
  let s := s.put (oidTaCfg e) (setBit (s.ob (oidTaCfg e)) 0 false)
  s.setTime { s.time with late := s.time.late.filter (· ≠ e) }
/-- LATE is set (R359). -/
def State.taLate (s : State) (e : Nat) : State := (s.sticky (oidTaStatus e) 2 (oidTaLateCnt e)).raise 9 5 [(1, e)]
/-- MISSED is set (R359). -/
def State.taMissed (s : State) (e : Nat) : State := (s.sticky (oidTaStatus e) 3 (oidTaMissedCnt e)).raise 9 6 [(1, e)]

/-- DUE moves by whole periods to the first value after DT (R348, R360). -/
def State.rebase (s : State) (e : Nat) : State :=
  let p : Int := s.obn (oidTaPeriod e)
  let k := -(s.dueIn e) / p + 1
  s.setDue e (((s.due e : Int) + k * p) % (2 ^ 48 * 10 ^ 9)).toNat

/-- An enabled entry is past: it will fire late, or it is discarded under its policy (R204, R359). -/
def State.taPast (s : State) (e : Nat) : State :=
  if !bit (s.ob (oidTaCfg e)) 5 then
    if s.time.late.contains e then s else s.setTime { s.time with late := s.time.late ++ [e] }
  else
    let scene := s.taTarget e = 7 && (match s.armed with | some c => c.mode = 1 | none => false)
    let s := s.taMissed e
    let s := if scene then (s.moultFlag 1).abortArmed 2 else s
    let s := if s.ob (oidTaPeriod e) = 0 then s.taClear e else if s.dueIn e ≤ 0 then s.rebase e else s
    s.taState e 3

/-! ### The gate cycle (R377, R378), which a step rebases -/

/-- The interval of an entry in ns. -/
def gclIv (w : Word) : Nat := fld w 31 8
/-- The end of entry `i` within the cycle (R377): the last entry holds until the cycle ends, and the list is cut there. -/
def GclList.endOf (l : GclList) (i : Nat) : Nat :=
  if i + 1 ≥ l.entries.length then l.cycle
  else min l.cycle (((l.entries.take (i + 1)).map gclIv).foldl (· + ·) 0)
/-- The entry in force at `t` ns into the cycle. -/
def GclList.entryAt (l : GclList) (t : Nat) : Nat := ((List.range l.entries.length).find? (fun i => decide (t < l.endOf i))).getD 0
/-- The gates of lane `p`. -/
def State.gcl (s : State) (p : Nat) : Gcl := mapGet (fun _ => {}) s.net.gcl p
/-- Replace the gates of lane `p`. -/
def State.setGcl (s : State) (p : Nat) (g : Gcl) : State :=
  { s with net := { s.net with gcl := mapSet (fun _ => {}) s.net.gcl p g } }
/-- The cycle of a lane's gates follows a step of DT (R378). -/
def State.rebaseGcl (s : State) (p : Nat) : State :=
  let g := s.gcl p
  let l := g.oper
  if l.cycle = 0 then s
  else
    let t := ((s.dtTotal : Int) - l.base) % l.cycle
    s.setGcl p { g with start := ((s.dtTotal : Int) - t).toNat, idx := l.entryAt t.toNat }

/-- A step of DT to `dt` (R348). -/
def State.stepTo (s : State) (dt : Nat) : State :=
  let old := s.time
  let size : Int := (dt / 2 ^ 48 : Nat) - (old.dt / 2 ^ 48 : Nat)
  let shift (x : Nat) : Nat := (((x : Int) + dt - old.dt) % dtMod).toNat
  let s := s.setTime { old with dt := dt, gb := shift old.gb, sb := old.sb.foldl (fun m e => mapSet (fun _ => 0) m e.1 (shift e.2)) [] }
  let s := (s.timeFlag 0).raise 9 1 [(8, evTime size)]
  let s := (s.rebaseGcl 0).rebaseGcl 1
  forUpTo 128 (fun e t =>
    if !t.taOn e then t
    else if t.ob (oidTaPeriod e) ≠ 0 then t.rebase e
    else if t.fireIn e < 0 then t.taPast e else t) s

/-- A write of TIME_CTRL (R348, R364). -/
def wrTimeCtrl (v : Word) (s : State) : Wr :=
  let a := fld v 1 0
  if a = 3 then .error stRange
  else if a = 0 then .ok s
  else if fld (s.ob oidServoCfg) 1 0 ≠ 0 ∨ !s.pd3 then .error stNotReady
  else if a = 1 then
    .ok (s.stepTo (((s.obn oidTimeSetSecHi * 2 ^ 32 + s.obn oidTimeSetSecLo) * 10 ^ 9 + s.obn oidTimeSetNs) * 2 ^ 48))
  else .ok (s.stepTo (((s.time.dt : Int) + (s.ob oidTimeAdjNs).toInt * 2 ^ 48) % dtMod).toNat)
/-- SET (R348). -/
def execSet (acc : Access) (s : State) : Out := .next (s.writeCmd acc oidTimeCtrl 1 (fun _ u => wrTimeCtrl 1 u))
/-- ADJUST (R348). -/
def execAdjust (acc : Access) (s : State) : Out := .next (s.writeCmd acc oidTimeCtrl 2 (fun _ u => wrTimeCtrl 2 u))

/-! ### The servo (R349, R350) -/

/-- The source of offset samples: 0 NONE, 1 PTP, 2 PPS. -/
def State.servoSrc (s : State) : Nat := fld (s.ob oidServoCfg) 1 0
/-- The servo's state. -/
def State.servo (s : State) : Nat := s.obn oidServoState
/-- y takes a value; SERVO_FREQ reports it in ppb of 4 ns (R347, R364). -/
def State.setY (s : State) (y : Int) : State :=
  let m : Int := 4 * 2 ^ 48 / 1000
  let y := max (-m) (min m y)
  let t := s.time
  let s := s.setTime { t with y := y, yHist := if s.servo = svLocked then (t.cyc, y) :: t.yHist else t.yHist }
  s.put oidServoFreq (wdI (rneDiv (y * 10 ^ 9) (4 * 2 ^ 48)))
/-- The loop chooses y after a sample: its algorithm is not given, so y is a free value within its limits. -/
def State.loopY (s : State) : State :=
  let (a, s) := s.free
  let (b, s) := s.free
  s.setY ((a ++ b).toInt)

/-- The sum of y over the cycles from `from'` to `to'`, from values newest first with the cycle each began. -/
def ySum (from' : Nat) : Nat → List (Nat × Int) → Int
  | _, [] => 0
  | to', (c, y) :: r =>
    if to' ≤ from' then 0 else ((to' - max c from' : Nat) : Int) * y + ySum from' (min to' c) r
/-- The mean of y over the last 16 s of LOCKED, while LOCKED; none where LOCKED was shorter (R350). -/
def State.yMean (s : State) : Option Int :=
  let t := s.time
  let w := 4000000000
  if t.lockedAt + w ≤ t.cyc then some (rneDiv (ySum (t.cyc - w) t.cyc t.yHist) w) else none
/-- The loop's bandwidth in Hz, binary32: SERVO_BW in LOCKED, else 1 Hz (R350). -/
def State.servoBw (s : State) : Word := if s.servo = svLocked then s.ob oidServoBw else f32One

/-- REF0 leaves LOS (R316, R350). -/
def State.ref0Good (s : State) : State := if s.rst 0 = rsLos then s.setRst 0 rsQualifying else s

/-- The servo takes a state (R350, R369). REF0 is in LOS in every state but LOCKED (R316). -/
def State.servoTo (s : State) (st : Nat) : State :=
  let old := s.servo
  if old = st then s
  else
    let t := s.time
    let s := s.putn oidServoState st
    let s := s.setTime { t with
      good := 0
      bad := 0
      lockedAt := if st = svLocked then t.cyc else t.lockedAt
      yHist := if st = svLocked then [(t.cyc, t.y)] else []
      yMean := if old = svLocked then s.yMean else if st = svFree then none else t.yMean }
    let s := if st = svLocked then s.ref0Good else s.refLost 0
    s.raise 9 0 [(1, old), (1, st)]

/-- The servo goes to HOLDOVER (R350). -/
def State.servoHold (s : State) : State :=
  if s.servo = svAcquire ∨ s.servo = svLocked then
    let s := s.servoTo svHoldover
    (s.setY (s.time.yMean.getD s.time.y)).timeFlag 2
  else s

/-- The rank of REF0: the parent's quality under PTP, PPS_QUALITY under PPS (R319, R349). -/
def State.rank0 (s : State) : State :=
  let q := s.ob oidPtpParentQuality
  let p := s.ob oidPpsQuality
  let take (cls acc : Nat) : State := (s.putn (oidRefQlRaw 0) (256 * cls + acc)).setRank 0 (ptpRank cls acc)
  if s.servoSrc = 1 then take (fld q 7 0) (fld q 15 8)
  else if s.servoSrc = 2 then take (fld p 15 8) (fld p 7 0)
  else s

/-- A write of SERVO_CFG (R350, R364). -/
def wrServoCfg (v : Word) (s : State) : Wr :=
  let n := fld v 1 0
  if n = 3 then .error stRange
  else
    let s := s.put oidServoCfg v
    let s := s.setTime { s.time with sample := none }
    let s := if n = 0 then (s.servoTo svFree).setY 0
      else if s.servo = svFree ∧ s.pd3 then s.servoTo svAcquire else s
    .ok s.rank0
/-- SERVO_CFG_WRITE (R350). -/
def execServoCfgWrite (acc : Access) (v : Word) (s : State) : Out :=
  .next (s.writeCmd acc oidServoCfg v (fun _ u => wrServoCfg v u))
/-- A write of PPS_QUALITY (R349). -/
def wrPpsQuality (v : Word) (s : State) : Wr := .ok (s.put oidPpsQuality v).rank0

/-- The servo takes an offset sample of `off` ns (R350). -/
def State.servoTake (s : State) (off : Int) : State :=
  let a := off.natAbs
  let s := s.put oidServoOffset (wdI (satInt 32 off))
  if s.servo = svHoldover then s.servoTo svAcquire
  else if s.servo = svAcquire then
    let s := s.loopY
    if a > s.obn oidServoStepNs then
      (s.setTime { s.time with good := 0 }).stepTo (((s.time.dt : Int) - off * 2 ^ 48) % dtMod).toNat
    else
      let g := if a < 100 then s.time.good + 1 else 0
      let s := s.setTime { s.time with good := g }
      if g ≥ 16 then s.servoTo svLocked else s
  else if s.servo = svLocked then
    let s := s.loopY
    let b := if a > 1000 then s.time.bad + 1 else 0
    let s := s.setTime { s.time with bad := b }
    if b ≥ 4 then (s.servoTo svAcquire).timeFlag 1 else s
  else s

/-- SERVO_SAMPLE: the servo takes the sample that the message engine or the PPS channel has formed (R349, R350). -/
def execServoSample (s : State) : Out :=
  .next (
    match s.time.sample with
    | none => s
    | some off => if s.pd3 then (s.setTime { s.time with sample := none }).servoTake off else s)
/-- SERVO_SAMPLE_TIMEOUT: no valid sample for 3 s (R350). -/
def execServoSampleTimeout (s : State) : Out := .next s.servoHold

/-! ### PTP (R349, R351) -/

/-- The delay mechanism of a profile is peer-to-peer. -/
def peerDelay (profile : Nat) : Bool := decide (profile = 1 ∨ profile = 4)
/-- The PTP instance runs on a lane in a domain (R351). -/
def State.ptpHere (s : State) (lane : Nat) : Bool := s.pd3 && bit (s.ob oidPtpCfg) (11 + lane)
/-- The clockIdentity of the parent. -/
def State.parentId (s : State) : Dword := s.ob oidPtpParentIdHi ++ s.ob oidPtpParentIdLo
/-- A timestamp of a lane in 2^−16 ns, with TS_ASYM added (R352). -/
def State.stamp (s : State) (lane : Nat) (ts : Int) : Int := ts + rneDiv ((s.ob (oidTsAsym lane)).toInt * 65536) 1000

/-- The portState of a lane's PTP port (R364). -/
def State.ptpPort (s : State) (lane : Nat) : Nat := s.obn oidPtpPortState / 16 ^ lane % 16
/-- meanPathDelay of a lane, in 2^−16 ns. -/
def State.pathDelay (s : State) (lane : Nat) : Int := mapGet (fun _ => 0) s.time.ptp.delay lane
/-- meanPathDelay of a lane takes a value, which PTP_PATH_DELAY shows unless the other lane's port is the SLAVE, 9 in IEEE
1588-2019; a negative one has no place there, and leaves a free value (R364). -/
def State.setDelay (s : State) (lane : Nat) (d : Int) : State :=
  let p := s.time.ptp
  let s := s.setTime { s.time with ptp := { p with delay := mapSet (fun _ => 0) p.delay lane d } }
  let n := rneShift d 16
  if s.ptpPort (1 - lane) = 9 then s
  else if n < 0 then (let (w, u) := s.free; u.put oidPtpPathDelay w)
  else s.put oidPtpPathDelay (wdI n)
/-- The message engine forms an offset sample from t2 − t1 − correction, with t1 and t2 − correction given (R349). -/
def State.formSample (s : State) (lane : Nat) (origin t2 : Int) : State :=
  let p := s.time.ptp
  let down := t2 - origin
  let s := s.setTime { s.time with ptp := { p with sync := none, down := down, origin := origin } }
  if s.servoSrc = 1 then s.setTime { s.time with sample := some (rneShift (down - s.pathDelay lane) 16) } else s

/-- The message engine takes a message on a lane (R349, R351); meanPathDelay is formed as IEEE 1588 forms it. -/
def State.ptpTake (s : State) (lane : Nat) (m : PtpMsg) (t : Int) : State :=
  let p := s.time.ptp
  let fromParent := decide (m.src = s.parentId)
  let put (q : PtpSt) : State := s.setTime { s.time with ptp := q }
  let req := mapGet (fun _ => none) p.req lane
  let done := mapSet (fun _ => none) p.req lane none
  match m.kind with
  | .sync =>
    if !fromParent then s
    else if m.twoStep then put { p with sync := some (m.seq.toNat, t, m.corr) }
    else s.formSample lane m.ts (t - m.corr)
  | .followUp =>
    match p.sync with
    | some (n, t2, c) => if fromParent ∧ n = m.seq.toNat then s.formSample lane m.ts (t2 - c - m.corr) else s
    | none => s
  | .delayResp =>
    match req with
    | some (n, t3) =>
      if fromParent ∧ n = m.seq.toNat then (put { p with req := done }).setDelay lane ((p.down + (m.ts - t3 - m.corr)) / 2)
      else s
    | none => s
  | .pdelayResp =>
    match req with
    | some (n, t1) =>
      if n ≠ m.seq.toNat then s
      else if m.twoStep then put { p with presp := mapSet (fun _ => none) p.presp lane (some (n, t - t1, m.ts, m.corr)) }
      else (put { p with req := done }).setDelay lane ((t - t1 - m.corr) / 2)
    | none => s
  | .pdelayFollowUp =>
    match mapGet (fun _ => none) p.presp lane with
    | some (n, turn, t2, c) =>
      if n = m.seq.toNat then
        (put { p with req := done, presp := mapSet (fun _ => none) p.presp lane none }).setDelay lane
          ((turn - (m.ts - t2) - c - m.corr) / 2)
      else s
    | none => s
  | .announce =>
    if fromParent then
      (((put { p with prio := m.prio }).put oidPtpParentQuality m.quality).put oidPtpUtcOffset (wdI m.utc.toInt)).rank0
    else s
  | .delayReq => s
  | .pdelayReq => s
  | .other => s

/-- PTP_MESSAGE_RX: a message with its ingress timestamp (R349, R351, R352). -/
def execPtpMessageRx (lane : Fin 2) (m : PtpMsg) (ts : Int) (s : State) : Out :=
  .next (
    if s.ptpHere lane && decide (m.domain.toNat = fld (s.ob oidPtpCfg) 10 3) then s.ptpTake lane m (s.stamp lane ts)
    else s)

/-- The instance relays synchronisation from its slave port to its master port on a lane: profile 4, with the other lane's
port SLAVE (R353). -/
def State.ptpRelays (s : State) (lane : Nat) : Bool :=
  decide (fld (s.ob oidPtpCfg) 2 0 = 4) && decide (s.ptpPort (1 - lane) = 9)
/-- The kinds of message that the instance sends on a lane: those of a master where the portState is MASTER, 6 in IEEE
1588-2019, and MASTER_CAPABLE is set or synchronisation is relayed (R351, R353, R364). -/
def State.ptpSends (s : State) (lane : Nat) (k : PtpKind) : Bool :=
  let c := s.ob oidPtpCfg
  let peer := peerDelay (fld c 2 0)
  let master := (bit c 13 || s.ptpRelays lane) && decide (s.ptpPort lane = 6)
  match k with
  | .sync => master
  | .announce => master
  | .followUp => master && bit c 14
  | .delayResp => master && !peer
  | .delayReq => !peer
  | .pdelayReq => peer
  | .pdelayResp => peer
  | .pdelayFollowUp => peer
  | .other => false
/-- A message that the instance sends at `t`. A relayed Sync or Follow_Up carries the origin of the parent's Sync, and in its
correction the time from there; a relayed Announce what the parent announced (R351, R353). -/
def State.ptpMsg (s : State) (lane : Nat) (kind : PtpKind) (seq : Half) (t : Int) : PtpMsg :=
  let c := s.ob oidPtpCfg
  let p := s.time.ptp
  let own : PtpMsg := { kind := kind, domain := BitVec.ofNat 8 (fld c 10 3), src := Config.clockIdentity, seq := seq, twoStep := bit c 14, corr := 0, ts := t, quality := 0xFFFFFEF8, utc := 0, prio := (s.ob oidPtpPriority).setWidth 16 }
  if !s.ptpRelays lane then own
  else if kind = .announce then
    { own with quality := s.ob oidPtpParentQuality, utc := (s.ob oidPtpUtcOffset).setWidth 16, prio := p.prio }
  else if kind = .sync ∨ kind = .followUp then
    { own with ts := p.origin, corr := t - (p.down - s.pathDelay (1 - lane)) - p.origin }
  else own
/-- PTP_MESSAGE_TX: a message with its egress timestamp (R351–R353). -/
def execPtpMessageTx (lane : Fin 2) (kind : PtpKind) (seq : Half) (ts : Int) (s : State) : Out :=
  let t := s.stamp lane ts
  let p := s.time.ptp
  .next (
    if s.ptpHere lane && s.ptpSends lane kind then
      let r := if kind = .delayReq ∨ kind = .pdelayReq then mapSet (fun _ => none) p.req lane (some (seq.toNat, t)) else p.req
      s.setTime { s.time with ptp := { p with sent := some (s.ptpMsg lane kind seq t), req := r } }
    else s)

/-- The portStates of L0 and L1 take new values (R364, R369). -/
def State.setPorts (s : State) (ports : Byte) : State :=
  if s.ob oidPtpPortState = ports.setWidth 32 then s
  else (s.put oidPtpPortState (ports.setWidth 32)).raise 9 3 [(1, ports.toNat)]

/-- ANNOUNCE_TIMEOUT: the parent is lost (R350). -/
def execAnnounceTimeout (ports : Byte) (s : State) : Out :=
  .next (if s.pd3 ∧ s.servoSrc = 1 then s.servoHold.setPorts ports else s.setPorts ports)

/-- PTP_PARENT_CHANGE: the firmware names a new parent (R349, R350). -/
def execPtpParentChange (parent : Dword) (quality : Word) (utc : Half) (ports : Byte) (s : State) : Out :=
  let s := ((s.putn oidPtpParentIdHi (parent.toNat / 2 ^ 32)).putn oidPtpParentIdLo parent.toNat).put oidPtpParentQuality quality
  let s := (s.put oidPtpUtcOffset (wdI utc.toInt)).rank0
  let s := s.setTime { s.time with ptp := { s.time.ptp with sync := none, req := [], presp := [] } }
  let s := if s.pd3 ∧ s.servoSrc = 1 then 
      let t := (s.servoTo svAcquire).timeFlag 3
      t.setTime { t.time with good := 0 }
    else s
  .next ((s.raise 9 2 [(8, parent.toNat)]).setPorts ports)

/-- A write of PTP_CFG (R365, R372). -/
def wrPtpCfg (v : Word) (s : State) : Wr :=
  if fld v 2 0 > 4 ∨ fld v 10 3 > 127 ∨ (s.obn oidBridgeMode = 2 ∧ fld v 2 0 ≠ 4) then .error stRange else .ok (s.put oidPtpCfg v)

/-! ### Time actions (R356–R361) -/

/-- The armed commit or activation that an enabled entry serves makes the entry busy (R361). -/
def State.taBusy (s : State) (e : Nat) : Bool :=
  s.taOn e &&
  ((s.taTarget e = 7 && (match s.armed with | some c => c.mode = 1 | none => false)) ||
   (s.taTarget e = 8 && s.img.act.phase = 1 && s.img.act.atTime && !s.img.act.fired))
/-- A write of TA_DUE, TA_ARG, TA_PERIOD or TA_WIDTH (R356, R361). -/
def wrTaField (oid e : Nat) (v : Word) (s : State) : Wr :=
  if s.taBusy e then .error stBusy else if s.taOn e then .error stNotReady else .ok (s.put oid v)

/-- The period of an entry fits its target (R357). -/
def taPeriodOk (target p : Nat) : Bool :=
  decide (p = 0) ||
  (decide (p ≤ 4000000000) &&
    (if target ≤ 5 then decide (p ≥ 1000) else if target = 6 then decide (p ≥ 1000000) else false))
/-- The width of a pulse fits (R357). -/
def taWidthOk (p w : Nat) : Bool := decide (w ≥ 8) && (if p = 0 then decide (w ≤ 10 ^ 9) else decide (w + 8 ≤ p))

/-- A write of TA_CFG (R356, R357, R359, R361). -/
def wrTaCfg (e : Nat) (v : Word) (s : State) : Wr :=
  let target := fld v 4 1
  let p := s.obn (oidTaPeriod e)
  let pin := fld (s.ob (oidTaArg e)) 4 0
  if target > 8 then .error stRange
  else if !bit v 0 then
    if s.taBusy e then .error stBusy else .ok (((s.put (oidTaCfg e) v).taClear e).taState e 0)
  else if target = 0 ∨ !taPeriodOk target p ∨ (2 ≤ target ∧ target ≤ 5 ∧ !bit (s.ob oidGpioTimeOut) pin) ∨
      (target = 5 ∧ !taWidthOk p (s.obn (oidTaWidth e))) then .error stRange
  else if !s.pd3 then .error stNotReady
  else if s.taBusy e ∨ (target ≥ 7 ∧ (List.range 128).any (fun f => f ≠ e && s.taOn f && s.taTarget f = target)) then
    .error stBusy
  else
    let s := ((s.put (oidTaCfg e) v).taState e 1)
    .ok (if s.fireIn e < 2000 * 2 ^ 48 then s.taPast e else s)
/-- TA_CFG_WRITE (R356). -/
def execTaCfgWrite (acc : Access) (e : Fin 128) (v : Word) (s : State) : Out :=
  .next (s.writeCmd acc (oidTaCfg e) v (fun _ u => wrTaCfg e v u))
/-- A write of TA_STATUS: STATE is RO, the flags W1C (R367). -/
def wrTaStatus (e : Nat) (v : Word) (s : State) : Wr := .ok (s.put (oidTaStatus e) (s.ob (oidTaStatus e) &&& ~~~(v &&& 0x1C)))
/-- A write of GPIO_TIME_OUT: a pin newly released is driven low (R364). -/
def wrGpioTimeOut (v : Word) (s : State) : Wr :=
  .ok ((s.put oidGpioTimeOut v).setTime { s.time with gpio := s.time.gpio &&& v &&& s.ob oidGpioTimeOut })

/-- A pin that time actions may drive takes a level. -/
def State.setGpio (s : State) (pin : Nat) (b : Bool) : State :=
  if bit (s.ob oidGpioTimeOut) pin then s.setTime { s.time with gpio := setBit s.time.gpio pin b } else s

/-- The effect of a firing (R357, R361). -/
def State.taAct (s : State) (e : Nat) : State :=
  let arg := s.ob (oidTaArg e)
  let pin := fld arg 4 0
  let idle := s.sticky (oidTaStatus e) 4 (oidTaIdleCnt e)
  match s.taTarget e with
  | 1 => s.raiseFull none (wd (s.due e / 10 ^ 9)) (wd (s.due e % 10 ^ 9)) 9 4 [(1, e)]
  | 2 => s.setGpio pin true
  | 3 => s.setGpio pin false
  | 4 => s.setGpio pin (!bit s.time.gpio pin)
  | 5 =>
    let s := s.setGpio pin true
    s.setTime { s.time with pulses := mapPut e pin s.time.pulses }
  | 6 => s.requestSync 3 (fld arg 3 0) (fld arg 19 4) (s.maskChains (fld arg 3 0) (fld arg 19 4))
  | 7 =>
    match s.armed with
    | some c =>
      if c.mode = 1 then s.setCommits (s.moult.commits.map (fun d => if d.st = 0 then { d with ready := true } else d)) else idle
    | none => idle
  | 8 =>
    if s.img.act.phase = 1 ∧ s.img.act.atTime then { s with img := { s.img with act := { s.img.act with fired := true } } } else idle
  | _ => s

/-- One firing: its effect and its count; `late` sets LATE, and with an AT_TIME commit armed that of MOULT_STICKY (R227, R359,
R360). -/
def State.taFire (s : State) (e : Nat) (late : Bool) : State :=
  let commit := decide (s.taTarget e = 7) && (match s.armed with | some c => decide (c.mode = 1) | none => false)
  let s := (s.taAct e).count (oidTaFireCnt e)
  if !late then s else if commit then (s.taLate e).moultFlag 0 else s.taLate e

/-- A periodic entry after a firing (R360). -/
def State.taNext (s : State) (e : Nat) : State :=
  let s := s.setDue e (s.due e + s.obn (oidTaPeriod e))
  if s.dueIn e ≥ 0 then s
  else
    let s := if bit (s.ob (oidTaCfg e)) 5 then s.taMissed e else s.taFire e true
    s.rebase e

/-- TIME_ACTION_FIRE: an entry reaches its firing instant. A SCENE_COMMIT entry fires at the boundary before the one at or
after DUE; one whose latch boundary has passed is past (R357–R361). -/
def execTimeActionFire (e : Fin 128) (s : State) : Out :=
  let tgt := s.taTarget e
  let d := s.dueIn e
  let late := s.time.late.contains e.val
  let next := decide (s.dueFine e ≤ (s.time.dt : Int) - s.time.gb)
  .next (
    if !s.pd3 ∨ !s.taOn e ∨ (tgt ≥ 7 ∧ s.isStandby) then s
    else if tgt = 7 ∧ !late ∧ d ≤ 0 ∧ bit (s.ob (oidTaCfg e)) 5 then s.taPast e
    else if late ∨ d ≤ 0 ∨ (tgt = 7 ∧ next) then
      let s := s.taFire e (late ∨ (tgt = 7 ∧ d ≤ 0))
      let s := s.setTime { s.time with late := s.time.late.filter (· ≠ e.val) }
      if s.ob (oidTaPeriod e) = 0 then (s.taClear e).taState e 2 else (s.taState e 1).taNext e
    else s)

/-- GPIO_PULSE_END: the pulse of an entry ends (R357). -/
def execGpioPulseEnd (e : Fin 128) (s : State) : Out :=
  .next (
    match s.time.pulses.find? (fun p => p.1 = e.val) with
    | none => s
    | some (_, pin) => (s.setTime { s.time with pulses := mapDel e.val s.time.pulses }).setGpio pin false)

/-! ### Captures (R362, R363, R368) -/

/-- A write of CAP_CFG (R346, R362, R368). -/
def wrCapCfg (c : Nat) (v : Word) (s : State) : Wr :=
  if fld v 6 1 > 60 ∨ fld v 8 7 = 3 then .error stRange
  else if bit v 0 ∧ !s.pd3 then .error stNotReady
  else .ok (s.put (oidCapCfg c) v)
/-- CAP_CFG_WRITE (R368). -/
def execCapCfgWrite (acc : Access) (c : Fin 16) (v : Word) (s : State) : Out :=
  .next (s.writeCmd acc (oidCapCfg c) v (fun _ u => wrCapCfg c v u))

/-- OVERRUN is set (R362, R363, R369). -/
def State.capOverrun (s : State) (c : Nat) : State :=
  (s.sticky (oidCapSticky c) 0 (oidCapOvrCnt c)).raiseOnce c 9 8 [(1, c)]
/-- The records of a channel that some session's queue holds and has not sent. -/
def State.capHeld (s : State) (c : Nat) : Nat :=
  (s.sess.map (fun e => (e.2.evq.filter (fun r => r.code = 0x907 && !r.sent && fld r.arg0 7 0 = c)).length)).foldl max 0

/-- A channel sees an edge of source `src` (R349, R362, R363). -/
def State.captureAt (s : State) (c src : Nat) (rising : Bool) (ns : Nat) : State :=
  let cfg := s.ob (oidCapCfg c)
  let edge := fld cfg 8 7
  let t := s.time
  let at' := t.dt + ns * 2 ^ 48
  let tot := at' / 2 ^ 48
  if !s.pd3 ∨ !bit cfg 0 ∨ fld cfg 6 1 ≠ src ∨ !(edge = 2 || (edge = 0) == rising) then s
  else if (match mapGet (fun _ => none) t.capAt c with | some l => decide (t.cyc < l + 250) | none => false) then s.capOverrun c
  else
    let s := s.setTime { t with capAt := mapSet (fun _ => none) t.capAt c (some t.cyc) }
    let seq := (fld (s.ob (oidCapSeq c)) 30 0 + 1) % 2 ^ 31
    let s := s.putn (oidCapSeq c) (seq + (if rising then 2 ^ 31 else 0))
    let s := (s.putn (oidCapSecHi c) (tot / 10 ^ 9 / 2 ^ 32)).putn (oidCapSecLo c) (tot / 10 ^ 9)
    let s := (s.putn (oidCapNs c) (tot % 10 ^ 9)).putn (oidCapFrac c) (at' / 2 ^ 32 % 65536)
    let n : Int := (tot % 10 ^ 9 : Nat)
    let s := if rising ∧ s.servoSrc = 2 ∧ fld (s.ob oidServoCfg) 5 2 = c then
        s.setTime { s.time with sample := some (if n < 500000000 then n else n - 1000000000) }
      else s
    if s.capHeld c ≥ 16 then s.capOverrun c
    else s.raiseFull none (wd (tot / 10 ^ 9)) (wd (tot % 10 ^ 9)) 9 7 [(1, c), (1, if rising then 1 else 0), (4, seq)]

/-- CAPTURE_EDGE: an edge of a source, `ns` ns into the present time-clock cycle; every channel that selects the source takes it
(R362, R363). -/
def execCaptureEdge (src : Fin 61) (rising : Bool) (ns : Fin 4) (s : State) : Out :=
  .next (forUpTo 16 (fun c t => t.captureAt c src rising ns) s)

/-! ### The grain record, alignment and power (R346, R354, R355) -/

/-- The time unit records a grain boundary (R354). -/
def State.recordGrain (s : State) : State :=
  let t := s.time
  let s := (s.putn oidTimeGbSecHi (s.dtSec / 2 ^ 32)).putn oidTimeGbSecLo s.dtSec
  let s := (s.putn oidTimeGbNs s.dtNs).put oidTimeGbGn s.gn
  s.setTime { t with gb := t.dt, gbDur := (((t.dt : Int) - t.gb) % dtMod).toNat }

/-- DA follows REF0 with a build-out of zero (R355). -/
def State.followsRef0 (s : State) : Bool :=
  decide (s.dsel 0 = 0) && decide (s.dst 0 = dsLocked ∨ s.dst 0 = dsAcquire) && decide (s.ob (oidDpllBuildout 0) = 0)
/-- GRAIN_ALIGNED as the grain cadence begins (R355). -/
def State.alignGrain (s : State) : State :=
  s.put oidGrainAligned (ofBool (s.servo = svLocked && decide (s.dsel 0 = 0 ∧ s.dst 0 = dsLocked)))
/-- GRAIN_ALIGNED as it reads (R355). -/
def State.readAligned (s : State) : Word := if s.ob oidGrainAligned = 1 ∧ s.followsRef0 then 1 else 0
/-- GRAIN_ALIGNED falls where DA no longer follows REF0 with a build-out of zero (R355). -/
def State.keepAligned (s : State) : State := s.put oidGrainAligned s.readAligned

/-- PD3 powers down or up: DT is 0 and the servo FREE (R346). -/
def State.timePower (s : State) : State := ((s.servoTo svFree).setTime {}).put oidServoFreq 0

end Sys2Proof.Machine
end

