-- ==== Sys2Proof/Machine/Bridge.lean ====
section
/-!
DEFINITION. Lanes (R370, R371), the bridge (R372–R376), gates, shapers and pauses (R377–R383) and the descriptors of the
internal port (R392–R395).
-/

namespace Sys2Proof.Machine

/-- LANE_STATE codes. -/
def lnOff : Nat := 0
def lnDown : Nat := 1
def lnUp : Nat := 2

/-- The state of a lane. -/
def State.lane (s : State) (n : Nat) : Nat := s.obn (oidLaneState n)
/-- A lane is UP. -/
def State.laneUp (s : State) (n : Nat) : Bool := decide (s.lane n = lnUp)
/-- A LANE_STICKY flag with its counter (R397). -/
def State.laneFlag (s : State) (n b : Nat) : State := s.sticky (oidLaneSticky n) b (oidLaneCnt n b)
/-- Replace the network. -/
def State.setNet (s : State) (n : NetSt) : State := { s with net := n }
/-- The line rate of a lane in Mb/s. -/
def State.laneMbps (s : State) (n : Nat) : Nat := if fld (s.ob (oidLaneCfg n)) 2 1 = 0 then 10000 else 1000
/-- The time that `bytes` bytes take on a lane, in ns. -/
def State.wireNs (s : State) (lane bytes : Nat) : Nat := (bytes * 8000 + s.laneMbps lane - 1) / s.laneMbps lane
/-- A queue of an egress lane. -/
def State.queue (s : State) (lane tc : Nat) : List Frame := mapGet (fun _ => []) s.net.queues (8 * lane + tc)
/-- Replace a queue. -/
def State.setQueue (s : State) (lane tc : Nat) (q : List Frame) : State :=
  s.setNet { s.net with queues := mapSet (fun _ => []) s.net.queues (8 * lane + tc) q }
/-- The bytes in a list of frames. -/
def frameBytes (q : List Frame) : Nat := (q.map (·.len)).foldl (· + ·) 0

/-! ### Transmit streams follow their lanes and domain (R386) -/

/-- The state of a transmit stream: 0 OFF, 1 WAIT, 2 RUN, 3 HELD. -/
def State.txState (s : State) (n : Nat) : Nat := s.obn (oidNetTxState n)
/-- Transmit stream `n`. -/
def State.ntx (s : State) (n : Nat) : NetTx := mapGet (fun _ => {}) s.net.tx n
/-- Replace transmit stream `n`. -/
def State.setNtx (s : State) (n : Nat) (x : NetTx) : State :=
  s.setNet { s.net with tx := mapSet (fun _ => {}) s.net.tx n x }
/-- A transmit stream is held: no lane of its PATHS is UP, its domain is OFF, or it is an AAF stream of a unit that does
not act alone (R386, R484). -/
def State.txHeld (s : State) (n : Nat) : Bool :=
  let c := s.ob (oidNetTxCfg n)
  !((bit c 2 && s.laneUp 0) || (bit c 3 && s.laneUp 1)) || decide (s.domHz (s.domOf 2 n) = 0) || (bit c 1 && s.isStandby)
/-- A transmit stream takes the state that its lanes and domain call for; a packet that fills is dropped (R386). -/
def State.txCheck (s : State) (n : Nat) : State :=
  let st := s.txState n
  if st = 0 then s
  else if s.txHeld n then
    if st = 3 then s else (s.putn (oidNetTxState n) 3).setNtx n { s.ntx n with fill := [], full := none }
  else if st = 3 then s.putn (oidNetTxState n) 1 else s
/-- Every transmit stream is checked. -/
def State.txCheckAll (s : State) : State := forUpTo 128 (fun n t => t.txCheck n) s

/-! ### Lanes (R371) -/

/-- The device writes the descriptors of a frame back with OWN = 0, and with the egress timestamp where TS_REQ asks for it
(R394). -/
def State.giveBack (s : State) (lane : Nat) (f : Frame) (sent : Bool) : State :=
  let (ring, l) := f.descs
  if l = [] then s
  else
    let back (d : Desc) : Desc :=
      let flags := d.flags / 2 * 2
      if sent ∧ d.flags / 32 % 2 = 1 then { d with flags := flags / 32 * 32 + 16 + flags % 16, tsSec := s.dtSec % 65536, tsNs := s.dtNs }
      else { d with flags := flags }
    s.setNet { s.net with rings := mapSet (fun _ => []) s.net.rings (8 * lane + ring) (l.map back) }
/-- A discard at a queue (R371, R375). -/
def State.queueDrop (s : State) (lane : Nat) (f : Frame) : State :=
  ((s.giveBack lane f false).laneFlag lane 7).raiseOnce lane 10 2 [(1, lane), (1, f.tc)]
/-- A lane transmits: the class in transmission. -/
def State.sending (s : State) (lane : Nat) : Option Nat :=
  if s.time.cyc < mapGet (fun _ => 0) s.net.txEnd lane then some (mapGet (fun _ => 0) s.net.txCls lane) else none
/-- A frame in transmission ends at once; it is no good frame (R371, R397). -/
def State.cutShort (s : State) (lane : Nat) : State :=
  if (s.sending lane).isNone then s
  else
    let good := match mapGet (fun _ => none) s.net.sent lane with | some f => !f.bad | none => false
    let s := if good then s.put (oidLaneTxFrames lane) (s.ob (oidLaneTxFrames lane) - 1) else s
    s.setNet { s.net with txEnd := mapSet (fun _ => 0) s.net.txEnd lane s.time.cyc }
/-- A lane loses its link, and the reference that it carries its signal (R316, R371). -/
def State.linkLost (s : State) (lane st : Nat) : State :=
  let was := s.laneUp lane
  let s := s.putn (oidLaneState lane) st
  let s := if lane < 2 then s.refLost (6 + lane) else if lane = 3 then s.refLost 3 else s
  if !was then s
  else
    let s := forUpTo 8 (fun c t => ((t.queue lane c).foldl (fun u f => u.queueDrop lane f) t).setQueue lane c []) (s.cutShort lane)
    let s := s.raise 10 0 [(1, lane), (1, st)]
    s.txCheckAll
/-- A write of LANE_CFG (R371, R398). -/
def wrLaneCfg (lane : Nat) (v : Word) (s : State) : Wr :=
  if fld v 2 1 = 3 ∨ (lane = 3 ∧ fld v 2 1 ≠ 0) then .error stRange
  else
    let old := s.ob (oidLaneCfg lane)
    let s := s.put (oidLaneCfg lane) v
    .ok (
      if !bit v 0 then s.linkLost lane lnOff
      else if !bit old 0 ∨ fld v 3 1 ≠ fld old 3 1 ∨ s.lane lane = lnOff then s.linkLost lane lnDown
      else s)
/-- LANE_CFG_WRITE (R371). -/
def execLaneCfgWrite (acc : Access) (lane : Fin 4) (v : Word) (s : State) : Out :=
  .next (s.writeCmd acc (oidLaneCfg lane) v (fun _ u => wrLaneCfg lane v u))
/-- LANE_LINK_DOWN: lock or synchronisation is lost (R371). -/
def execLaneLinkDown (lane : Fin 4) (s : State) : Out :=
  .next (if s.laneUp lane then (s.laneFlag lane 0).linkLost lane lnDown else s)

/-- A write of BRIDGE_MODE (R372). -/
def wrBridgeMode (v : Word) (s : State) : Wr :=
  if v = 2 ∧ fld (s.ob oidPtpCfg) 2 0 ≠ 4 then .error stRange else .ok (s.put oidBridgeMode v)
/-- BRIDGE_MODE_WRITE (R372). -/
def execBridgeModeWrite (acc : Access) (v : Word) (s : State) : Out :=
  .next (s.writeCmd acc oidBridgeMode v (fun _ u => wrBridgeMode v u))

/-! ### Frames -/

/-- The number at big-endian bytes from an offset. -/
def beAt (l : List Byte) (o n : Nat) : Nat := ofBe (slice l o n)
/-- A frame carries a VLAN tag. -/
def tagged (f : List Byte) : Bool := decide (beAt f 12 2 = 0x8100)
/-- The offset of a frame's payload. -/
def payOff (f : List Byte) : Nat := if tagged f then 18 else 14
/-- The EtherType behind a tag. -/
def etherType (f : List Byte) : Nat := beAt f (payOff f - 2) 2
/-- VID, 0 when untagged. -/
def vidOf (f : List Byte) : Nat := if tagged f then beAt f 14 2 % 4096 else 0
/-- PCP of a tagged frame. -/
def pcpOf (f : List Byte) : Nat := beAt f 14 2 / 8192
/-- The IPv4 protocol, or 256 for another EtherType. -/
def ipProto (f : List Byte) : Nat := if etherType f = 0x0800 then beAt f (payOff f + 9) 1 else 256
/-- The offset of what follows the IPv4 header. -/
def l4Off (f : List Byte) : Nat := payOff f + 4 * (beAt f (payOff f) 1 % 16)
/-- The UDP destination port, 0 for another frame. -/
def udpDst (f : List Byte) : Nat := if ipProto f = 17 then beAt f (l4Off f + 2) 2 else 0
/-- The offset of a PTP header. -/
def ptpOff (f : List Byte) : Option Nat :=
  if etherType f = 0x88F7 then some (payOff f)
  else if udpDst f = 319 ∨ udpDst f = 320 then some (l4Off f + 8) else none

/-- The messageType of a PTP message: event messages lie below 8. -/
def ptpType (f : List Byte) (o : Nat) : Nat := beAt f o 1 % 16
/-- A PTP general message (R392). -/
def ptpGeneral (f : List Byte) : Bool := match ptpOff f with | some o => decide (ptpType f o ≥ 8) | none => false
/-- An ESMC PDU: the ITU-T slow protocol. -/
def isEsmc (f : List Byte) : Bool := etherType f = 0x8809 && beAt f (payOff f) 1 = 0x0A
/-- A Dabako frame (R478). -/
def isDabako (f : List Byte) : Bool := !tagged f && etherType f = 0x88B5

/-- The class of a received frame (R376). -/
def State.classify (s : State) (f : List Byte) : Nat :=
  if (ptpOff f).isSome then fld (s.ob oidNetTcRoles) 5 3
  else if tagged f then fld (s.ob oidNetPcpTc) (3 * pcpOf f + 2) (3 * pcpOf f)
  else if etherType f = 0x0800 then
    let d := beAt f 15 1 / 4
    fld (s.ob (oidNetDscpTc (d / 8))) (3 * (d % 8) + 2) (3 * (d % 8))
  else 0

/-- The address of a lane. -/
def State.mac (s : State) (lane : Nat) : Nat := s.obn (oidLaneMacHi lane) * 2 ^ 32 + s.obn (oidLaneMacLo lane)
/-- The mask of the valid static entries of an address and VID (R373, R399). -/
def State.staticMask (s : State) (mac vid : Nat) : Option Nat :=
  (List.range 128).findSome? (fun k =>
    let h := s.ob (oidNetFdbHi k)
    if bit h 31 ∧ fld h 15 0 = mac / 2 ^ 32 ∧ s.obn (oidNetFdbLo k) = mac % 2 ^ 32 ∧ fld h 27 16 = vid then some (fld h 30 28)
    else none)
/-- The lane of a learned entry, which counts in CHAIN mode. -/
def State.learned (s : State) (mac vid : Nat) : Option Nat :=
  if s.obn oidBridgeMode ≠ 1 then none
  else (s.net.fdb.find? (fun e => e.1 = mac && e.2.1 = vid)).map (fun e => e.2.2.1)
/-- The bridge learns a source in CHAIN mode, up to 2,048 entries (R373). -/
def State.learn (s : State) (mac vid lane : Nat) : State :=
  if s.obn oidBridgeMode ≠ 1 then s
  else
    let rest := s.net.fdb.filter (fun e => !(e.1 = mac && e.2.1 = vid))
    if rest.length ≥ 2048 then s else s.setNet { s.net with fdb := (mac, vid, lane, s.time.cyc) :: rest }
/-- FDB_AGEING: learned entries of which no frame came for BRIDGE_AGEING seconds are dropped (R373). -/
def execFdbAgeing (s : State) : Out :=
  .next (s.setNet { s.net with
    fdb := s.net.fdb.filter (fun e => decide (s.time.cyc < e.2.2.2 + s.obn oidBridgeAgeing * 250000000)) })

/-- The multicast groups of the enabled receive streams on a lane (R373). -/
def State.groupHere (s : State) (lane : Nat) (f : List Byte) : Bool :=
  (List.range 128).any (fun n =>
    let c := s.ob (oidNetRxCfg n)
    bit c 0 && bit c (2 + lane) &&
    (if bit c 1 then
      etherType f = 0x22F0 && beAt f (payOff f + 4) 8 = s.obn (oidNetRxMatchHi n) * 2 ^ 32 + s.obn (oidNetRxMatchLo n)
    else etherType f = 0x0800 && beAt f (payOff f + 16) 4 = s.obn (oidNetRxMatchLo n)))
/-- A media frame of an enabled receive stream on a lane: the media engine takes it, no ring does (R388, R392). -/
def State.mediaHere (s : State) (lane : Nat) (f : List Byte) : Bool :=
  (List.range 128).any (fun n =>
    let c := s.ob (oidNetRxCfg n)
    bit c 0 && bit c (2 + lane) &&
    (if bit c 1 then
      etherType f = 0x22F0 && beAt f (payOff f + 4) 8 = s.obn (oidNetRxMatchHi n) * 2 ^ 32 + s.obn (oidNetRxMatchLo n)
    else ipProto f = 17 && beAt f (payOff f + 16) 4 = s.obn (oidNetRxMatchLo n) && udpDst f = fld (s.ob (oidNetRxMatchHi n)) 15 0))

/-- Where a frame on L0 or L1 goes: forwarded to the other lane, delivered to the internal port (R372, R373). -/
def State.forwardTo (s : State) (lane : Nat) (f : List Byte) : Bool × Bool :=
  let dst := beAt f 0 6
  let st := s.staticMask dst (vidOf f)
  let other := 1 - lane
  let own := decide (dst = s.mac lane)
  let bcast := decide (dst = 2 ^ 48 - 1)
  let group := s.groupHere lane f
  let known := if dst / 2 ^ 40 % 2 = 1 then none else s.learned dst (vidOf f)
  let local' := decide (0x0180C2000000 ≤ dst ∧ dst ≤ 0x0180C200000F) || decide (etherType f = 0x8808)
  -- relayed per link under profile 4 (R372); the peer delay messages of profile 1 end at each port (R353)
  let relay := match ptpOff f, fld (s.ob oidPtpCfg) 2 0 with
    | some _, 4 => true
    | some o, 1 => ptpType f o = 2 || ptpType f o = 3 || ptpType f o = 10
    | _, _ => false
  let fwd := match s.obn oidBridgeMode, st with
    | 1, some m => m / 2 ^ other % 2 = 1
    | 1, none => if own then false else match known with | some l => decide (l = other) | none => true
    | 2, some m => m / 2 ^ other % 2 = 1
    | _, _ => false
  let inner := own || bcast || group || (match st with
    | some m => decide (m / 4 % 2 = 1)
    | none => known.isNone)
  (fwd && !local' && !relay, inner)

/-! ### Gates, shapers and pauses -/

/-- The gates of a list stay open for class `c` for `need` ns, with `rem` ns left of entry `i` (R379). -/
def GclList.staysOpen (l : GclList) (c : Nat) : Nat → Nat → Nat → Nat → Bool
  | 0, _, _, _ => false
  | f + 1, i, rem, need =>
    if !bit (nth 0 l.entries i) c then false
    else if need ≤ rem then true
    else
      let j := if i + 1 < l.entries.length ∧ l.endOf i < l.cycle then i + 1 else 0
      let from' := if j = 0 then 0 else l.endOf i
      l.staysOpen c f j (l.endOf j - from') (need - rem)
/-- The gate of class `c` on a lane is open and stays open for `need` ns (R377, R379). -/
def State.gateFor (s : State) (lane c need : Nat) : Bool :=
  let g := s.gcl lane
  if lane > 1 ∨ !bit (s.ob (oidGclCtrl lane)) 0 ∨ g.oper.entries = [] then true
  else g.oper.staysOpen c 512 g.idx (g.start + g.oper.endOf g.idx - s.dtTotal) need
/-- A class of a lane is paused (R382). -/
def State.isPaused (s : State) (lane c : Nat) : Bool := decide (mapGet (fun _ => 0) s.net.paused (8 * lane + c) ≠ 0)
/-- A class has a shaper (R380, R399). -/
def State.shaped (s : State) (lane c : Nat) : Bool := decide (lane < 2) && bit (s.ob (oidNetShaper lane c)) 31
/-- The credit of a class in 10^−6 bit. -/
def State.credit (s : State) (lane c : Nat) : Int := mapGet (fun _ => 0) s.net.cred (8 * lane + c)
/-- Credits of a lane's classes move to the present (R380): at idleSlope while the class waits and the lane transmits another
class, at sendSlope while it transmits. A negative credit recovers to 0 at idleSlope at any other time. -/
def State.credits (s : State) (lane : Nat) : State :=
  let fin' := mapGet (fun _ => 0) s.net.txEnd lane
  let cls := mapGet (fun _ => 0) s.net.txCls lane
  forUpTo 8 (fun c t =>
    let k := 8 * lane + c
    let at' := mapGet (fun _ => 0) t.net.credAt k
    let now := t.time.cyc
    let busy : Nat := min now fin' - min at' fin'
    let rest : Nat := now - at' - busy
    let idle : Int := fld (t.ob (oidNetShaper lane c)) 23 0
    let rate : Int := t.laneMbps lane * 1000
    let waits := decide (t.queue lane c ≠ [])
    let up (v : Int) (n : Nat) (held : Bool) : Int :=
      if !t.gateFor lane c 0 then v
      else if held then v + idle * 4 * n
      else if v < 0 then min 0 (v + idle * 4 * n)
      else v
    let v := t.credit lane c
    let v := if cls = c then v + (idle - rate) * 4 * busy else up v busy waits
    let v := up v rest false
    let v := if waits then v else min v 0
    let v := if t.shaped lane c then v else 0
    t.setNet { t.net with cred := mapSet (fun _ => 0) t.net.cred k v, credAt := mapSet (fun _ => 0) t.net.credAt k now }) s

/-- The residence time `res`, in 2^−16 ns, is added to the correctionField of a PTP event message that the bridge forwards,
and under profile 1 the path delay of the ingress lane to that of a Sync (R353). -/
def State.correct (s : State) (f : Frame) (res : Int) : Frame :=
  match ptpOff f.bytes with
  | none => f
  | some o =>
    if f.src > 1 ∨ ptpType f.bytes o > 3 then f
    else
      let link := if fld (s.ob oidPtpCfg) 2 0 = 1 ∧ ptpType f.bytes o = 0 then s.pathDelay f.src else 0
      let c : Int := (beAt f.bytes (o + 8) 8 + res + link) % 2 ^ 64
      { f with bytes := f.bytes.take (o + 8) ++ beBytes 8 c.toNat ++ f.bytes.drop (o + 16) }

/-- A frame starts on a lane after `wait` ns, with the residence time `res` (R375, R394, R397). -/
def State.startFrame (s : State) (lane : Nat) (f : Frame) (wait : Nat) (res : Int) : State :=
  let n := s.net
  let fin' := s.time.cyc + (wait + s.wireNs lane (f.len + 20) + 3) / 4
  let s := s.setNet { n with
    txEnd := mapSet (fun _ => 0) n.txEnd lane fin'
    txCls := mapSet (fun _ => 0) n.txCls lane f.tc
    sent := mapSet (fun _ => none) n.sent lane (some (s.correct f res)) }
  let s := s.giveBack lane f true
  if f.bad then s else s.put (oidLaneTxFrames lane) (s.ob (oidLaneTxFrames lane) + 1)

/-- The class that may start next on a lane: the highest whose gate, shaper and pause allow (R375, R379–R382). -/
def State.nextClass (s : State) (lane : Nat) : Option Nat :=
  ((List.range 8).reverse).find? (fun c =>
    match s.queue lane c with
    | [] => false
    | f :: _ =>
      decide (f.ready ≤ s.time.cyc) &&
      s.gateFor lane c (s.wireNs lane (f.len + 8)) && !s.isPaused lane c && (!s.shaped lane c || decide (s.credit lane c ≥ 0)))

/-- FRAME_TRANSMIT: a queued frame starts on an idle lane (R375). -/
def execFrameTransmit (lane : Fin 4) (s : State) : Out :=
  let s1 := s.credits lane
  .next (
    if !s.laneUp lane ∨ (s.sending lane).isSome then s
    else match s1.nextClass lane with
      | none => s1
      | some c =>
        match s1.queue lane c with
        | [] => s1
        | f :: r => (s1.setQueue lane c r).startFrame lane f 0 ((((s1.time.dt : Int) - f.at') % dtMod) / 2 ^ 32))

/-- A frame enters the queue of its class, or is discarded (R375). -/
def State.enqueue (s : State) (lane : Nat) (f : Frame) : State :=
  let q := s.queue lane f.tc
  let all := (s.net.queues.map (fun e => frameBytes e.2)).foldl (· + ·) 0
  if !s.laneUp lane then s.giveBack lane f false
  else if frameBytes q + f.len > 262144 ∨ all + f.len > 2097152 then
    (s.queueDrop lane f).count (oidLaneQdrop lane f.tc)
  else (s.credits lane).setQueue lane f.tc (q ++ [f])

/-- A frame may transit by cut-through (R374). -/
def State.mayCut (s : State) (inLane lane tc : Nat) : Bool :=
  decide (s.laneMbps inLane = s.laneMbps lane) && bit (s.ob oidNetCutMask) tc && (s.sending lane).isNone &&
  (List.range 8).all (fun c => c < tc || decide (s.queue lane c = [])) &&
  s.gateFor lane tc (s.wireNs lane 1542) && (!s.shaped lane tc || decide (s.credit lane tc ≥ 0)) && !s.isPaused lane tc

/-- A frame crosses from one media lane to the other. A cut-through frame leaves 640 ns ± 6.4 ns after it came, 1,600 ns ± 8
ns at 1 Gb/s, and with its FCS inverted where that fails; another waits for its last bit and at least 320 ns or 800 ns more
(R374). -/
def State.transit (s : State) (inLane lane : Nat) (f : Frame) (fcs : Bool) : State :=
  let fast := decide (s.laneMbps lane = 10000)
  if !s.laneUp lane then s
  else
    let s := s.credits lane
    if s.mayCut inLane lane f.tc then
      let (v, s) := s.free
      let (ns, tol) := if fast then (640, 6400) else (1600, 8000)
      let off : Int := v.toNat % (2 * tol + 1) - tol
      (if fcs then s else s.laneFlag inLane 6).startFrame lane { f with bad := !fcs } ns (ns * 65536 + off * 65536 / 1000)
    else if fcs then
      s.enqueue lane { f with ready := s.time.cyc + (s.wireNs inLane f.len + (if fast then 320 else 800) + 3) / 4 }
    else s

/-! ### Gate control lists (R377, R378) -/

/-- The admin list of a lane. -/
def State.gclAdmin (s : State) (p n : Nat) : GclList :=
  { entries := (List.range n).map (fun i => s.ob (oidGclAdmin p i))
    cycle := s.obn (oidGclAdminCycle p)
    base := (s.obn (oidGclAdminBaseSecHi p) * 2 ^ 32 + s.obn (oidGclAdminBaseSecLo p)) * 10 ^ 9 + s.obn (oidGclAdminBaseNs p) }
/-- A write of GCL_CTRL (R378, R399). -/
def wrGclCtrl (p : Nat) (v : Word) (s : State) : Wr :=
  let n := fld v 10 2
  let keep := (v &&& 0x7FD) ||| (s.ob (oidGclCtrl p) &&& 0x800)
  if !bit v 1 then .ok (s.put (oidGclCtrl p) keep)
  else
    let l := s.gclAdmin p n
    if n = 0 ∨ n > 256 ∨ l.cycle < 1000 ∨ l.cycle > 10 ^ 9 ∨ l.entries.any (fun w => gclIv w < 64) then .error stRange
    else
      let t := s.dtTotal + 10000
      let at' := if l.base ≥ t then l.base else l.base + (t - l.base + l.cycle - 1) / l.cycle * l.cycle
      let s := s.put (oidGclCtrl p) (keep ||| 0x800)
      let s := (s.putn (oidGclChangeSecLo p) (at' / 10 ^ 9)).putn (oidGclChangeNs p) (at' % 10 ^ 9)
      .ok (s.setGcl p { s.gcl p with pend := some l, change := at' })
/-- CONFIG_CHANGE (R378). -/
def execConfigChange (acc : Access) (p : Fin 2) (s : State) : Out :=
  let v := (s.ob (oidGclCtrl p) &&& 0x7FD) ||| 2
  .next (s.writeCmd acc (oidGclCtrl p) v (fun _ u => wrGclCtrl p v u))
/-- GCL_CHANGE: at the change time the pending list becomes the oper list (R378). -/
def execGclChange (p : Fin 2) (s : State) : Out :=
  let g := s.gcl p
  .next (
    match g.pend with
    | none => s
    | some l =>
      if s.dtTotal < g.change then s else
      let s := s.credits p
      let s := s.setGcl p { g with pend := none, oper := l, idx := 0, start := g.change }
      let s := (s.putn (oidGclOperLen p) l.entries.length).putn (oidGclOperCycle p) l.cycle
      let s := s.putFld (oidGclCtrl p) 11 11 0
      s.raiseFull none (wd (g.change / 10 ^ 9)) (wd (g.change % 10 ^ 9)) 10 4 [(1, p.val)])
/-- GCL_OPER as it reads (R400). -/
def State.readGclOper (s : State) (p i : Nat) : Word := nth 0 (s.gcl p).oper.entries i
/-- GCL_ENTRY_ADVANCE: the interval of the entry in force ends (R377). -/
def execGclEntryAdvance (p : Fin 2) (s : State) : Out :=
  let g := s.gcl p
  let l := g.oper
  .next (
    if l.entries = [] ∨ s.dtTotal < g.start + l.endOf g.idx then s
    else
      let s := s.credits p
      if g.idx + 1 < l.entries.length ∧ l.endOf g.idx < l.cycle then s.setGcl p { g with idx := g.idx + 1 }
      else s.setGcl p { g with idx := 0, start := g.start + l.cycle })

/-! ### Pauses (R381–R383) -/

/-- A class of a lane is immune to pause. -/
def State.immune (s : State) (c : Nat) : Bool := bit (s.ob oidNetPauseImmune) c
/-- The classes that a pause frame affects, each with its time (R381). -/
def State.pauseList (s : State) (pfc : Bool) (enable : Byte) (times : List Half) : List (Nat × Nat) :=
  if pfc then
    ((List.range 8).filter (fun p => enable.getLsbD p)).map (fun p =>
      (fld (s.ob oidNetPcpTc) (3 * p + 2) (3 * p), (nth 0 times p).toNat))
  else (List.range 8).map (fun c => (c, (nth 0 times 0).toNat))
/-- PAUSE_RX (R381, R382). -/
def execPauseRx (lane : Fin 4) (pfc : Bool) (enable : Byte) (times : List Half) (s : State) : Out :=
  let c := s.ob (oidLaneCfg lane)
  let l := s.pauseList pfc enable times
  .next (
    if !s.laneUp lane ∨ !bit c 4 ∨ bit c 6 ≠ pfc then s
    else
      let s := s.credits lane
      let s := l.foldl (fun t e =>
        if t.immune e.1 then t
        else
          let fin' := if e.2 = 0 then 0 else t.time.cyc + (e.2 * 512000 / t.laneMbps lane + 3) / 4
          t.setNet { t.net with paused := mapSet (fun _ => 0) t.net.paused (8 * lane.val + e.1) fin' }) s
      let s := if l.any (fun e => s.immune e.1) then (s.laneFlag lane 5).raiseOnce lane 10 3 [] else s
      if l.any (fun e => !s.immune e.1) then s.laneFlag lane 4 else s)
/-- PAUSE_EXPIRE: q × 512 bit times have passed (R381, R382). -/
def execPauseExpire (lane : Fin 4) (tc : Fin 8) (s : State) : Out :=
  .next (
    if s.time.cyc < mapGet (fun _ => 0) s.net.paused (8 * lane.val + tc.val) then s
    else
      let s := s.credits lane
      s.setNet { s.net with paused := mapSet (fun _ => 0) s.net.paused (8 * lane.val + tc.val) 0 })
/-- The bytes that a lane has delivered into the buffer in a class (R383). -/
def State.deliveredBytes (s : State) (lane tc : Nat) : Nat :=
  (s.net.queues.map (fun e => frameBytes (e.2.filter (fun f => f.src = lane && f.tc = tc)))).foldl (· + ·) 0
/-- The priorities of a class, as a mask (R383, R399). -/
def State.priosOf (s : State) (tc : Nat) : Nat :=
  (List.range 8).foldl (fun a p => if fld (s.ob oidNetPcpTc) (3 * p + 2) (3 * p) = tc then a + 2 ^ p else a) 0
/-- A lane sends a pause for a class (R383). -/
def State.sendPause (s : State) (lane tc quanta : Nat) : State :=
  let pfc := bit (s.ob (oidLaneCfg lane)) 6
  let f : PauseFrame := { pfc := pfc, enable := if pfc then s.priosOf tc else 0, quanta := quanta }
  s.setNet { s.net with
    asked := mapSet (fun _ => 0) s.net.asked (8 * lane + tc) quanta
    pauseOut := mapSet (fun _ => none) s.net.pauseOut lane (some f) }
/-- PAUSE_TX_SEND: a threshold of R383 is crossed. -/
def execPauseTxSend (lane : Fin 4) (tc : Fin 8) (s : State) : Out :=
  let b := s.deliveredBytes lane tc
  let asked := mapGet (fun _ => 0) s.net.asked (8 * lane.val + tc.val)
  .next (
    if !s.laneUp lane ∨ !bit (s.ob (oidLaneCfg lane)) 5 ∨ s.immune tc then s
    else if b ≥ 196608 ∧ asked = 0 then s.sendPause lane tc 0xFFFF
    else if b < 65536 ∧ asked ≠ 0 then s.sendPause lane tc 0
    else s)

/-! ### The internal port (R392–R395) -/

/-- A host filter entry matches a frame on a lane (R396). -/
def State.filterHit (s : State) (k lane : Nat) (f : List Byte) : Bool :=
  let h := s.ob (oidNetHostFilter k)
  bit h 31 && decide (lane < 3) && bit h (17 + lane) &&
    (if bit h 16 then ipProto f = 17 && udpDst f = fld h 15 0 else etherType f = fld h 15 0)
/-- The ring that takes a frame for the internal port (R392). -/
def State.ringOf (s : State) (lane : Nat) (f : List Byte) : Option Nat :=
  let ip := s.obn (oidLaneIpv4 lane)
  let fcp := udpDst f = s.obn oidNetFcpPort && decide (beAt f (payOff f + 16) 4 = ip) && decide (ip ≠ 0) &&
    (lane = 2 || (decide (lane < 2) && bit (s.ob oidNetFcpInband) 0 && vidOf f = fld (s.ob oidNetFcpInband) 12 1))
  let ctl := etherType f = 0x0806 || ipProto f = 1 || ipProto f = 2 || (decide (lane < 2) && (ptpGeneral f || isEsmc f))
  if fcp then some 0
  else if ctl then some 1
  else if lane = 3 && isDabako f then some 2
  else if (List.range 4).any (fun k => s.filterHit k lane f) then some 3
  else none

/-- The descriptors that a frame of `len` bytes takes, with the offset of each in the frame (R394, R395): flags SOF 2, EOF 4,
TRUNC 8, TS_VALID 16. -/
def descsFor (sec ns : Nat) : Nat → List (Nat × Nat) → Nat → List (Nat × Desc)
  | _, [], _ => []
  | off, (a, b) :: r, len =>
    let last := decide (len ≤ b)
    let d : Desc := { addr := a, bufLen := b, len := min len b, flags := (if off = 0 then 2 else 0) + (if last then 4 else 0) + 16, tsSec := sec % 65536, tsNs := ns }
    if last then [(off, d)] else (off, d) :: descsFor sec ns (off + b) r (len - b)

/-- A frame is written to a receive ring whose next descriptors that the device owns have the given buffers in T7; `false`
where it is discarded or cut short (R395). -/
def State.toRing (s : State) (lane ring : Nat) (data : List Byte) (bufs : List (Nat × Nat)) : State × Bool :=
  let l := descsFor s.dtSec s.dtNs 0 bufs data.length
  let room := (bufs.map (·.2)).foldl (· + ·) 0
  let n := l.length
  let cut := decide (room < data.length)
  let ds := (l.map (·.2)).mapIdx (fun i d => if cut then { d with flags := d.flags + 8 + (if i + 1 = n then 4 else 0) } else d)
  if bufs = [] then (s.laneFlag lane 3, false)
  else
    let ram := l.foldl (fun m e => mapSetFrom (fun _ => 0) m e.2.addr (slice data e.1 e.2.len)) s.host.netRam
    let s := { s with host := { s.host with netRam := ram } }
    let s := s.setNet { s.net with rings := mapSet (fun _ => []) s.net.rings (8 * lane + ring) ds }
    if cut then ((s.laneFlag lane 2).raise 10 1 [(1, lane), (1, ring)], false) else (s, true)

end Sys2Proof.Machine
end

