-- ==== Sys2Proof/Machine/Ip.lean ====
section
/-!
DEFINITION. Frames that the firmware sends through a transmit ring (R376, R392–R394), FCP over UDP (R417), IGMPv3 reports
(R373), a lane that comes UP (R371).
-/

namespace Sys2Proof.Machine

/-- A frame leaves through a transmit ring of a lane in a class, in one buffer of the firmware's choice (R392–R394). -/
def State.sendRing (s : State) (lane ring tc : Nat) (bytes : List Byte) : State :=
  let (a, s) := s.free
  let d : Desc := { addr := 0x50000000 + a.toNat % 0x3FF800, bufLen := 2048, len := bytes.length, flags := 7 + 64 * tc, tsSec := 0, tsNs := 0 }
  s.enqueue lane { len := max 64 (bytes.length + 4), tc := tc, src := 8, at' := s.time.dt, bytes := bytes, ready := s.time.cyc, descs := (4 + ring, [d]) }
/-- The class of FCP and firmware traffic (R376). -/
def State.ctrlTc (s : State) : Nat := fld (s.ob oidNetTcRoles) 8 6
/-- The class of host-tunnel frames (R376). -/
def State.hostTc (s : State) : Nat := fld (s.ob oidNetTcRoles) 11 9

/-- The one's complement checksum of IPv4 and IGMP, of bytes in pairs. -/
def onesSum : List Byte → Nat
  | a :: b :: r => let v := a.toNat * 256 + b.toNat + onesSum r; v % 65536 + v / 65536
  | [a] => a.toNat * 256
  | [] => 0
/-- Bytes with their checksum written at an offset where they hold zero. -/
def withSum (o : Nat) (l : List Byte) : List Byte := l.take o ++ beBytes 2 (65535 - onesSum l) ++ l.drop (o + 2)

/-- An IPv4 header without options (PRESUMED: RFC 791, log 61). -/
def ip4 (tos id ttl proto : Nat) (src dst : Word) (len : Nat) : List Byte :=
  withSum 10 (beBytes 1 0x45 ++ beBytes 1 tos ++ beBytes 2 (20 + len) ++ beBytes 2 id ++ beBytes 2 0 ++ beBytes 1 ttl ++
    beBytes 1 proto ++ beBytes 2 0 ++ beBytes 4 src.toNat ++ beBytes 4 dst.toNat)
/-- A UDP datagram with its checksum (PRESUMED: RFC 768, log 61). -/
def udp4 (src dst : Word) (sport dport : Nat) (data : List Byte) : List Byte :=
  let n := 8 + data.length
  let head := beBytes 2 sport ++ beBytes 2 dport ++ beBytes 2 n
  let pseudo := beBytes 4 src.toNat ++ beBytes 4 dst.toNat ++ beBytes 2 17 ++ beBytes 2 n
  let sum := 65535 - onesSum (pseudo ++ head ++ beBytes 2 0 ++ data)
  head ++ beBytes 2 (if sum = 0 then 65535 else sum) ++ data
/-- An FCP device frame leaves over UDP, from NET_FCP_PORT to the source of the commands, in-band frames in the VLAN of
NET_FCP_INBAND (R376, R392, R417). -/
def State.udpSend (s : State) (lane : Nat) (ip : Word) (udp : Nat) (data : List Byte) : State :=
  let field (i : Nat) : Nat := (Config.ipField i).toNat
  let me := s.ob (oidLaneIpv4 lane)
  let d := udp4 me ip (s.obn oidNetFcpPort) udp data
  let tag := if lane < 2 then beBytes 2 0x8100 ++ beBytes 2 (field 3 % 8 * 8192 + fld (s.ob oidNetFcpInband) 12 1) else []
  let f := beBytes 6 (Config.neighbour ip).toNat ++ beBytes 6 (s.mac lane) ++ tag ++ beBytes 2 0x0800 ++
    ip4 (field 0 % 256) (field 1) (field 2 % 256) 17 me ip d.length ++ d
  s.sendRing lane 0 s.ctrlTc (f ++ List.replicate (60 - f.length) 0)

/-- The multicast groups of the enabled AES67 receive streams on a lane (R373, R388). -/
def State.groups (s : State) (lane : Nat) : List Nat :=
  ((List.range 128).filterMap (fun n =>
    let c := s.ob (oidNetRxCfg n)
    let g := s.obn (oidNetRxMatchLo n)
    if bit c 0 && bit c (2 + lane) && !bit c 1 && decide (g / 2 ^ 28 = 14) then some g else none)).eraseDups
/-- An IGMPv3 membership report for groups, each with the record type 2 (is), 3 (leaves) or 4 (joins), without a source
list (PRESUMED: RFC 3376, log 61). -/
def State.igmpFrame (s : State) (lane kind : Nat) (groups : List Nat) : List Byte :=
  let recs := groups.flatMap (fun g => beBytes 1 kind ++ beBytes 3 0 ++ beBytes 4 g)
  let igmp := withSum 2 (beBytes 2 0x2200 ++ beBytes 4 0 ++ beBytes 2 groups.length ++ recs)
  let ip := withSum 10 (beBytes 2 0x46C0 ++ beBytes 2 (24 + igmp.length) ++ beBytes 4 0 ++ beBytes 2 0x0102 ++ beBytes 2 0 ++
    beBytes 4 (s.obn (oidLaneIpv4 lane)) ++ beBytes 4 0xE0000016 ++ beBytes 4 0x94040000)
  let f := beBytes 6 0x01005E000016 ++ beBytes 6 (s.mac lane) ++ beBytes 2 0x0800 ++ ip ++ igmp
  f ++ List.replicate (60 - f.length) 0
/-- The firmware reports groups on a lane that is UP (R373). -/
def State.igmpReport (s : State) (lane kind : Nat) (groups : List Nat) : State :=
  if groups = [] ∨ !s.laneUp lane then s else s.sendRing lane 1 s.ctrlTc (s.igmpFrame lane kind groups)
/-- The groups that a lane has gained or lost since `old` are reported (R373). -/
def State.igmpChange (s : State) (old : Nat → List Nat) : State :=
  forUpTo 2 (fun lane t =>
    let now := t.groups lane
    (t.igmpReport lane 4 (now.filter (fun g => !(old lane).contains g))).igmpReport lane 3
      ((old lane).filter (fun g => !now.contains g))) s
/-- A membership query is answered (R373). -/
def State.igmpQuery (s : State) (lane : Nat) (f : List Byte) : State :=
  if lane < 2 ∧ ipProto f = 2 ∧ beAt f (l4Off f) 1 = 0x11 then
    let g := beAt f (l4Off f + 4) 4
    s.igmpReport lane 2 ((s.groups lane).filter (fun x => decide (g = 0) || decide (x = g)))
  else s

/-- LANE_LINK_UP: lock has held for 10 ms (R371). -/
def execLaneLinkUp (lane : Fin 4) (s : State) : Out :=
  .next (
    if s.pd3 ∧ s.lane lane = lnDown then
      let s := ((s.putn (oidLaneState lane) lnUp).raise 10 0 [(1, lane), (1, lnUp)]).txCheckAll
      if lane.val < 2 then s.igmpReport lane 4 (s.groups lane) else s
    else s)

end Sys2Proof.Machine
end

