-- ==== Sys2Proof/Machine/Sess.lean ====
section
/-!
DEFINITION. Sessions below their commands (R411–R420, R430–R433, R437, R438): sources, device frames, completion queues,
tags, admission, event queues, closing.
-/

namespace Sys2Proof.Machine

/-- An FCP_STICKY flag with its counter (R444). -/
def State.fcpFlag (s : State) (b : Nat) : State := s.sticky oidFcpSticky b (oidFcpCnt b)

/-! ### Sources (R411, R414) -/

/-- Frames of a port class are accepted (R411). A twin's frames are its own engine's. -/
def State.classOpen (s : State) (pc : Nat) : Bool :=
  if pc = 1 then true
  else if pc = 5 then bit (s.ob oidNetFcpInband) 0
  else if pc = 6 then s.paired
  else bit (s.ob oidFcpPcEnable) pc
/-- A session is bound to a source (R414). -/
def Session.boundTo (q : Session) (src : Source) : Bool :=
  decide (q.pc = src.pc.val) &&
  (if q.pc = 4 ∨ q.pc = 5 then decide (q.ip = src.ip ∧ q.udp = src.udp) else q.pc ≠ 1 || decide (q.port = src.port))
/-- The source to which a session is bound. -/
def Session.source (q : Session) : Source := { pc := ⟨q.pc % 7, Nat.mod_lt _ (by decide)⟩, port := q.port, ip := q.ip, udp := q.udp }

/-! ### Device frames (R419, R420) -/

/-- A device frame as bytes. -/
def Completion.frame (c : Completion) : List Byte :=
  leBytes 2 0x4346 ++ leBytes 1 1 ++ leBytes 1 (c.opcode + 0x80) ++ leBytes 1 c.session ++ leBytes 1 c.tag ++
  leBytes 2 c.body.length ++ leBytes 1 c.status ++ leBytes 1 c.phase ++ leBytes 1 c.index ++ leBytes 1 0 ++
  leBytes 4 c.instar.toNat ++ c.body
/-- The body of a refusal: the OID concerned and the entry that failed. -/
def refusalBody (oid index : Nat) : List Byte := leBytes 4 oid ++ leBytes 2 index ++ leBytes 2 0

/-- Channel `c`. -/
def State.chan (s : State) (c : Nat) : Chan := mapGet (fun _ => {}) s.host.chans c
/-- Replace channel `c`. -/
def State.setChan (s : State) (c : Nat) (x : Chan) : State :=
  { s with host := { s.host with chans := mapSet (fun _ => {}) s.host.chans c x } }
/-- SPI port `p`: 0 SPI-A, 1 SPI-B, 2 SERVICE. -/
def State.spi (s : State) (p : Nat) : SpiPort := mapGet (fun _ => {}) s.host.spi p
/-- Replace SPI port `p`. -/
def State.setSpi (s : State) (p : Nat) (x : SpiPort) : State :=
  { s with host := { s.host with spi := mapSet (fun _ => {}) s.host.spi p x } }
/-- The SPI port that carries a class: PC2 SPI-A, PC3 SPI-B, PC0 SERVICE. -/
def spiOf (pc : Nat) : Option Nat := if pc = 2 then some 0 else if pc = 3 then some 1 else if pc = 0 then some 2 else none

/-- A device frame leaves for a source on the network: PC4 through L2, PC5 through the media lane that its last frame came
from (R411, R414, R417). -/
def State.toNet (s : State) (src : Source) (frame : List Byte) : State :=
  if src.pc.val = 4 then s.udpSend 2 src.ip src.udp frame
  else if src.pc.val = 5 then s.udpSend (src.port % 2) src.ip src.udp frame
  else s
/-- A direct response goes to the port of its source: the DIRECT slot of a channel, the last eight of a SPI port, the
network (R420, R452, R462). -/
def State.direct (s : State) (src : Source) (c : Completion) : State :=
  let f := c.frame
  let s := { s with answer := { status := c.status, body := c.body } }
  if src.pc.val = 1 then
    let x := s.chan src.port
    s.setChan src.port { x with dseq := (x.dseq + 1) % 256, direct := f }
  else match spiOf src.pc.val with
    | some p =>
      let x := s.spi p
      let n := (x.dseq + 1) % 256
      s.setSpi p { x with dseq := n, direct := ((n, f) :: x.direct).take 8 }
    | none => s.toNet src f
/-- A direct response with a status; a refusal's body names no object. -/
def State.directStatus (s : State) (src : Source) (op session tag status : Nat) (body : List Byte) : State :=
  s.direct src { opcode := op, session := session, tag := tag, status := status, instar := s.ob oidInstar, body := if status = stOk then body else refusalBody 0xFFFFFFFF 0 }

/-! ### Completion queues and tags (R431–R433) -/

/-- The use of a tag: 0 free, 1 executing, 2 + n holding completion n. -/
def Session.tagUse (q : Session) (t : Nat) : Nat := mapGet (fun _ => 0) q.tags t
/-- A tag takes a use. -/
def Session.setTag (q : Session) (t u : Nat) : Session := { q with tags := mapSet (fun _ => 0) q.tags t u }
/-- The entry of a completion queue. -/
def Session.entry (q : Session) (i : Nat) : Completion := mapGet (fun _ => {}) q.cq i
/-- The executing commands of a session. -/
def Session.executing (q : Session) : Nat := (q.tags.filter (fun e => e.2 = 1)).length
/-- The executing commands of the device: TAG_POOL_USED (R433, R442). -/
def State.poolUsed (s : State) : Nat := (s.sess.map (fun e => e.2.executing)).foldl (· + ·) 0
/-- PHASE of the pass that position `n` lies in (R431). -/
def phaseOf (n : Nat) : Nat := (n / 64 + 1) % 2

/-- A completion is written at the tail; a CLOSING session's is discarded and its tag returned (R416, R431). A session that
a reset has ended takes none. -/
def State.complete (s : State) (n : Nat) (c : Completion) : State :=
  let q := s.ses n
  let c := { c with session := n, index := q.tail % 64, phase := phaseOf q.tail }
  let s := { s with answer := { status := c.status, body := c.body } }
  if q.st = 0 then s
  else if q.st = 2 then s.setSes n (q.setTag c.tag 0)
  else
    let q := q.setTag c.tag (2 + q.tail)
    (s.setSes n { q with cq := mapSet (fun _ => {}) q.cq (q.tail % 64) c, tail := q.tail + 1 }).toNet q.source c.frame

/-- The host's head moves: entries passed and their tags are freed. A head beyond the tail sets BAD_FRAME (R432). -/
def State.cqHead (s : State) (n v : Nat) : State :=
  let q := s.ses n
  let head := q.head + (v + 128 - q.head % 128) % 128
  if head > q.tail then s.fcpFlag 0
  else
    s.setSes n { q with
      head := head
      tags := q.tags.filter (fun e => !(decide (2 ≤ e.2) && decide (e.2 - 2 < head))) }

/-- A session's events up to a SEQ are acknowledged; where that makes room, the loss is reported first (R438). -/
def State.evqAck (s : State) (n ack : Nat) : State :=
  let q := s.ses n
  let q := { q with evq := q.evq.filter (fun r => decide ((ack + 65536 - r.seq) % 65536 ≥ 32768)) }
  if q.lost = 0 ∨ q.evq.length ≥ 256 then s.setSes n q
  else (s.setSes n (q.enter 2 [] (s.ob oidInstar) (s.ob oidTimeGbSecLo) (s.ob oidTimeGbNs)).1).intRaise 0

/-! ### Admission (R414, R420, R433) -/

/-- What a command answers: done with a body and the instar to report, refused with what the refusal leaves, or waiting to
finish later. -/
inductive FcpRes where
  | done (s : State) (body : List Byte) (instar : Option Word)
  | refused (s : State) (r : Refused) (acc : Access) (write : Bool)
  | wait (s : State) (sets : List Nat)

/-- The access of a session. -/
def State.sesAccess (s : State) (n : Nat) : Access :=
  let q := s.ses n
  { session := ⟨n % 64, Nat.mod_lt _ (by decide)⟩, pc := ⟨q.pc % 7, Nat.mod_lt _ (by decide)⟩, expert := q.expert }

/-- A command of a session from its arrival to its completion. `bad` is the status of an opcode or a body that the checks
of R420 refuse. -/
def State.fcpRun (s : State) (h : Hdr) (op : Nat) (bad : Option Nat) (run : State → Access → FcpRes) : State :=
  let n := h.session.toNat
  let tag := h.tag.toNat
  let q := s.ses n
  if !s.classOpen h.src.pc then { s.fcpFlag 0 with answer := { status := stBadFrame } }
  else if n = 0 ∨ n > 63 ∨ q.st ≠ 1 ∨ !q.boundTo h.src then
    (s.fcpFlag 1).directStatus h.src op n tag stBadSession []
  else
    let s := match h.cqHead with | some v => s.cqHead n (v.toNat % 128) | none => s
    let s := match h.evqAck with | some a => s.evqAck n a.toNat | none => s
    let s := if q.pc = 5 then s.setSes n { s.ses n with port := h.src.port } else s
    let q := s.ses n
    let use := q.tagUse tag
    let fin (t : State) (st : Nat) (body : List Byte) (i : Option Word) : State :=
      t.complete n { opcode := op, tag := tag, status := st, instar := i.getD (t.ob oidInstar), body := body }
    if tag > 63 then s.directStatus h.src op n tag stBadFrame []
    else if use = 1 then { s.fcpFlag 2 with answer := { status := stBusy } }
    else if use ≥ 2 then
      let c := q.entry ((use - 2) % 64)
      ({ s with answer := { status := c.status, body := c.body } }).toNet q.source c.frame
    else if q.executing ≥ q.credit ∨ s.poolUsed ≥ 256 then
      let s := if q.executing ≥ q.credit then s.fcpFlag 3 else s
      let s := if s.poolUsed ≥ 256 then s.fcpFlag 4 else s
      fin s stBusy (refusalBody 0xFFFFFFFF 0) none
    else match bad with
      | some st => fin s st (refusalBody 0xFFFFFFFF 0) none
      | none =>
        match run s (s.sesAccess n) with
        | .done t body i => fin t stOk body i
        | .refused s r acc write =>
          let s := if r.cls then s.denied acc r.oid write else s
          let t := fin s r.status (refusalBody r.oid r.index) none
          { t with answer := { t.answer with oid := r.oid, index := r.index } }
        | .wait t sets =>
          let q := (t.ses n).setTag tag 1
          { t.setSes n { q with waiting := q.waiting ++ [{ tag := tag, opcode := op, sets := sets }] } with answer := {} }

/-- A command that waited finishes (R430). -/
def State.finish (s : State) (n : Nat) (w : Waiting) (status : Nat) (body : List Byte) : State :=
  let q := s.ses n
  let s := s.setSes n { q with waiting := q.waiting.filter (fun x => x.tag ≠ w.tag) }
  s.complete n { opcode := w.opcode, tag := w.tag, status := status, instar := s.ob oidInstar, body := body }

/-! ### Opening and closing (R413–R416) -/

/-- The fields of OPEN_SESSION (R413). -/
structure OpenReq where
  mode : Nat
  credit : Nat
  timeout : Nat
  req : Nat

/-- The session that a free slot gives: the one asked for, else the lowest free one. -/
def State.freeSession (s : State) (req : Nat) : Option Nat :=
  if req ≠ 0 then (if (s.ses req).st = 0 then some req else none)
  else ((List.range 64).drop 1).find? (fun n => (s.ses n).st = 0)
/-- The refusal of an OPEN_SESSION, in the order of R413; a channel holds at most one session (R454). -/
def State.openRefused (s : State) (src : Source) (r : OpenReq) : Option Nat :=
  let pc := src.pc.val
  if r.mode > 1 ∨ r.credit = 0 ∨ r.credit > 64 ∨ r.timeout > 600 ∨ r.req > 63 ∨ (r.timeout = 0 ∧ (pc = 4 ∨ pc = 5)) then
    some stRange
  else if pc = 6 ∨ (r.mode = 1 ∧ !bit (s.ob oidSessExpertMask) pc) then some stDenied
  else if (s.freeSession r.req).isNone ∨
      (pc = 1 ∧ s.sess.any (fun e => e.2.st ≠ 0 && e.2.pc = 1 && e.2.port = src.port)) then some stBusy
  else none

/-- The response body of an opened session. -/
def State.openBody (s : State) (n : Nat) : List Byte :=
  let q := s.ses n
  leBytes 1 q.pc ++ leBytes 1 (if q.expert then 1 else 0) ++ leBytes 1 q.credit ++ leBytes 1 0 ++
  leBytes 2 (256 - s.poolUsed) ++ leBytes 2 0

/-- OPEN_SESSION (R413–R415). `recent` says that less than 1 s has passed since the same source opened a session with the
same tag. -/
def State.openSession (s : State) (h : Hdr) (bad recent : Bool) (r : OpenReq) : State :=
  let src := h.src
  let tag := h.tag.toNat
  let same := s.sess.find? (fun e => e.2.st = 1 && e.2.openTag = tag && e.2.boundTo src)
  if !s.classOpen src.pc then { s.fcpFlag 0 with answer := { status := stBadFrame } }
  else if h.session ≠ 0 then (s.fcpFlag 1).directStatus src 1 h.session.toNat tag stBadSession []
  else if tag > 63 ∨ bad then s.directStatus src 1 0 tag stBadFrame []
  else match (if recent then same else none) with
    | some (n, _) => s.directStatus src 1 n tag stOk (s.openBody n)
    | none =>
      match s.openRefused src r with
      | some st =>
        s.directStatus src 1 0 tag st []
      | none =>
        match s.freeSession r.req with
        | none => s
        | some n =>
          let s := s.setSes n { st := 1, pc := src.pc, expert := decide (r.mode = 1), credit := r.credit, timeout := r.timeout, port := src.port, ip := src.ip, udp := src.udp, openTag := tag }
          let s := s.raise 0 0 [(1, n), (1, src.pc), (1, r.mode)]
          s.directStatus src 1 n tag stOk (s.openBody n)

/-- A session begins to close: reason 0 CLOSED, 1 TIMEOUT, 2 DISABLED (R415). -/
def State.closing (s : State) (n reason : Nat) : State :=
  let q := s.ses n
  let g := s.guard
  if q.st ≠ 1 then s
  else
    let s := s.setSes n { q with st := 2, reason := reason }
    -- the guard unlock ends with its session (R512)
    { s with guard := { g with holder := if g.holder = some n then none else g.holder, first := if g.first = some n then none else g.first } }
/-- Every OPEN session of `p` begins to close. -/
def State.closeAll (s : State) (p : Session → Bool) (reason : Nat) : State :=
  forUpTo 64 (fun n t => if p (t.ses n) then t.closing n reason else t) s

/-- CLOSE_SESSION (R415, R420): answered directly, once the session is FREE. -/
def State.closeSession (s : State) (h : Hdr) (bad : Bool) : State :=
  let n := h.session.toNat
  let q := s.ses n
  if !s.classOpen h.src.pc then { s.fcpFlag 0 with answer := { status := stBadFrame } }
  else if n = 0 ∨ n > 63 ∨ q.st ≠ 1 ∨ !q.boundTo h.src then (s.fcpFlag 1).directStatus h.src 2 n h.tag.toNat stBadSession []
  else
    let s := match h.cqHead with | some v => s.cqHead n (v.toNat % 128) | none => s
    let s := match h.evqAck with | some a => s.evqAck n a.toNat | none => s
    if h.tag.toNat > 63 ∨ bad then s.directStatus h.src 2 n h.tag.toNat stBadFrame []
    else { (s.setSes n { s.ses n with closeTag := some h.tag.toNat }).closing n 0 with answer := {} }

/-- SESSION_CLOSE_COMPLETE: every executing command has finished, and the actions of R416 apply (R199, R202, R242). -/
def execSessionCloseComplete (session : Fin 64) (s : State) : Out :=
  let n := session.val
  let q := s.ses n
  .next (
    if q.st ≠ 2 ∨ q.executing ≠ 0 then s
    else
      let s := (s.withdraw (fun o => o = n)).mirror (.withdraw (some session))
      let s := match s.armed with | some c => if c.session = n then s.abortArmed 1 else s | none => s
      let s := (s.setSes n {}).raise 0 1 [(1, n), (1, q.reason)]
      match q.closeTag with
      | some t => s.directStatus q.source 2 n t stOk []
      | none => s)
/-- SESSION_TIMEOUT (R415). -/
def execSessionTimeout (session : Fin 64) (s : State) : Out :=
  let q := s.ses session
  .next (if q.st = 1 ∧ q.timeout ≠ 0 then (s.fcpFlag 6).closing session 1 else s)

/-! ### EVENT frames (R436, R438) -/

/-- A record as bytes. -/
def EvRecord.bytes (r : EvRecord) : List Byte :=
  leBytes 2 r.code ++ leBytes 2 r.seq ++ leBytes 4 r.instar.toNat ++ leBytes 4 r.sec.toNat ++ leBytes 4 r.ns.toNat ++
  leBytes 4 r.arg0.toNat ++ leBytes 4 r.arg1.toNat
/-- The records that one EVENT frame takes: up to 56, the two of one event together. -/
def takeRecords (l : List EvRecord) : List EvRecord :=
  let n := match (l.drop 56).head? with | some r => if r.code ≥ 0x8000 then 55 else 56 | none => 56
  l.take n
/-- Sends the first records of a session that `p` selects in an EVENT frame. -/
def State.eventFrame (s : State) (n : Nat) (p : EvRecord → Bool) : State :=
  let q := s.ses n
  let out := takeRecords (q.evq.filter p)
  if q.st ≠ 1 ∨ !(q.pc = 4 ∨ q.pc = 5) ∨ out = [] then s
  else
    let s := s.setSes n { q with evq := q.evq.map (fun r => if out.contains r then { r with sent := true } else r) }
    let f := ({ opcode := 0x40, session := n, instar := s.ob oidInstar, body := (out.map EvRecord.bytes).flatten } : Completion).frame
    { s.toNet q.source f with answer := { body := f } }
/-- EVENT_FRAME_SEND: records not yet sent go out (R438). -/
def execEventFrameSend (session : Fin 64) (s : State) : Out := .next (s.eventFrame session (fun r => !r.sent))
/-- EVENT_RESEND: records sent and not acknowledged go out again (R438). -/
def execEventResend (session : Fin 64) (s : State) : Out := .next (s.eventFrame session (fun r => r.sent))

/-- MGMT_SATURATION_DETECT: an admitted command has waited `wait` ms, 50 or more; at most once per second of the time clock
(R441). -/
def execMgmtSaturationDetect (wait : Word) (s : State) : Out :=
  let quiet : Bool := match s.host.satAt with | some t => bit (s.ob oidPwrDomains) 3 && decide (s.time.cyc < t + 250000000) | none => false
  .next (if wait.toNat < 50 ∨ quiet then s
    else ({ s with host := { s.host with satAt := some s.time.cyc } }).raise 0 3 [(4, wait.toNat)])

/-- A write of FCP_PC_ENABLE: the sessions of a class that is disabled close, and M9 loses its locks with its connections
(R36, R411, R471). -/
def wrFcpPcEnable (v : Word) (s : State) : Wr :=
  let old := s.ob oidFcpPcEnable
  let s := if bit old 0 && !bit v 0 then s.masterAbort 9 none else s
  .ok ((s.put oidFcpPcEnable v).closeAll (fun q => q.st = 1 && bit old q.pc && !bit v q.pc && q.pc ≠ 1) 2)
/-- FCP_PC_ENABLE_WRITE (R411). -/
def execFcpPcEnableWrite (acc : Access) (v : Word) (s : State) : Out :=
  .next (s.writeCmd acc oidFcpPcEnable v (fun _ u => wrFcpPcEnable v u))
/-- A write of NET_FCP_INBAND: clearing ENABLE closes the sessions of PC5 (R411, R399). -/
def wrFcpInband (v : Word) (s : State) : Wr :=
  let vid := fld v 12 1
  if bit v 0 ∧ (vid = 0 ∨ vid > 4094) then .error stRange
  else
    let s := s.put oidNetFcpInband v
    .ok (if bit v 0 then s else s.closeAll (fun q => q.st = 1 && q.pc = 5) 2)

/-- SESS_INFO as it reads (R443). -/
def State.readSessInfo (s : State) (n : Nat) : Word :=
  let q := s.ses n
  if q.st = 0 then 0
  else wd (q.st + (if q.expert then 4 else 0) + 8 * q.pc + 128 * q.credit + 16384 * q.executing
    + 2097152 * (q.tags.filter (fun e => e.2 ≠ 0)).length)

end Sys2Proof.Machine
end

