-- ==== Sys2Proof/Machine/Stream.lean ====
section
/-!
DEFINITION. Media streams: configuration (R385, R402), transmission (R386, R387), matching and placing of received packets
(R388–R390), the receive states (R391).
-/

namespace Sys2Proof.Machine

/-! ### The media count (R386, R389) -/

/-- The media count of an instant in ns at a rate in Hz. -/
def mediaCount (ns hz : Nat) : Nat := ns / 10 ^ 9 * hz + ns % 10 ^ 9 * hz / 10 ^ 9
/-- The first media count at or after an instant. -/
def mediaCeil (ns hz : Nat) : Nat := ns / 10 ^ 9 * hz + (ns % 10 ^ 9 * hz + 10 ^ 9 - 1) / 10 ^ 9
/-- The value congruent to `v` modulo 2^32 that lies nearest to `near` (R389). -/
def near32 (v near : Nat) : Int := near + (BitVec.ofNat 32 v - BitVec.ofNat 32 near).toInt

/-- Bytes of a sample of a format. -/
def fmtBytes (f : Nat) : Nat := f + 2
/-- A sample rounded and saturated to a format's width, in network byte order (R294, R384, R386). -/
def sampleBytes (f : Nat) (v : Word) : List Byte :=
  let w := 8 * fmtBytes f
  beBytes (fmtBytes f) ((satInt w (rneShift v.toInt (32 - w))) % 2 ^ w).toNat
/-- The samples of a payload, left-justified. -/
def payloadWords (f : Nat) : Nat → List Byte → List Word
  | 0, _ => []
  | n + 1, l => wd (ofBe (l.take (fmtBytes f)) * 2 ^ (32 - 8 * fmtBytes f)) :: payloadWords f n (l.drop (fmtBytes f))

/-! ### Configuration (R385, R388, R402) -/

/-- Receive stream `n`. -/
def State.nrx (s : State) (n : Nat) : NetRx := mapGet (fun _ => {}) s.net.rx n
/-- Replace receive stream `n`. -/
def State.setNrx (s : State) (n : Nat) (x : NetRx) : State :=
  s.setNet { s.net with rx := mapSet (fun _ => {}) s.net.rx n x }
/-- The state of a receive stream: 0 OFF, 1 WAIT, 2 ENTER, 3 RUN, 4 HOLD, 5 RESYNC. -/
def State.rxState (s : State) (n : Nat) : Nat := fld (s.ob (oidNetRxStatus n)) 2 0
/-- A receive stream takes a state (R391). -/
def State.setRxState (s : State) (n st : Nat) : State :=
  if s.rxState n = st then s
  else (s.putFld (oidNetRxStatus n) 2 0 st).raise 10 5 [(1, n), (1, st)]
/-- A NET_RX_STICKY flag with its counter. -/
def State.rxFlag (s : State) (n b : Nat) : State := s.sticky (oidNetRxSticky n) b (oidNetRxCnt n b)

/-- Two configurations of enabled streams share a channel. -/
def chOverlap (a b : Word) : Bool :=
  decide (fld a 22 13 < fld b 22 13 + fld b 12 6) && decide (fld b 22 13 < fld a 22 13 + fld a 12 6)
/-- The checks that both directions share at an enable (R385, R402). `cfgs` holds the other enabled streams. -/
def State.streamBad (s : State) (v : Word) (rx : Bool) (cfgs : List Word) : Bool :=
  let ch := fld v 12 6
  let pt := fld v 29 23
  let total := (cfgs.map (fun c => fld c 12 6)).foldl (· + ·) ch
  decide (fld v 3 2 = 0) || decide (ch = 0 ∨ ch > 64) || decide (fld v 22 13 + ch > 1024) ||
  (!bit v 1 && !(decide (pt ≥ 96) || (rx && decide (pt = 0)))) ||
  decide (total > (if s.fsA > 96000 then 512 else 1024)) || cfgs.any (chOverlap v)
/-- The sources that a receive stream permits, in order and once each; none for any (R388). -/
def State.srcsOf (s : State) (n : Nat) : List Nat :=
  let a := s.obn (oidNetRxSrcA n)
  let b := s.obn (oidNetRxSrcB n)
  [min a b, max a b].eraseDups.filter (· ≠ 0)
/-- What a receive stream matches (R388). -/
def State.matchOf (s : State) (n : Nat) (v : Word) : List Nat :=
  let lo := s.obn (oidNetRxMatchLo n)
  let hi := s.ob (oidNetRxMatchHi n)
  if bit v 1 then [1, fld v 3 2, lo, hi.toNat]
  else [0, fld v 3 2, lo, fld hi 15 0, fld v 29 23] ++ s.srcsOf n

/-- The receive state at which a fade-out ends (R391): the configuration that stands then is taken up. -/
def State.rxEnd (s : State) (n to' : Nat) : State :=
  let x := s.nrx n
  (s.setNrx n { x with out := false, k := 0, slots := [], vals := [], begun := false, cfg := s.ob (oidNetRxCfg n) }).setRxState n to'
/-- A receive stream leaves for WAIT or OFF, with a fade-out first where it is heard; in a domain without a rate no sample
follows (R391). -/
def State.rxLeave (s : State) (n to' : Nat) : State :=
  let st := s.rxState n
  let x := s.nrx n
  if st = 0 then s
  else if (st = 1 ∧ !x.out) ∨ s.domHz (s.domOf 1 n) = 0 then s.rxEnd n to'
  else if x.out then s.setNrx n { x with next := to' }
  else if st = 4 then s.setNrx n { x with out := true, next := to' }
  else
    let (a, b) := if st = 2 then (x.k, x.len) else (1, 1)
    s.setNrx n { x with out := true, next := to', k := 0, last := x.vals, wn := a, wd := b }

/-- A write of NET_RX_CFG (R385, R388, R391, R402). -/
def wrNetRxCfg (n : Nat) (v : Word) (s : State) : Wr :=
  let old := s.ob (oidNetRxCfg n)
  let others := (List.range 128).filter (fun m => m ≠ n && bit (s.ob (oidNetRxCfg m)) 0)
  if fld v 5 4 = 3 then .error stRange
  else if bit old 0 ∧ setBit v 0 true ≠ old then .error stNotReady
  else if !bit v 0 then .ok (((s.put (oidNetRxCfg n) v).rxLeave n 0).igmpChange s.groups)
  else if bit old 0 then .ok s
  else if s.streamBad v true (others.map (fun m => s.ob (oidNetRxCfg m))) ||
      others.any (fun m => s.matchOf m (s.ob (oidNetRxCfg m)) = s.matchOf n v) then .error stRange
  else
    let t := s.put (oidNetRxCfg n) v
    let t := if t.rxState n = 0 then (t.setNrx n { cfg := v }).setRxState n 1 else t.setNrx n { t.nrx n with next := 1 }
    .ok (t.igmpChange s.groups)
/-- NET_RX_CFG_WRITE (R385). -/
def execNetRxCfgWrite (acc : Access) (n : Fin 128) (v : Word) (s : State) : Out :=
  .next (s.writeCmd acc (oidNetRxCfg n) v (fun _ u => wrNetRxCfg n v u))
/-- A write of another object of a stream's block: refused while the stream is enabled (R385). -/
def wrStreamField (cfg : Nat) (plain : State → Wr) (s : State) : Wr := if bit (s.ob cfg) 0 then .error stNotReady else plain s
/-- A write of NET_RX_MATCH_HI: the upper half is reserved while KIND is AES67 (R9, R401). -/
def wrNetRxMatchHi (n : Nat) (v : Word) (s : State) : Wr :=
  if !bit (s.ob (oidNetRxCfg n)) 1 ∧ fld v 31 16 ≠ 0 then .error stRange
  else wrStreamField (oidNetRxCfg n) (fun t => .ok (t.put (oidNetRxMatchHi n) v)) s
/-- A write of NET_TX_TS_OFFSET: an AAF transit time is at most 50 ms (R403). -/
def wrNetTxTsOffset (n : Nat) (v : Word) (s : State) : Wr :=
  if bit (s.ob (oidNetTxCfg n)) 1 ∧ v.toNat > 50000000 then .error stRange
  else wrStreamField (oidNetTxCfg n) (fun t => .ok (t.put (oidNetTxTsOffset n) v)) s

/-- The destination and the offset of a transmit stream are legal (R386, R403). -/
def State.txDestBad (s : State) (n : Nat) (v : Word) : Bool :=
  let d := s.obn (oidNetTxDest n)
  if bit v 1 then decide (d > 0xFDFF) || decide (s.obn (oidNetTxTsOffset n) > 50000000)
  else decide (d / 2 ^ 28 ≠ 14) || decide (d / 256 = 0xE00000)
/-- A write of NET_TX_CFG (R385, R386, R402, R403). -/
def wrNetTxCfg (n : Nat) (v : Word) (s : State) : Wr :=
  let old := s.ob (oidNetTxCfg n)
  let others := ((List.range 128).filter (fun m => m ≠ n && bit (s.ob (oidNetTxCfg m)) 0)).map (fun m => s.ob (oidNetTxCfg m))
  let size := fld v 12 6 * fmtBytes (fld v 5 4) * s.obn (oidNetTxFrames n)
  if fld v 5 4 = 3 then .error stRange
  else if bit old 0 ∧ setBit v 0 true ≠ old then .error stNotReady
  else if !bit v 0 then .ok ((((s.put (oidNetTxCfg n) v).putn (oidNetTxState n) 0).setNtx n {}).gNet (fld old 22 13) (fld old 12 6))
  else if bit old 0 then .ok s
  else if s.streamBad v false others || s.txDestBad n v || decide (size > (if bit v 1 then 1476 else 1452)) then .error stRange
  else
    let (q, s) := s.free
    let s := (s.put (oidNetTxCfg n) v).setNtx n { seq := q.toNat % (if bit v 1 then 256 else 65536) }
    .ok (((s.putn (oidNetTxState n) 1).txCheck n).gNet (fld v 22 13) (fld v 12 6))
/-- NET_TX_CFG_WRITE (R385). -/
def execNetTxCfgWrite (acc : Access) (n : Fin 128) (v : Word) (s : State) : Out :=
  .next (s.writeCmd acc (oidNetTxCfg n) v (fun _ u => wrNetTxCfg n v u))

/-! ### Transmission (R386, R387) -/

/-- The packet of F consecutive samples, numbered from its media count while a peer is present (R484). The claim is that of
emission. -/
def State.packet (s : State) (n : Nat) (x : NetTx) : MediaPkt :=
  let c := s.ob (oidNetTxCfg n)
  let p := s.ob (oidNetTxPort n)
  let aaf := bit c 1
  let off := s.obn (oidNetTxTsOffset n)
  { aaf := aaf
    dmac := if aaf then BitVec.ofNat 48 (0x91E0F0000000 + fld (s.ob (oidNetTxDest n)) 15 0)
      else BitVec.ofNat 48 (0x01005E000000 + fld (s.ob (oidNetTxDest n)) 22 0)
    dest := if aaf then BitVec.ofNat 64 (s.mac 0 * 65536 + fld p 15 0) else BitVec.ofNat 64 (s.obn (oidNetTxDest n))
    port := if aaf then 0 else BitVec.ofNat 16 (fld p 15 0)
    srcIp := 0
    ptype := BitVec.ofNat 8 (fld c 29 23)
    chans := fld c 12 6
    fmt := fld c 5 4
    rate := s.domHz (s.domOf 2 n)
    seq := BitVec.ofNat 16 (if s.paired ∧ !aaf then x.first / s.obn (oidNetTxFrames n) else x.seq)
    ts := wd ((if aaf then x.firstAt else x.first) + off)
    ext := none
    ssrc := s.ob (oidNetTxSsrc n)
    vlan := BitVec.ofNat 16 (s.obn (oidNetTxVlan n))
    dscp := BitVec.ofNat 8 (fld p 21 16)
    payload := (x.fill.map (fun f => (f.map (sampleBytes (fld c 5 4))).flatten)).flatten }

/-- One sample boundary of a transmit stream's domain: the samples that its Sluice releases (R386). -/
def State.txSample (s : State) (n : Nat) (vals : List Word) : State :=
  let st := s.txState n
  let f := s.obn (oidNetTxFrames n)
  -- the sample left the Sluice at the boundary before this one
  let dt := mapGet (fun _ => 0) s.time.sb (s.domOf 2 n) / 2 ^ 48
  let cnt := mediaCount dt (s.domHz (s.domOf 2 n))
  let st' := if st = 1 ∧ cnt % f = 0 then 2 else st
  if st' ≠ 2 then s
  else
    let s := s.putn (oidNetTxState n) 2
    let x := s.ntx n
    let x := if x.fill = [] then { x with first := cnt, firstAt := dt } else x
    let x := { x with fill := x.fill ++ [vals] }
    if x.fill.length < f then s.setNtx n x
    else s.setNtx n { x with fill := [], full := some (s.packet n x), seq := (x.seq + 1) % (if bit (s.ob (oidNetTxCfg n)) 1 then 256 else 65536) }

/-- The header extension of a claim: one element of three bytes, which fills the four that follow (R387). -/
def State.claimExt (s : State) (claim : Nat) : Half × List Byte :=
  (0xBEDE, beBytes 1 (16 * (s.obn oidNetClaimExtId % 16) + 2) ++ beBytes 3 claim)
/-- The three data bytes of the element `id` in a one-byte header extension (R387; PRESUMED: RFC 8285, log 62). The first
argument bounds the elements. -/
def extElement (id : Nat) : Nat → List Byte → Option (List Byte)
  | 0, _ => none
  | _, [] => none
  | n + 1, b :: r =>
    let i := b.toNat / 16
    let len := b.toNat % 16 + 1
    if i = 0 then extElement id n r
    else if i = 15 then none
    else if i = id ∧ len = 3 ∧ r.length ≥ 3 then some (r.take 3)
    else extElement id n (r.drop len)
/-- The claim of a received packet; 0 without an element (R387). -/
def State.claimOf (s : State) (p : MediaPkt) : Nat :=
  match p.aaf, p.ext with
  | false, some (profile, l) =>
    if profile = 0xBEDE then ((extElement (s.obn oidNetClaimExtId) l.length l).map ofBe).getD 0 else 0
  | _, _ => 0
/-- The length of a media frame with FCS: Ethernet with its tag, then IPv4, UDP and RTP, or the AVTP header, then the RTP
extension (R384, R387). -/
def mediaLen (p : MediaPkt) : Nat :=
  let ext := match p.ext with | some (_, l) => 4 + l.length | none => 0
  max 64 ((if p.vlan.getLsbD 15 then 18 else 14) + (if p.aaf then 24 else 40) + ext + p.payload.length + 4)
/-- MEDIA_TX_PACKET: the full packet goes to each UP lane of its paths, with the claim held now (R386, R387). -/
def execMediaTxPacket (n : Fin 128) (s : State) : Out :=
  let x := s.ntx n
  let c := s.ob (oidNetTxCfg n)
  .next (
    match x.full with
    | none => s
    | some p =>
      let s := s.setNtx n { x with full := none }
      forUpTo 2 (fun lane t =>
        if !bit c (2 + lane) then t
        else
          let p := { p with
            ext := if p.aaf then none else some (t.claimExt t.claim)
            srcIp := if p.aaf then 0 else t.ob (oidLaneIpv4 lane) }
          t.enqueue lane { len := mediaLen p, tc := fld (t.ob oidNetTcRoles) 2 0, src := 8, at' := t.time.dt, bytes := [], pkt := some p, ready := t.time.cyc }) s)

/-! ### Reception (R388–R390) -/

/-- A packet matches receive stream `n` on a lane (R388). -/
def State.rxMatches (s : State) (n lane : Nat) (p : MediaPkt) : Bool :=
  let c := s.ob (oidNetRxCfg n)
  let a := s.ob (oidNetRxSrcA n)
  let b := s.ob (oidNetRxSrcB n)
  bit c 0 && bit c (2 + lane) && bit c 1 == p.aaf &&
  (if p.aaf then decide (p.dest.toNat = s.obn (oidNetRxMatchHi n) * 2 ^ 32 + s.obn (oidNetRxMatchLo n))
   else decide (p.dest.toNat / 2 ^ 28 = 14 ∨ p.dest.toNat = s.obn (oidLaneIpv4 lane)) &&
     decide (p.dest.toNat = s.obn (oidNetRxMatchLo n) ∧ p.port.toNat = fld (s.ob (oidNetRxMatchHi n)) 15 0) &&
     (decide (fld c 29 23 = 0) || decide (p.ptype.toNat = fld c 29 23)) &&
     ((a = 0 && b = 0) || (a ≠ 0 && p.srcIp = a) || (b ≠ 0 && p.srcIp = b)))

/-- The media count of a packet's first sample: that of its presentation instant (R389). -/
def State.firstCount (s : State) (n : Nat) (p : MediaPkt) : Int :=
  let hz := s.domHz (s.domOf 1 n)
  if p.aaf then mediaCeil (near32 p.ts.toNat s.dtTotal).toNat hz
  else near32 (p.ts - s.ob (oidNetRxTsOffset n) + s.ob (oidNetRxPresOffset n)).toNat (mediaCount s.dtTotal hz)

/-- One slot takes a copy (R390). -/
def rxPut (slots : SMap RxSlot) (i : Nat) (c : RxSlot) : SMap RxSlot :=
  match mapGet (fun _ => none) (slots.map (fun e => (e.1, some e.2))) i with
  | some old => if old.claim < c.claim then mapPut i c slots else slots
  | none => mapPut i c slots

/-- The two path bits of NET_RX_STATUS, and NET_RX_PATH where they change (R401, R404). -/
def State.rxPaths (s : State) (n : Nat) : State :=
  let x := s.nrx n
  let on (lane : Nat) : Nat := match mapGet (fun _ => none) x.paths lane with
    | some c => if s.time.cyc < c + 2500000 then 1 else 0
    | none => 0
  let b := on 0 + 2 * on 1
  if fld (s.ob (oidNetRxStatus n)) 4 3 = b then s
  else (s.putFld (oidNetRxStatus n) 4 3 b).raise 10 6 [(1, n), (1, b)]

/-- The sequence gap of a packet on its lane, as the number of packets missing; a packet behind the last is none. -/
def seqGap (x : NetRx) (lane : Nat) (p : MediaPkt) : Nat :=
  let m := if p.aaf then 256 else 65536
  match x.seqs.find? (fun e => e.1 = (lane, p.srcIp.toNat)) with
  | none => 0
  | some (_, last) => let d := (p.seq.toNat + m - last % m - 1) % m; if d < m / 2 then d else 0
/-- The last sequence number on a lane and from a source after a packet: a packet behind it leaves it. -/
def seqNext (x : NetRx) (lane : Nat) (p : MediaPkt) : List ((Nat × Nat) × Nat) :=
  let key := (lane, p.srcIp.toNat)
  let m := if p.aaf then 256 else 65536
  match x.seqs.find? (fun e => e.1 = key) with
  | none => (key, p.seq.toNat) :: x.seqs
  | some (_, last) =>
    if (p.seq.toNat + m - last % m - 1) % m < m / 2 then (key, p.seq.toNat) :: x.seqs.filter (fun e => e.1 ≠ key) else x.seqs

/-- A matching packet has arrived on a lane: its path, and the packets missing before it (R390, R401). -/
def State.rxArrive (s : State) (n lane : Nat) (p : MediaPkt) : State :=
  let x := s.nrx n
  let gap := seqGap x lane p
  let flag := 4 + lane
  let s := if gap = 0 then s
    else
      let t := s.put (oidNetRxSticky n) (setBit (s.ob (oidNetRxSticky n)) flag true)
      (List.range gap).foldl (fun u _ => u.count (oidNetRxCnt n flag)) t
  (s.setNrx n { x with seqs := seqNext x lane p, paths := mapSet (fun _ => none) x.paths lane (some s.time.cyc) }).rxPaths n

/-- A packet of the right format is placed: the first one that matches takes a stream in WAIT to ENTER (R389–R391). -/
def State.rxPlace (s : State) (n : Nat) (p : MediaPkt) : State :=
  let hz := s.domHz (s.domOf 1 n)
  let f := p.payload.length / (p.chans * fmtBytes p.fmt)
  let n0 := s.firstCount n p
  let now := mediaCount s.dtTotal hz
  let s := if s.rxState n = 1 ∧ hz ≠ 0 ∧ !(s.nrx n).out then
      let pos := (max n0 (now + 1)).toNat
      ((s.setNrx n { s.nrx n with pos := pos, begun := false, slots := [], k := 0 }).setRxState n 2).mirror
        (.place (.stream (Fin.ofNat 128 n) pos) s.gn s.mix.pos)
    else s
  let x := s.nrx n
  if s.rxState n < 2 then s
  else if n0 + f > x.pos + 1024 then s.rxFlag n 1
  else
    let words := payloadWords p.fmt (f * p.chans) p.payload
    let slots := (List.range f).foldl (fun (m : SMap RxSlot) (j : Nat) =>
      let i := n0 + j
      if i < x.pos then m
      else rxPut m i.toNat { claim := s.claimOf p, vals := (words.drop (j * p.chans)).take p.chans }) x.slots
    s.setNrx n { x with slots := slots }

/-- A stream takes a matching packet: one of another format, or whose payload holds no whole number of 1 to 192 sample frames,
is discarded (R384, R388, R404). -/
def State.rxPacket (s : State) (n lane : Nat) (pkt : MediaPkt) : State :=
  let s := s.rxArrive n lane pkt
  let c := s.ob (oidNetRxCfg n)
  let size := pkt.chans * fmtBytes pkt.fmt
  let len := pkt.payload.length
  if pkt.chans ≠ fld c 12 6 ∨ pkt.fmt ≠ fld c 5 4 ∨ (pkt.aaf ∧ pkt.rate ≠ s.domHz (s.domOf 1 n)) ∨
      len = 0 ∨ len % size ≠ 0 ∨ len > 192 * size then
    let s := s.rxFlag n 6
    let x := s.nrx n
    let quiet := match x.fmtAt with | some t => decide (s.time.cyc < t + 250000000) | none => false
    if quiet then s else (s.setNrx n { x with fmtAt := some s.time.cyc }).raise 10 8 [(1, n)]
  else s.rxPlace n pkt
/-- MEDIA_RX_PACKET: every stream that the packet matches takes it (R370, R388, R390). -/
def execMediaRxPacket (lane : Fin 4) (pkt : MediaPkt) (s : State) : Out :=
  .next (
    if lane.val > 1 ∨ !s.laneUp lane then s
    else ((List.range 128).filter (fun n => s.rxMatches n lane pkt)).foldl (fun t n => t.rxPacket n lane pkt) s)

/-- A stream has had no matching packet for `cycles` of the time clock. -/
def State.rxSilent (s : State) (n cycles : Nat) : Bool :=
  (s.nrx n).paths.all (fun e => match e.2 with | some c => decide (s.time.cyc ≥ c + cycles) | none => true)
/-- NET_RX_TIMEOUT: no matching packet for 1 s (R391). -/
def execNetRxTimeout (n : Fin 128) (s : State) : Out :=
  .next (if s.rxState n = 4 ∧ !(s.nrx n).out ∧ s.rxSilent n 250000000 then s.rxEnd n 1 else s)

/-! ### The receive states at a sample boundary (R391) -/

/-- A list of samples scaled by a fraction. -/
def scaleAll (num den : Nat) (l : List Word) : List Word := l.map (fun v => wdI (rneDiv (v.toInt * num) den))
/-- STATUS.CLAIM takes a value (R390, R404). -/
def State.rxClaim (s : State) (n claim : Nat) : State :=
  if fld (s.ob (oidNetRxStatus n)) 31 8 = claim then s
  else (s.putFld (oidNetRxStatus n) 31 8 claim).raiseOnce n 10 7 [(1, n), (4, claim)]

/-- The slot at the position, or none. -/
def NetRx.slot (x : NetRx) : Option RxSlot := (x.slots.find? (fun e => e.1 = x.pos)).map (·.2)
/-- The position advances. -/
def NetRx.adv (x : NetRx) : NetRx := { x with pos := x.pos + 1, slots := x.slots.filter (fun e => e.1 > x.pos) }

/-- A sample of a fade-out, scaled by (31 − k)/32 from the weight at which it began: what the slot holds, the last sample
where it is empty or the stream is in HOLD. -/
def NetRx.fadeVals (x : NetRx) (hold : Bool) : List Word :=
  if x.k ≥ 32 then []
  else match x.slot, hold with
    | some v, false => scaleAll ((31 - x.k) * x.wn) (32 * x.wd) v.vals
    | _, _ => scaleAll (31 - x.k) 32 x.last

/-- A sample fades in or runs; NET_FADE_LEN is latched as the fade begins. -/
def State.rxTake (s : State) (n : Nat) (x : NetRx) (v : RxSlot) : State :=
  let s := s.rxClaim n v.claim
  if s.rxState n = 2 then
    let len := if x.k = 0 then s.obn oidNetFadeLen else x.len
    let s := s.setNrx n { x.adv with vals := scaleAll (x.k + 1) len v.vals, k := x.k + 1, len := len }
    if x.k + 1 ≥ len then s.setRxState n 3 else s
  else s.setNrx n { x.adv with vals := v.vals }

/-- A sample of a fade-out that leads to another state (R391). -/
def State.rxFade (s : State) (n : Nat) (now : Nat) : State :=
  let x := s.nrx n
  let hold := decide (s.rxState n = 4)
  let s := match x.slot, hold with
    | some v, false => s.rxClaim n v.claim
    | _, _ => s
  let y : NetRx := { x.adv with vals := x.fadeVals hold, k := x.k + 1 }
  if y.k < 32 then s.setNrx n y
  else if x.next = 2 then (s.setNrx n { y with out := false, k := 0, pos := now + 1, begun := true }).setRxState n 2
  else (s.setNrx n y).rxEnd n x.next

/-- One sample boundary of a receive stream's domain (R389–R391). -/
def State.rxSample (s : State) (n : Nat) : State :=
  let s := s.rxPaths n
  let st := s.rxState n
  let x := s.nrx n
  let now := mediaCount s.dtTotal (s.domHz (s.domOf 1 n))
  if st = 0 then s
  else if x.out then s.rxFade n now
  else if st = 1 then s
  else if st = 2 ∧ !x.begun ∧ now < x.pos then s.setNrx n { x with vals := [] }
  else
    let x := { x with begun := true }
    let drift : Int := (x.pos : Int) - now
    if (st = 2 ∨ st = 3) ∧ drift.natAbs > 16 then
      let (a, b) := if st = 2 then (x.k, x.len) else (1, 1)
      let s := (s.rxFlag n 3).setRxState n 5
      (s.setNrx n { x with last := x.vals, k := 0, out := true, next := 2, wn := a, wd := b }).rxFade n now
    else match x.slot with
      | some v => if st = 4 then (s.setRxState n 2).rxTake n { x with k := 0 } v else s.rxTake n x v
      | none =>
        if st = 4 then s.setNrx n { x.adv with vals := x.fadeVals true, k := x.k + 1 }
        else
          let s := ((s.rxFlag n 2).rxFlag n 0).setRxState n 4
          let x := { x with last := x.vals, k := 0 }
          s.setNrx n { x.adv with vals := x.fadeVals true, k := 1 }

/-- Every stream of the domains `p` leaves for WAIT as the domain's rate changes or it relocks; a transmit stream drops what
it has filled and waits for its first packet again (R386, R391). -/
def State.streamsLeave (s : State) (p : Nat → Bool) : State :=
  let s := forUpTo 128 (fun n t => if p (t.domOf 1 n) ∧ t.rxState n ≥ 2 then t.rxLeave n 1 else t) s
  forUpTo 128 (fun n t =>
    let t := if p (t.domOf 2 n) ∧ t.txState n = 2 then
        (t.putn (oidNetTxState n) 1).setNtx n { t.ntx n with fill := [], full := none }
      else t
    t.txCheck n) s

end Sys2Proof.Machine
end

