-- ==== Sys2Proof/Machine/Twin.lean ====
section
/-!
DEFINITION. The twin engine (R477–R504): roles, copies, mirroring, signatures, fail-over and planned handover.
-/

namespace Sys2Proof.Machine

/-- TWIN_LAST_CAUSE codes (R503). -/
def tcNone : Nat := 0
def tcFail : Nat := 1
def tcBeacon : Nat := 2
def tcAlt : Nat := 3
def tcPlanned : Nat := 4
def tcNotSynced : Nat := 5
def tcPartial : Nat := 6
/-- Causes of TWIN_COPY_ABORT (R506). -/
def cpLoss : Nat := 0
def cpCrc : Nat := 1
def cpSize : Nat := 2
def cpRate : Nat := 3
def cpResync : Nat := 4

/-- Replace the twin engine. -/
def State.setTwin (s : State) (t : TwinSt) : State := { s with twin := t }
/-- A TWIN_STICKY flag with its counter (R505). -/
def State.twinFlag (s : State) (b : Nat) : State := s.sticky oidTwinSticky b (oidTwinCnt b)
/-- A field of TWIN_STATUS. -/
def State.twStat (s : State) (b : Nat) (v : Bool) : State := s.put oidTwinStatus (setBit (s.ob oidTwinStatus) b v)

/-- The twin takes a state (R481, R506). -/
def State.setTw (s : State) (st cause : Nat) : State :=
  let old := s.tw
  if old = st then s
  else
    let s := (s.putn oidTwinState st).twStat 1 (st = twStandby)
    let s := s.setTwin { s.twin with wtrDone := false, wtrAt := s.gn, sigBad := 0, yielded := false }
    (s.raise 12 0 [(1, old), (1, st), (1, cause)]).txCheckAll

/-- The twin owns what its state gives it: every group in OFF, SOLO outside the hold, and ACTIVE (R307, R481, R484). -/
def State.twShares (s : State) : State :=
  let st := s.tw
  if st = twOff ∨ st = twActive ∨ (st = twSolo ∧ !s.twin.hold) then s.setShares 15
  else if st = twFailed then s else s.setShares 0

/-! ### Copies (R490–R492, R500) -/

/-- A copy in progress is abandoned; the receiver discards what it has staged (R490, R500). -/
def State.copyAbort (s : State) (cause : Nat) : State :=
  if !bit (s.ob oidTwinStatus) 3 then s
  else
    let sets := s.twin.copy.sets
    let s := sets.foldl (fun t k =>
      let (lo, n) := setRange k
      let d := t.dmem
      let t := { t with dmem := { d with edit := mapCopyRange d.cur d.edit lo n } }
      t.setBset k { t.bset k with st := 0, lenEdit := (t.bset k).lenCur }) s
    let s := (s.setTwin { s.twin with copy := {}, sAt := none }).twStat 3 false
    (s.twinFlag 3).raise 12 3 [(1, cause)]
/-- Section 3 of a copy: a record of each entry that differs from its class default or is ramping, in ascending OID order
(R490). -/
def State.psSection (s : State) : List PsRecord :=
  s.ps.map (fun e => { oid := e.1, start := e.2.start, target := e.2.target, mb := e.2.mb, n := e.2.n, inst := e.2.inst,
                       stage := if e.2.staged then some (e.2.sval, Fin.ofNat 64 e.2.owner, e.2.nramp) else none })
/-- Section 2 of a copy: the engine's state, with the detector states and the rings that the image's delays own (R490). -/
def State.engineSection (s : State) : CopyData :=
  .engine (s.ob oidInstar) s.gn (BitVec.ofNat 8 s.twin.epoch) (bit (s.ob oidTwinStatus) 0)
    (s.moult.commits.map (fun c => (c.instar, c.st, c.mode, c.m)))
    ((List.range 512).filterMap (fun i => let v := s.obn (oidSilState i); if v = 0 then none else some (i, v)))
    (s.dmem.lines.map (fun e => (e.1, e.2.ring)))
/-- Section 5 of a copy: the words of each tile's last complete checkpoint (R490). -/
def State.persistSection (s : State) : List CopyData :=
  (List.finRange 36).flatMap (fun (n : Fin 36) =>
    let c := (s.tile n.val).ckpt
    if c.valid then c.area.map (fun e => .persist n e.1 [e.2]) else [])
/-- The bytes of sections 3 and 5 (R490). -/
def State.copyBytes (s : State) : Nat :=
  (s.psSection.map (fun r => if r.stage.isSome then 32 else 24)).foldl (· + ·) 0 + 4 * s.persistSection.length
/-- The active begins a bulk copy, after abandoning one in progress (R481, R490). Its size is not stated: it is free. -/
def State.copyBegin (s : State) (cause : Nat) : State :=
  let s := s.copyAbort cause
  if s.copyBytes > 33554432 then ((s.twStat 3 true).copyAbort cpSize)
  else
    let (w, s) := s.free
    ((s.twStat 3 true).put oidTwinCopySize w).put oidTwinCopyProg 0
/-- The receiver requests a copy (R481). -/
def State.copyRequest (s : State) : State :=
  let s := s.setTwin { s.twin with copy := {}, sAt := none, adopted := false, copied := false, queue := [], altWait := false }
  (s.twStat 3 true).put oidTwinCopyProg 0

/-! ### Configuration (R489, R504) -/

/-- The objects that CFG_DIGEST covers, in ascending OID order (R489). -/
def digestOids : List Nat :=
  [oidImgFadeLen, oidDomRateA, oidDomRateB, oidDomRateC] ++ (List.range 24).map oidPortDomain ++
  (List.range 4).map oidModclkCfg ++ (List.range 128).map oidNetRxDomain ++ (List.range 128).map oidNetTxDomain ++
  (List.range 16).map oidBrgGrpCfg ++ [oidBrgFadeLen, oidBrgTrackBw] ++ (List.range 256).map oidBrgFar ++
  (List.range 64).map oidModCfg ++ (List.range 64).map oidModModi ++
  (List.range 24).flatMap (fun p => (List.range 10).map (fun i => oidPortFrame p + i)) ++ [oidAlignCtrl, oidNetFadeLen] ++
  (List.range 128).flatMap (fun n =>
    [oidNetRxCfg n, oidNetRxMatchLo n, oidNetRxMatchHi n, oidNetRxPresOffset n, oidNetRxTsOffset n]) ++
  (List.range 128).flatMap (fun n => [oidNetTxCfg n, oidNetTxFrames n])
/-- The value of an object that the digest takes. -/
def State.digestWord (s : State) (oid : Nat) : Word := if lawOf oid = 0 then s.ob oid else s.target oid
/-- CFG_DIGEST (R489). -/
def State.cfgDigest (s : State) : Word := crc32c (digestOids.flatMap (fun o => leBytes 4 (s.digestWord o).toNat))

/-- The unit goes OFF: it owns every share group (R481). -/
def State.twinOff (s : State) : State :=
  let s := s.copyAbort cpLoss
  let s := (s.setTw twOff tcNone).setTwin { s.twin with peer := none, copy := {}, sAt := none, take := none, adopted := false, queue := [], altWait := false, lost := none, missed := 0, hold := false, copied := false, delay := 0 }
  ((s.put oidTwinPeerClaim 0).put oidTwinStatus (s.ob oidTwinStatus &&& 0x21)).twShares
/-- The unit goes from OFF to SOLO: L3 is enabled in 10GBASE-R (R481). -/
def State.twinOn (s : State) : State :=
  let s := s.put (oidLaneCfg 3) (setFld (setBit (s.ob (oidLaneCfg 3)) 0 true) 2 1 0)
  let s := if s.lane 3 = lnOff then s.putn (oidLaneState 3) lnDown else s
  (s.setTw twSolo tcNone).twShares
/-- A write of TWIN_CFG (R481, R504). -/
def wrTwinCfg (v : Word) (s : State) : Wr :=
  let old := s.ob oidTwinCfg
  if fld v 4 2 = 0 ∨ fld v 15 8 = 0 then .error stRange
  else
    let s := s.put oidTwinCfg v
    .ok (
      if s.tw ≠ twOff ∧ (bit v 0 ≠ bit old 0 ∨ fld v 15 8 ≠ fld old 15 8) then
        let s := s.twinOff
        if bit v 0 then s.twinOn else s
      else if s.tw = twOff ∧ bit v 0 then s.twinOn
      else s)
/-- TWIN_CFG_WRITE (R504). -/
def execTwinCfgWrite (acc : Access) (v : Word) (s : State) : Out :=
  .next (s.writeCmd acc oidTwinCfg v (fun _ u => wrTwinCfg v u))

/-- A write of TWIN_CTRL (R503). -/
def wrTwinCtrl (v : Word) (s : State) : Wr :=
  let a := fld v 2 0
  if a > 4 then .error stRange
  else if a = 1 then (if s.mirrors then .ok (s.copyBegin cpResync) else .error stNotReady)
  else if a = 2 then .ok (s.twStat 5 true)
  else if a = 3 then .ok (s.twStat 5 false)
  else if a = 4 then (if s.tw = twActive ∨ s.tw = twSolo then .ok (s.twStat 0 false) else .error stNotReady)
  else .ok s
/-- RESYNC (R481, R503). -/
def execResync (acc : Access) (s : State) : Out := .next (s.writeCmd acc oidTwinCtrl 1 (fun _ u => wrTwinCtrl 1 u))
/-- YIELD (R482, R503). -/
def execYield (acc : Access) (s : State) : Out := .next (s.writeCmd acc oidTwinCtrl 2 (fun _ u => wrTwinCtrl 2 u))
/-- RESUME (R482, R503). -/
def execResume (acc : Access) (s : State) : Out := .next (s.writeCmd acc oidTwinCtrl 3 (fun _ u => wrTwinCtrl 3 u))
/-- CLEAR_PARTIAL (R500, R503). -/
def execClearPartial (acc : Access) (s : State) : Out := .next (s.writeCmd acc oidTwinCtrl 4 (fun _ u => wrTwinCtrl 4 u))

/-! ### HELLO (R478, R480, R481) -/

/-- The HELLO that the unit sends (R478). Its layout is not given: no bytes are queued for it. -/
def State.helloOut (s : State) : HelloMsg :=
  { from' := BitVec.ofNat 48 (s.mac 3), id := (s.ob oidTwinCfg).extractLsb' 8 8, fw := s.ob oidFwVersion, state := s.tw
    claim := BitVec.ofNat 24 s.claim, epoch := BitVec.ofNat 8 s.twin.epoch, l0 := BitVec.ofNat 48 (s.mac 0)
    l1 := BitVec.ofNat 48 (s.mac 1), digest := s.cfgDigest }
/-- HELLO_SEND: every 1 ms while twin operation is enabled (R478). -/
def execHelloSend (s : State) : Out := .next (if s.tw = twOff then s else s.twinSent 1)

/-- CFG_MISMATCH from a peer's digest (R489). -/
def State.digestCheck (s : State) (d : Word) : State := s.twStat 4 (d ≠ s.cfgDigest)

/-- HELLO from the peer, with the round trip in ps that the timestamps of HELLO frames give: the path delay of L3 is its half
(R478, R480, R481, R489). A HELLO of a wrong VERSION or a bad FCS is discarded: it is no command. -/
def execHello (m : HelloMsg) (round : Nat) (s : State) : Out :=
  let st := s.tw
  let c := s.ob oidTwinCfg
  let was := match s.twin.peer with | some p => p.state | none => 0
  let fw := s.ob oidFwVersion
  .next (
    if st = twOff then s
    else if m.id.toNat = fld c 15 8 then (s.twinFlag 7).raise 12 6 [(1, 0)]
    else if fld m.fw 31 16 ≠ fld fw 31 16 then (s.twinFlag 7).raise 12 6 [(1, 1)]
    else
      let s := (s.setTwin { s.twin with peer := some m, delay := round / 2 }).putn oidTwinPeerClaim m.claim.toNat
      let s := s.digestCheck m.digest
      if st = twSolo then
        if m.state = twActive ∨ (m.state = twSolo ∧ m.claim.toNat > s.claim) then
          let s := s.setTwin { s.twin with hold := false }
          (s.setTw twReceiving tcNone).twShares.copyRequest
        else if m.state = twSolo ∧ m.claim.toNat < s.claim then
          let s := s.setTwin { s.twin with hold := false }
          (s.setTw twActive tcNone).twShares
        else s
      else if st = twActive ∧ m.state = twReceiving ∧ was ≠ twReceiving then s.copyBegin cpResync
      else if st = twFailed ∧ m.state = twActive then s.setShares 0
      else s)

/-! ### Loss of the active (R481, R497, R498, R500) -/

/-- The unit follows an active: RECEIVING, CONVERGING, STANDBY (or ISOLATED). -/
def State.follows (s : State) : Bool := decide (s.tw = twReceiving ∨ s.tw = twConverging ∨ s.tw = twStandby ∨ s.tw = twIsolated)
/-- The active is lost; SWITCHOVER acts on it (R497). -/
def State.twinLost (s : State) (cause : Nat) : State :=
  if s.follows ∧ s.twin.lost.isNone then s.setTwin { s.twin with lost := some cause, altWait := false } else s

/-- SWITCHOVER (R498, R500): `gap` is the number of samples of R499. -/
def execSwitchover (gap : Word) (s : State) : Out :=
  .next (
    match s.twin.lost with
    | none => s
    | some cause =>
      let st := s.tw
      let copying := bit (s.ob oidTwinStatus) 3
      let s := s.copyAbort cpLoss
      let s := if copying then ((s.twStat 0 true).twinFlag 1) else s
      let s := s.setTwin { s.twin with copied := false }
      let last := if copying then tcPartial else if st ≠ twStandby then tcNotSynced else cause
      let s := (s.putn oidTwinLastCause last).twinFlag 0
      let s := s.setTwin { s.twin with lost := none, take := none, missed := 0 }
      let s := (s.setTw twActive cause).twShares.txCheckAll
      let s := forUpTo 24 (fun p t =>
        if (t.port p).held ∧ ((t.port p).been ∨ !bit (t.ob oidAlignCtrl) (t.obn (oidPortAlign p))) then t.enterPort p else t) s
      s.raise 12 1 [(1, last), (4, gap.toNat)])

/-- PEER_ABSENT: no HELLO or beacon for 10 ms (R481, R501). -/
def execPeerAbsent (s : State) : Out :=
  let st := s.tw
  let gone (t : State) : State := ((t.setTwin { t.twin with peer := none }).put oidTwinPeerClaim 0).refLost 3
  .next (
    if st = twActive then (gone ((s.copyAbort cpLoss).setTw twSolo tcNone)).twShares
    else if st = twFailed then (gone s).setShares 0
    else if st = twSolo then gone s
    else s.refLost 3)
/-- STARTUP_SHARE_HOLD_END: 2 s after Eclosion without a role (R481). -/
def execStartupShareHoldEnd (s : State) : Out := .next ((s.setTwin { s.twin with hold := false }).twShares)
/-- The share hold begins at Eclosion (R481). -/
def State.shareHold (s : State) : State :=
  if bit (s.ob oidTwinCfg) 0 then
    let s := if s.tw = twOff then s.twinOn else s
    (s.setTwin { s.twin with hold := true, epoch := 0 }).twShares
  else s

/-- A condition of R497 that sets FAIL begins or ends (R481): 0 XO, 1 no matching image, 2 watchdog, 3 guard. -/
def State.twinFail (s : State) (code : Nat) (on : Bool) : State :=
  let l := s.twin.fails.filter (· ≠ code)
  let s := s.setTwin { s.twin with fails := if on then code :: l else l }
  let st := s.tw
  if on ∧ (st = twActive ∨ st = twSolo) then
    let s := (s.copyAbort cpLoss).setTw twFailed tcFail
    if s.twin.peer.isNone then s.setShares 0 else s
  else if !on ∧ st = twFailed ∧ l = [] then
    if s.twin.peer.isSome then (s.setTw twReceiving tcNone).twShares.copyRequest else (s.setTw twSolo tcNone).twShares
  else s

/-! ### Signatures (R495, R496) -/

/-- The port sinks in ascending order (R170, R495). -/
def portSinks : List Nat := List.range 0x300 ++ (List.range 0x400).map (· + 0x400)
/-- SIG of the grain whose releases `sinkGrain` holds (R495). -/
def State.signature (s : State) : Word :=
  let g := s.gsize
  crc32c (portSinks.flatMap (fun k =>
    (List.range g).flatMap (fun i => leBytes 4 (mapGet (fun _ => 0) s.mix.sinkGrain (16 * k + i)).toNat)))
/-- The grain that ended is signed while twin operation is enabled; the next grain starts with no release. -/
def State.signGrain (s : State) : State :=
  let s' := if s.tw = twOff then s else s.setTwin { s.twin with sigs := ((s.gn, s.signature) :: s.twin.sigs).take 4 }
  { s' with mix := { s'.mix with sinkGrain := [] } }

/-- The longest realised delay of an image's lines, in samples (R496). -/
def State.longestDelay (s : State) : Nat := (s.dmem.lines.map (fun e => s.realised e.1 s.gn)).foldl max 0

/-- A signature differs, or is missing (R496). -/
def State.sigDiffers (s : State) (gn : Word) : State :=
  let t := s.twin
  let n := t.sigBad + 1
  let s := (s.setTwin { t with sigBad := n, badGn := if t.sigBad = 0 then gn else t.badGn }).put oidTwinSigRun 0
  if s.tw = twStandby ∧ n ≥ 3 then
    let bad := s.twin.badGn
    ((s.setTw twConverging tcNone).twinFlag 2).raise 12 5 [(4, bad.toNat)]
  else s
/-- A signature is missing: a unit in STANDBY returns to CONVERGING at once (R496). -/
def State.sigMissing (s : State) (gn : Word) : State :=
  if s.tw = twStandby then (s.setTwin { s.twin with sigBad := max 2 s.twin.sigBad }).sigDiffers gn else s.sigDiffers gn
/-- A signature is compared (R496). -/
def State.sigCompare (s : State) (gn sig : Word) : State :=
  if s.tw ≠ twConverging ∧ s.tw ≠ twStandby then s
  else match s.twin.sigs.find? (fun e => e.1 = gn) with
    | none => s.sigDiffers gn
    | some (_, own) =>
      if own ≠ sig then s.sigDiffers gn
      else if s.tw = twConverging ∧ (gn - s.twin.convFrom).toInt < 0 then s
      else
        let n := s.obn oidTwinSigRun + 1
        let s := (s.setTwin { s.twin with sigBad := 0 }).putn oidTwinSigRun n
        let st := s.ob oidTwinStatus
        if s.tw = twConverging ∧ n ≥ s.obn oidTwinSyncGrains ∧ bit st 2 ∧ !bit st 4 then
          (s.setTw twStandby tcNone).raise 12 4 []
        else s
/-- TWIN_CONV_TIMEOUT: TWIN_CONV_LIMIT has passed since the earliest permitted match (R496). -/
def execTwinConvTimeout (s : State) : Out :=
  let since := (s.gn - s.twin.convFrom).toInt * s.gsize
  .next (if s.tw = twConverging ∧ since ≥ s.obn oidTwinConvLimit * s.fsA then (s.twStat 6 true).raise 12 5 [(4, s.twin.badGn.toNat)] else s)

/-! ### Beacons (R479, R485, R497, R502) -/

/-- A receiver that has taken its copy and is aligned converges (R481, R485). -/
def State.converge (s : State) : State :=
  if s.tw = twReceiving ∧ s.twin.copied ∧ bit (s.ob oidTwinStatus) 2 then (s.setTw twConverging tcNone).put oidTwinSigRun 0 else s
/-- The grain's alignment with the active's: `arrival` is the own grain boundary minus the arrival of the beacon of POS 0, in
ps, which left one path delay before (R485). -/
def State.alignCheck (s : State) (m : BeaconMsg) (arrival : Int) : State :=
  let offset := arrival + s.twin.delay
  let s := s.put oidTwinOffset (wdI (satInt 32 offset))
  let ok := decide (4 * offset.natAbs * s.fsA ≤ 10 ^ 12) && decide (s.dst 0 = dsLocked) &&
    (s.dsel 0 = 3 || s.readAligned = 1)
  let was := bit (s.ob oidTwinStatus) 2
  let s := s.twStat 2 ok
  let s := if ok ∧ !s.twin.adopted then (s.put oidGrainNumber m.gn).setTwin { s.twin with adopted := true } else s
  let s := s.converge
  if was ∧ !ok ∧ s.tw = twStandby then (s.twinFlag 5).sigDiffers m.gn else s

/-- BEACON: from L3, or from the alternate path; one that is not `good`, of a wrong VERSION or a bad FCS, is discarded and
counted; `arrival` as for the alignment (R318, R478, R479, R485, R489, R496, R497, R502). -/
def execBeacon (m : BeaconMsg) (alt good : Bool) (arrival : Int) (s : State) : Out :=
  let st := s.tw
  .next (
    if st = twOff then s
    else if !good then s.twinFlag 6
    else if s.twin.peer.isNone then s
    else if alt then
      if s.twin.altWait then
        (((s.setTwin { s.twin with altWait := false }).setTw twIsolated tcNone).twinFlag 8).raise 12 7 []
      else s
    else
      let s := s.setTwin { s.twin with missed := 0, altWait := false, phases := m.phases, yielded := m.flags.getLsbD 3 }
      let s := s.putn (oidRefQlRaw 3) (m.rank.toNat % 16)
      let s := (s.setRank 3 (if s.rst 3 = rsLos then 0 else m.rank.toNat - 1)).putn oidTwinPeerClaim m.claim.toNat
      let s := s.setTwin { s.twin with peer := s.twin.peer.map (fun p => { p with claim := m.claim }) }
      let s := if m.flags.getLsbD 4 ∧ s.twin.take.isNone then
          s.setTwin { s.twin with take := some (s.boundary25 m.gn m.pos) } else s
      if st = twIsolated then (s.setTw twReceiving tcNone).twShares.copyRequest
      else if s.follows ∧ m.flags.getLsbD 1 then s.twinLost tcFail
      else if s.follows ∧ m.pos = 0 then
        let s := (s.digestCheck m.digest).alignCheck m arrival
        s.sigCompare (m.gn - 2) m.sig
      else if st = twFailed ∧ m.flags.getLsbD 0 then s.setShares 0
      else s)

/-- BEACON_DEADLINE_MISS: one beacon was not received by its deadline; `pos0` if it was that of POS 0 (R496, R497). -/
def execBeaconDeadlineMiss (pos0 : Bool) (s : State) : Out :=
  .next (
    if s.tw = twReceiving ∨ s.tw = twConverging ∨ s.tw = twStandby then
      let s := (s.twinFlag 6).setTwin { s.twin with missed := s.twin.missed + 1 }
      let c := s.ob oidTwinCfg
      let done := decide (s.twin.missed ≥ fld c 4 2)
      if done ∧ !bit c 1 then s.twinLost tcBeacon
      else
        let s := if pos0 then s.sigMissing (s.gn - 2) else s
        if done then s.setTwin { s.twin with altWait := true } else s
    else s)
/-- ALT_WAIT_EXPIRE (R497). -/
def execAltWaitExpire (s : State) : Out := .next (if s.twin.altWait then s.twinLost tcAlt else s)

/-- The beacon that the unit sends at this domain A sample boundary (R479, R489, R495, R497, R502). -/
def State.beaconOut (s : State) : BeaconMsg :=
  let flag (b : Bool) (n : Nat) : Nat := if b then n else 0
  { gn := s.gn, pos := s.mix.pos
    flags := BitVec.ofNat 8 (flag (s.tw = twActive) 1 + flag (s.twin.fails ≠ []) 2 + flag (bit (s.ob oidTwinStatus) 3) 4 +
      flag (bit (s.ob oidTwinStatus) 5) 8 + flag (decide (s.tw = twStandby) && s.twin.take.isSome) 16)
    claim := BitVec.ofNat 24 s.claim, rank := (s.ob (oidDpllRank 0)).setWidth 8, instar := s.ob oidInstar
    sig := if s.mix.pos ≠ 0 then 0 else match s.twin.sigs.find? (fun e => e.1 = s.gn - 2) with | some e => e.2 | none => 0
    digest := if s.mix.pos = 0 then s.cfgDigest else 0
    phases := s.beaconPhases }
/-- The body of a beacon (R479). -/
def beaconBytes (m : BeaconMsg) : List Byte :=
  leBytes 4 m.gn.toNat ++ leBytes 1 m.pos ++ [m.flags] ++ leBytes 3 m.claim.toNat ++ [m.rank] ++ leBytes 2 0 ++
  leBytes 4 m.instar.toNat ++ leBytes 4 m.sig.toNat ++ leBytes 4 m.digest.toNat ++ m.phases.flatMap (fun w => leBytes 4 w.toNat)
/-- A Dabako frame leaves on a lane, untagged and in class 7 (R478). -/
def State.twinFrame (s : State) (lane : Nat) (dst : BitVec 48) (kind : Nat) (body : List Byte) : State :=
  let seq := mapGet (fun _ => 0) s.twin.txSeq kind
  let f := beBytes 6 dst.toNat ++ beBytes 6 (s.mac lane) ++ beBytes 2 0x88B5 ++
    [1, BitVec.ofNat 8 kind, (s.ob oidTwinCfg).extractLsb' 8 8, 0] ++ leBytes 4 seq ++ body
  s.enqueue lane { len := max 64 (f.length + 4), tc := 7, src := 8, at' := s.time.dt, bytes := f, ready := s.time.cyc }
/-- A beacon is sent at a domain A sample boundary, that of POS 0 of an active with ALT_PATH also to the media lanes of the
standby; the standby whose claim exceeds the active's asks for the role (R479, R497, R502). A unit in FAILED sends its beacons
with FAIL (DEDUCED, log 37). -/
def State.twinBeat (s : State) : State :=
  let st := s.tw
  if st ≠ twActive ∧ st ≠ twSolo ∧ st ≠ twStandby ∧ st ≠ twFailed then s
  else
    let s := if st = twStandby ∧ s.twin.take.isNone ∧ s.claim > s.obn oidTwinPeerClaim then
        s.setTwin { s.twin with take := some (s.boundary25 s.gn s.mix.pos) } else s
    let b := beaconBytes s.beaconOut
    let s := match s.twin.peer with
      | some p =>
        let s := s.twinFrame 3 p.from' 2 b
        if st = twActive ∧ s.mix.pos = 0 ∧ bit (s.ob oidTwinCfg) 1 then (s.twinFrame 0 p.l0 2 b).twinFrame 1 p.l1 2 b else s
      | none => s
    s.twinSent 2

/-- HANDOVER_BOUNDARY: at H the units exchange roles (R481, R502). -/
def execHandoverBoundary (s : State) : Out :=
  .next (
    match s.twin.take with
    | none => s
    | some h =>
      if s.gn + 1 ≠ h then s
      else
        let st := s.tw
        let s := s.setTwin { s.twin with take := none }
        if st = twStandby then ((s.putn oidTwinLastCause tcPlanned).setTw twActive tcPlanned).twShares
        else if st = twActive then
          let s := ((s.putn oidTwinLastCause tcPlanned).setTw twStandby tcPlanned).twShares
          s.setTwin { s.twin with wtrDone := true }
        else s)
/-- TWIN_WTR_REM as it reads: WTR less the whole seconds since STANDBY began (R502, R503). -/
def State.readWtrRem (s : State) : Nat :=
  if s.tw = twStandby ∧ !s.twin.wtrDone then
    s.obn oidTwinWtr - ((s.gn - s.twin.wtrAt).toNat * s.gsize) / max 1 s.fsA
  else 0
/-- TWIN_WTR_EXPIRE (R482, R502). -/
def execTwinWtrExpire (s : State) : Out :=
  .next (if s.tw = twStandby ∧ s.readWtrRem = 0 then s.setTwin { s.twin with wtrDone := true } else s)

/-! ### Receiving a copy (R490–R492) -/

/-- The receiver stages the data of a COPY frame (R490, R491). -/
def State.copyTake (s : State) (d : CopyData) : State :=
  let s := s.areaWritten 0x3A000000 0x3C000000
  let c := s.twin.copy
  match d with
  | .image pending offset bytes =>
    let b := s.img.pend
    let b := { b with bytes := mapSetFrom (fun _ => 0) b.bytes offset bytes, recv := max b.recv (offset + bytes.length) }
    let s := { s with img := { s.img with pend := b } }
    (s.putn oidImgPendState 1).setTwin { s.twin with copy := { c with image := !pending } }
  | .engine .. => s.setTwin { s.twin with copy := { c with engine := some d } }
  | .ps recs =>
    let m := recs.foldl (fun m r =>
      let e : PsEntry := { start := r.start, target := r.target, mb := r.mb, n := r.n, inst := r.inst, sval := r.target }
      let e := match r.stage with
        | some (v, o, nr) => { e with sval := v, staged := true, owner := o.val, nramp := nr }
        | none => e
      mapSet psDflt m r.oid e) c.ps
    s.setTwin { s.twin with copy := { c with ps := m } }
  | .bulk k len oid words =>
    let s := s.areaWritten 0x4000000 0x6000000
    let s := { s with dmem := { s.dmem with edit := mapSetFrom (fun _ => 0) s.dmem.edit oid words } }
    let s := s.setBset k { s.bset k with st := 1, lenEdit := len }
    s.setTwin { s.twin with copy := { c with sets := if c.sets.contains k then c.sets else c.sets ++ [k] } }
  | .persist t a words =>
    s.setTwin { s.twin with copy := { c with persist := mapSetFrom (fun _ => 0) c.persist (2 ^ 20 * t.val + a) words } }

/-- COPY: a frame of a section; `crc` says that the CRC at the section's end is good (R490). The image of an activation is
verified when it is complete (R488). -/
def execCopy (data : CopyData) (last crc : Bool) (len : Nat) (s : State) : Out :=
  .next (
    if !s.follows ∨ s.tw = twIsolated then s
    else if last ∧ !crc then
      let n := s.twin.copy.fails + 1
      if n ≥ 2 then s.copyAbort cpCrc
      else s.setTwin { s.twin with copy := { s.twin.copy with fails := n } }
    else
      let s := s.copyTake data
      let c := s.twin.copy
      let s := s.setTwin { s.twin with copy := { c with fails := if last then 0 else c.fails, bytes := c.bytes + len } }
      let s := (s.putn oidTwinCopyProg s.twin.copy.bytes).putn oidTwinCopySize s.twin.copy.bytes
      match data with
      | .image _ _ _ => if last then s.putn oidImgPendState 2 else s
      | _ => s)
/-- COPY_ACK: HAVE for a section of a bulk copy, or the verdict on the image of an activation (R488, R490). -/
def execCopyAck (pending ok : Bool) (s : State) : Out :=
  .next (
    if pending ∧ ok ∧ s.img.act.peerWait then
      { s with img := { s.img with act := { s.img.act with peerWait := false, b0 := some (s.boundary25 s.gn s.mix.pos) } } } else s)
/-- COPY_SENT: the last section has been sent; S is named, not before the first grain boundary 25 µs later (R492). -/
def execCopySent (sAt : Word) (s : State) : Out :=
  .next (
    if bit (s.ob oidTwinStatus) 3 then
      let b := s.boundary25 s.gn s.mix.pos
      (s.setTwin { s.twin with sAt := some (if s.tw = twActive ∧ (sAt - b).toInt < 0 then b else sAt) }).put oidTwinCopyProg (s.ob oidTwinCopySize)
    else s)

/-- What a CTRL_SOURCE of the ports or of the clocks does at its moult boundary (R200, R310, R312, R328). -/
def State.sourceEffect (s : State) (oid : Nat) : State :=
  let old := s.psWordAt oid s.gn
  let new := s.target oid
  if old = new then s
  else if oidPortTimingSrc 0 ≤ oid ∧ oid < 0xFA300 ∧ oid % 0x20 = 4 then
    let p := (oid - 0xFA000) / 0x20
    if new = 0 then s else s.put (oidPortTiming p) (timingPreset (s.ob (oidPortFrame p)))
  else if oid = oidDpllCtrlSource 0 then s.loopSource 0 (new ≠ 0)
  else if oid = oidDpllCtrlSource 1 then s.loopSource 1 (new ≠ 0)
  else if oid = oidDpllCtrlSource 2 then s.loopSource 2 (new ≠ 0)
  else s

/-- The receiver takes the copied state (R492). -/
def State.copyTakeAll (s : State) : State :=
  let c := s.twin.copy
  let moved := ((s.ps.map (fun e => e.1)) ++ (c.ps.map (fun e => e.1))).eraseDups.filter (fun o =>
    decide (s.target o ≠ (mapGet psDflt c.ps o).target))
  -- the change of a route, a source or a switch takes its effect (R205, R211)
  let s := moved.foldl (fun (t : State) o =>
    (((t.setPe o (mapGet psDflt c.ps o)).moultEffect o).sourceEffect o)) s
  let s := { s with ps := c.ps }
  let s := c.sets.foldl (fun t k =>
    let (kind, index) := setKind k
    let (lo, n) := setRange k
    let d := t.dmem
    let taps := firTaps d.edit index (t.bset k).lenEdit
    let spec := if kind = 1 then
        mapSetFrom (fun _ => 0) (d.specCur.filter (fun e => e.1 / 2 ^ 22 ≠ index)) (2 ^ 22 * index)
          (specForm taps)
      else d.specCur
    let t := { t with dmem := { d with cur := mapCopyRange d.edit d.cur lo n, specCur := spec } }
    t.setBset k { t.bset k with st := 0, owner := 0, lenCur := (t.bset k).lenEdit }) s
  let s := match c.engine with
    | some (.engine instar _ _ part commits dets rings) =>
      let s := ((s.put oidInstar instar).twStat 0 part)
      let commit (e : Word × Nat × Nat × Word) : Commit :=
        let set := (c.ps.filter (fun p => decide (p.2.inst = e.1))).map (fun p => p.1)
        let begun := decide (e.2.1 ≠ 0 ∧ (s.gn - e.2.2.2).toInt ≥ 0)
        { instar := e.1, mode := e.2.2.1, all := true, session := 0, ramp := none, st := e.2.1, m := e.2.2.2, begun := begun, set := set }
      let s := { s with moult := { s.moult with assigned := instar, commits := commits.map commit } }
      let s := rings.foldl (fun (t : State) e => t.setLine e.1 { t.line e.1 with ring := e.2 }) s
      dets.foldl (fun t e => t.putn (oidSilState e.1) e.2) s
    | _ => s
  if c.image then
    let carried : SMap (List Word) := s.img.act.carried
    let areas := forUpTo 36 (fun w (m : SMap (List Word)) =>
      let l := c.persist.filter (fun e => e.1 / 2 ^ 20 = w)
      if l = [] then m
      else (s.img.pend.persist w).foldl (fun m r =>
        if r.2.2 = 0 then m
        else mapSet (fun _ => []) m r.2.2 (mapRead (fun _ => 0) c.persist (2 ^ 20 * w + 8 * r.1) (8 * r.2.1))) m) carried
    let s := s.setPend peActivating
    { s with img := { s.img with act := { phase := 1, copied := true, carried := areas } } }
  else s

/-- COPY_APPLY: at S the receiver takes the copied state and both units raise EPOCH (R481, R483, R492, R496). -/
def execCopyApply (s : State) : Out :=
  .next (
    match s.twin.sAt with
    | none => s
    | some at' =>
      if s.gn + 1 ≠ at' ∨ !bit (s.ob oidTwinStatus) 3 then s
      else
        let s := if s.tw = twReceiving then s.copyTakeAll else s
        let base := if s.tw = twReceiving then
            (match s.twin.copy.engine with | some (.engine _ _ e _ _ _ _) => e.toNat | _ => s.twin.epoch)
          else s.twin.epoch
        let g := s.gsize
        let wait := (s.longestDelay + 16384 + g - 1) / g
        let s := s.setTwin { s.twin with epoch := min 255 (base + 1), copy := {}, sAt := none, convFrom := at' + wd wait, copied := decide (s.tw = twReceiving) }
        let s := s.twStat 3 false
        let s := s.converge
        s.raise 12 2 [(1, s.twin.epoch), (4, s.obn oidTwinCopySize)])

/-! ### Mirroring (R486, R493, R494) -/

/-- The boundary at which a record acts, for those that wait. -/
def mirrorDue (r : MirrorRec) : Option Word :=
  match r with
  | .write _ _ a => some a
  | .latch _ lb _ _ _ _ _ => some lb
  | .place _ gn _ => some gn
  | .image _ b0 => some b0
  | .stage _ _ => none
  | .abort => none
  | .withdraw _ => none
  | .block _ _ => none
  | .publish _ _ _ => none
  | .revert _ _ => none

/-- A record is applied (R493). -/
def State.mirrorDo (s : State) (r : MirrorRec) : State :=
  match r with
  | .stage ses es => es.foldl (fun t e => t.stageOne ses e) s
  | .write oid v _ =>
    match (if oid / 0x1000 = 0xEC ∨ oid / 0x1000 = 0xED ∨ oid / 0x1000 = 0xEE then wrPatchStatus oid v s
      else if oidFirSetLen 0 ≤ oid ∧ oid < oidFirSetLen 192 then wrFirSetLen (oid - oidFirSetLen 0) v s else .error stDenied) with
    | .ok t => t.jnlDirect 0 oid
    | .error _ => s
  | .latch i _ m mode all ramp ses =>
    let c : Commit := { instar := i, mode := mode, all := all, session := ses, ramp := ramp }
    let s := { s with moult := { s.moult with commits := s.moult.commits ++ [c], assigned := i } }
    (s.jnlCommit c []).latch c m []
  | .abort => s
  | .withdraw o => s.withdraw (fun n => match o with | some x => decide (n = x.val) | none => true)
  | .block oid ws => match setOf oid with | some k => s.writeBulk k oid ws | none => s
  | .publish ses kind index =>
    match s.publish ses kind index.toNat with
    | .ok t => t.prepared kind index.toNat
    | .error _ => s
  | .revert kind index => match s.revert kind index.toNat with | .ok t => t | .error _ => s
  | .place p _ _ =>
    match p with
    | .port q => s.enterPort q
    | .stream n pos => s.setNrx n { s.nrx n with pos := pos }
    | .reset mm am => s.requestSync 2 mm am (s.maskChains mm am)
  | .image part _ =>
    let s := s.setPend peActivating
    { s with img := { s.img with act := { phase := 1, partial' := part } } }

/-- MIRROR: a record from the active. A gap in SEQ, or a record after its boundary, sets MIRROR_LATE (R493, R494). -/
def execMirror (seq : Word) (rec : MirrorRec) (s : State) : Out :=
  .next (
    if !s.follows ∨ s.tw = twIsolated then s
    else
      let gap := match s.twin.rxSeq with | some q => decide (seq ≠ q + 1) | none => false
      let s := s.setTwin { s.twin with rxSeq := some seq }
      if gap then ((s.twinFlag 4).setTw twReceiving tcNone).copyRequest
      else match mirrorDue rec with
        | none => s.mirrorDo rec
        | some at' =>
          if (s.gn - at').toInt ≥ 0 then (s.mirrorDo rec).twinFlag 4
          else s.setTwin { s.twin with queue := s.twin.queue ++ [rec] })

/-- MIRROR_APPLY: the queued records of the boundary that opens grain GN + 1 act, in order (R493). -/
def execMirrorApply (s : State) : Out :=
  let now (r : MirrorRec) : Bool := match mirrorDue r with | some a => decide ((s.gn + 1 - a).toInt ≥ 0) | none => true
  let l := s.twin.queue.filter now
  let s := s.setTwin { s.twin with queue := s.twin.queue.filter (fun r => !now r) }
  .next (l.foldl (fun t r => t.mirrorDo r) s)

end Sys2Proof.Machine
end

