-- ==== Sys2Proof/Machine/Guard.lean ====
section
/-!
DEFINITION. The Sluice: watchdog, clamp, detectors, comparison and mutes of a channel (R510–R519), SAFE_MUTE_N and SAFE_OK
(R520–R522), ceilings, unlock and fuses (R511–R513), the fault log's objects (R532).

A GUARD_SAMPLE of every active channel stands between two sample boundaries of its domain. It takes the sample that the
patch unit released at the boundary before it; what it releases is taken at the next boundary.
-/

namespace Sys2Proof.Machine

/-- Replace the guard's record. -/
def State.setGuard (s : State) (g : GuardSt) : State := { s with guard := g }
/-- A fault-log entry of a guard sample: it carries the DT of the sample, 0 while PD3 is off (R529). -/
def State.logGuard (s : State) (cls loc : Nat) : State :=
  let pd3 := bit (s.ob oidPwrDomains) 3
  s.logFaultAt (s.ob oidInstar) (if pd3 then wd s.dtSec else 0) (if pd3 then wd s.dtNs else 0) cls loc

/-! ### SAFE_MUTE_N (R520, R521) -/

/-- A cause of SAFE_MUTE_N arises (R520). A cause that stands does not arise again. -/
def State.safeRaise (s : State) (code g : Nat) (net : Bool) : State :=
  if s.guard.safe.contains code then s
  else
    let s := s.setGuard { s.guard with safe := s.guard.safe ++ [code] }
    if code = 0 then s
    else
      let s := (s.logGuard 12 (65536 * g + (if net then 8 else 0) + code)).guardFlag 5
      (s.raise 13 5 [(1, code)]).twinFail 3 true
/-- Causes of SAFE_MUTE_N clear. When none is left the pin is released (R520, R534, R536). -/
def State.safeClear (s : State) (codes : List Nat) : State :=
  let old := s.guard.safe
  let now := old.filter (fun c => !codes.contains c)
  let s := s.setGuard { s.guard with safe := now }
  if old ≠ [] ∧ now = [] then (s.raise 13 6 [(1, old.headD 0)]).twinFail 3 false else s

/-! ### The stages of a sample (R510) -/

/-- The ceiling as a magnitude (R511). -/
def ceilMag (v : Word) : Nat := if f32IsZero v then 2 ^ 31 - 1 else (f32ToFix 32 31 (fxToF32 (fxDb v))).toNat
/-- ρ for a rate in Hz and GUARD_CLAMP_REL in ms (R514). -/
def clampRho (hz : Nat) (rel : Word) : Word :=
  fxToF32 (fxExp (fxDiv (1000 * fxLn2) (fxOfF32 rel * hz)))
/-- r of a sample (R514). -/
def clampR (c : Nat) (x : Word) : Word :=
  let m := x.toInt.natAbs
  if m ≤ c then 0x3F800000 else f32OfRat false c m
/-- The clamp: its output for the sample before last, and whether clamping begins (R514). -/
def GInst.clamp (i : GInst) (c : Nat) (rho x : Word) : GInst × Word × Bool :=
  let x0 := nth 0 i.xs 1
  let g := f32Min (clampR c x0) (f32Min (clampR c (nth 0 i.xs 0)) (f32Min (clampR c x) (f32Min (f32Mul rho i.g) 0x3F800000)))
  let y := rneDiv (x0.toInt * f32Num g) (2 ^ 149)
  ({ i with xs := [x, nth 0 i.xs 0], g := g }, wdI (max (-(c : Int)) (min (c : Int) y)),
    decide (g ≠ 0x3F800000 ∧ i.g = 0x3F800000))

/-- One detector's condition is met or absent in this sample: the condition, the trip under TRIP_ACTION, the time at which
the condition ended (R515, R517). The flag says that the detector trips. -/
def GInst.condition (i : GInst) (b n act : Nat) (met absent : Bool) : GInst × Bool :=
  let has := i.present.testBit b
  let standing := i.auto.testBit b || i.latch.testBit b
  let trip := met && (if act = 0 then !has else !standing)
  let on (m : Nat) (c : Bool) : Nat := if c && !m.testBit b then m + 2 ^ b else m
  let now := if met then true else if absent then false else has
  let i := { i with present := (if now then on i.present true else if has then i.present - 2 ^ b else i.present)
                    clear := if has && !now then setNth i.clear b n else i.clear }
  ({ i with auto := on i.auto (trip && act = 1)
            latch := on i.latch (trip && decide (act ≥ 2))
            safe := on i.safe (trip && act = 3) }, trip)

/-- The DC detector (R515). -/
def GInst.dc (i : GInst) (n hz act : Nat) (en : Bool) (y : Word) : GInst × Bool :=
  let len := (rneDiv (hz : Int) 40).toNat
  let i := { i with dcSum := i.dcSum + y.toInt, dcCnt := i.dcCnt + 1 }
  if i.dcCnt < len then (i, false)
  else
    let sum := i.dcSum
    let overR := decide (100 * sum.natAbs > len * 2 ^ 31)
    let run : Int := if !overR then 0 else if sum > 0 then (if i.dcRun > 0 then i.dcRun + 1 else 1) else (if i.dcRun < 0 then i.dcRun - 1 else -1)
    let i := { i with dcSum := 0, dcCnt := 0, dcRun := run }
    i.condition 0 n act (en && decide (run.natAbs ≥ 5)) (!overR)
/-- A mean square of Q1.31 samples lies above −`t` dBFS (R515). -/
def hfAbove (sum len t : Nat) : Bool := decide (sum ^ 10 * 10 ^ t > (len * 2 ^ 62) ^ 10)
/-- The HF detector (R515). -/
def GInst.hfd (i : GInst) (n hz code act : Nat) (en : Bool) (t : Nat) (y : Word) : GInst × Bool :=
  let len := (rneDiv (hz : Int) 100).toNat
  let st := Config.hfStep code i.hf y
  let i := { i with hf := st, hfSum := i.hfSum + (nth 0 st 0).toInt.natAbs ^ 2, hfCnt := i.hfCnt + 1 }
  if i.hfCnt < len then (i, false)
  else
    let overR := hfAbove i.hfSum len t
    let run := if overR then i.hfRun + 1 else 0
    let i := { i with hfSum := 0, hfCnt := 0, hfRun := run }
    i.condition 1 n act (en && decide (run ≥ 5)) (!overR)
/-- The discontinuity detector; the second flag says that the sample is a discontinuity (R515). -/
def GInst.discd (i : GInst) (n hz act : Nat) (en : Bool) (t : Nat) (y : Word) : GInst × Bool × Bool :=
  let d := (y.toInt - 2 * i.y1.toInt + i.y2.toInt).natAbs
  let overR := decide (d > (t + 1) * 2 ^ 29)
  let win := hz / 10
  let l := (if overR then n :: i.disc else i.disc).filter (fun u => n < u + win)
  let i := { i with disc := l, y1 := y, y2 := i.y1 }
  let (i, trip) := i.condition 2 n act (en && overR && decide (l.length ≥ 4)) (l = [])
  (i, trip, overR)

/-- N: the samples of a full mute (R517). -/
def muteLen (code : Nat) : Nat := nth 256 [64, 64, 64, 128, 128, 256, 256] code
/-- The mute gain of this sample (R517). -/
def GInst.mute (i : GInst) (muted : Bool) (code fade : Nat) : GInst :=
  let one := 2 ^ 30
  if muted then
    if i.m = 0 then { i with up := false, k := 0, m0 := 0 }
    else
      let (m0, k) := if i.up || i.k = 0 then (i.m, 1) else (i.m0, i.k + 1)
      let d := k * one / muteLen code
      { i with up := false, m0 := m0, k := k, m := m0 - min d m0 }
  else if i.m = one then { i with up := true, k := 0, m0 := one }
  else
    let (m0, k) := if !i.up || i.k = 0 then (i.m, 1) else (i.m0, i.k + 1)
    { i with up := true, m0 := m0, k := k, m := min one (m0 + (rneDiv (k * one : Nat) fade).toNat) }

/-- The freshness watchdog's count: a sample is fresh if it carries the sequence number that follows the last one's; a sample
that is missing takes its number with it (R509, R516; DEDUCED, log 38). -/
def GCh.next (c : GCh) (seq : Option Byte) : GCh × Bool :=
  match seq with
  | some q => ({ c with seq := some (q + 1) }, c.seq.getD q == q)
  | none => ({ c with seq := c.seq.map (· + 1) }, false)
/-- The freshness watchdog: what it delivers, and whether a substitution begins (R516). -/
def GCh.watch (c : GCh) (fresh : Bool) (fade : Nat) (x : Word) : GCh × Word × Bool :=
  let subst (c : GCh) (k : Nat) : GCh × Word :=
    ({ c with stale := some (k + 1) }, if k ≤ 31 then wdI (rneDiv (c.last.toInt * ((31 - k : Nat) : Int)) 32) else 0)
  match c.stale with
  | none =>
    if fresh then
      if c.fadeIn = 0 then ({ c with last := x }, x, false)
      else
        let w := min (2 ^ 30) (rneDiv (c.fadeIn * 2 ^ 30 : Nat) fade)
        let y := wdI (rneShift (x.toInt * w) 30)
        ({ c with last := y, fadeIn := if c.fadeIn ≥ fade then 0 else c.fadeIn + 1 }, y, false)
    else
      let (c, y) := subst { c with fresh := 0, fadeIn := 0 } 0
      (c, y, true)
  | some k =>
    let (c', y) := subst { c with fresh := if fresh then c.fresh + 1 else 0 } k
    (if c'.fresh ≥ 8 then { c' with stale := none, fresh := 0, fadeIn := 1 } else c', y, false)

/-! ### One sample of a channel (R510, R514–R519) -/

/-- The detectors of an instance on its own clamp output: the detectors that trip, and whether the sample is a
discontinuity. -/
def GInst.detect (i : GInst) (cfg : Word) (n hz code : Nat) (y : Word) : GInst × List Nat × Bool :=
  let act := fld cfg 1 0
  let (i, t0) := i.dc n hz act (bit cfg 2) y
  let (i, t1) := i.hfd n hz code act (bit cfg 3) (fld cfg 10 5) y
  let (i, t2, d) := i.discd n hz act (bit cfg 4) (fld cfg 13 11) y
  (i, (if t0 then [0] else []) ++ (if t1 then [1] else []) ++ (if t2 then [2] else []), d)

/-- A detector of a channel trips (R515, R530, R536). -/
def State.tripped (s : State) (g d act : Nat) : State :=
  let s := ((s.logGuard 9 (65536 * g + d)).guardFlag 0).raise 13 0 [(2, g), (1, d)]
  if act = 3 then s.safeRaise 5 g (guardNet g) else s

/-- The channels of a site that have disagreed within 100 ms (R519). -/
def State.wideCount (s : State) (net : Bool) : Nat :=
  (s.guard.chs.filter (fun e => guardNet e.1 = net && e.2.st ≠ 0 &&
    (match e.2.onsets with | t :: _ => decide (e.2.n < t + s.domHz (s.gDom e.1) / 10) | [] => false))).length

/-- A disagreement of a channel begins in this sample (R519). -/
def State.disagree (s : State) (g hz : Nat) : State :=
  let c := s.gch g
  let l := (c.n :: c.onsets).filter (fun t => c.n < t + 10 * hz)
  let s := s.setGch g { c with dis := true, onsets := l }
  let s := ((s.logGuard 10 (65536 * g)).guardFlag 1).raise 13 1 [(2, g)]
  let s := if l.length ≥ 4 ∧ !c.retired then
      ((((s.setGch g { s.gch g with retired := true }).logGuard 11 (65536 * g)).guardFlag 2).raise 13 2 [(2, g)])
    else s
  if s.wideCount (guardNet g) > 4 then s.safeRaise 4 0 (guardNet g) else s

/-- The state of a channel follows its causes and its mute gain (R518). -/
def GCh.advance (c : GCh) (any : Bool) : GCh × Bool :=
  let m := min c.ia.m c.ib.m
  if any then
    (if c.st = 1 ∨ c.st = 4 ∨ c.st = 2 then ({ c with st := if m = 0 then 3 else 2 }, false) else (c, false))
  else if m = 2 ^ 30 then ({ c with st := 1 }, decide (c.st = 4))
  else if c.st = 1 then (c, false)
  else ({ c with st := 4 }, false)

/-- Fuse entry `k` is burned and covers channel `g` (R513). -/
def State.fuseCovers (s : State) (k g : Nat) : Bool :=
  let r := s.ob (oidGuardFuseRange k)
  bit r 31 && decide (fld r 10 0 ≤ g) && decide (g ≤ fld r 26 16)
/-- The bound of fuse entry `k` in binary32 dBFS: sixteenths of a dB. -/
def State.fuseBound (s : State) (k : Nat) : Word := f32OfInt (s.ob (oidGuardFuseCeil k)).toInt 16
/-- The ceiling in force: GUARD_CEIL, and never above a fused bound, which each instance enforces (R511, R513). -/
def State.ceilOf (s : State) (g : Nat) : Word :=
  ((List.range 16).filter (fun k => s.fuseCovers k g)).foldl (fun c k => f32Min c (s.fuseBound k)) (s.ob (oidGuardCeil g))

/-- One sample of guard channel `g`, with its sequence number, or none where no sample arrives. `fa` and `fb` are what an instance that computes wrongly has in place of its clamp
output and its mute gain (R510, R514–R519). -/
def State.guardSample (s : State) (g : Nat) (seq : Option Byte) (fa fb : Option (Word × BitVec 31)) : State :=
  let s := s.gSync g
  let c := s.gch g
  if c.st = 0 then s
  else
    let d := s.gDom g
    let hz := s.domHz d
    let code := s.domCode d
    let fade := s.obn oidGuardFadeIn
    let cfg := s.ob (oidGuardCfg g)
    let act := fld cfg 1 0
    let x := mapGet (fun _ => 0) s.mix.sinkOut (guardSink g)
    let n := c.n + 1
    let (c, fresh) := { c with n := n }.next seq
    let (c, x, staled) := c.watch fresh fade x
    let lim := ceilMag (s.ceilOf g)
    let rho := clampRho hz (s.ob oidGuardClampRel)
    let (ia, ya, onA) := c.ia.clamp lim rho x
    let (ib, yb, onB) := c.ib.clamp lim rho x
    let ya := match fa with | some f => f.1 | none => ya
    let yb := match fb with | some f => f.1 | none => yb
    let (ia, ta, da) := ia.detect cfg n hz code ya
    let (ib, tb, db) := ib.detect cfg n hz code yb
    let common := s.gCommon c
    let ia := ia.mute (common || ia.trips) code fade
    let ib := ib.mute (common || ib.trips) code fade
    let ma := match fa with | some f => f.2.toNat | none => ia.m
    let mb := match fb with | some f => f.2.toNat | none => ib.m
    let differ := decide (ya ≠ yb ∨ ma ≠ mb)
    let y := if yb.toInt.natAbs < ya.toInt.natAbs then yb else ya
    let out := wdI (rneShift (y.toInt * (min ma mb : Nat)) 30)
    let onset := differ && !c.differ
    let any := common || ia.trips || ib.trips || differ
    let (c, rel) := { c with ia := ia, ib := ib, differ := differ, dis := c.dis || differ,
                             agreeAt := if differ then n else c.agreeAt }.advance any
    let s := s.setGch g c
    let s := s.setGuard { s.guard with out := mapSet (fun _ => 0) s.guard.out g out, released := s.guard.released + (if rel then 1 else 0) }
    let s := if staled then (s.guardFlag 3).raiseOnce (if guardNet g then 1 else 0) 13 3 [(2, g)] else s
    let s := if onA || onB then s.guardFlag 4 else s
    let s := if da || db then s.count oidGuardDiscCnt else s
    let s := if onset then s.disagree g hz else s
    (ta ++ tb.filter (fun t => !ta.contains t)).foldl (fun t k => t.tripped g k act) s

/-- GUARD_SAMPLE (R510). -/
def execGuardSample (g : Fin 1792) (seq : Option Byte) (fa fb : Option (Word × BitVec 31)) (s : State) : Out :=
  .next (s.guardSample g seq fa fb)

/-- An instance's automatic trips whose condition has been absent for GUARD_HOLD clear (R517). -/
def GInst.holdOver (i : GInst) (n hold hz : Nat) : GInst :=
  [0, 1, 2].foldl (fun (j : GInst) b =>
    if j.auto.testBit b && !j.present.testBit b && decide ((n - nth 0 j.clear b) * 1000 ≥ hold * hz)
    then { j with auto := j.auto - 2 ^ b } else j) i
/-- GUARD_HOLD_EXPIRE (R517). -/
def execGuardHoldExpire (g : Fin 1792) (s : State) : Out :=
  let c := s.gch g
  let hz := s.domHz (s.gDom g)
  let hold := s.obn oidGuardHold
  .next (
    if c.st = 0 then s
    else
      let c := { c with
        ia := c.ia.holdOver c.n hold hz, ib := c.ib.holdOver c.n hold hz
        dis := c.dis && !(!c.differ && decide ((c.n - c.agreeAt) * 1000 ≥ hold * hz)) }
      let any := s.gCommon c || c.ia.trips || c.ib.trips
      s.setGch g (if !any ∧ (c.st = 2 ∨ c.st = 3) then { c with st := 4 } else c))

/-! ### Ceilings and the unlock (R511–R513) -/

/-- A ceiling lies above a fused bound of its channel (R513). -/
def State.overFuse (s : State) (g : Nat) (v : Word) : Bool :=
  (List.range 16).any (fun k => s.fuseCovers k g && f32Lt (s.fuseBound k) v)

/-- A write of GUARD_CEIL (R511–R513). That a raise comes from the unlocked session has been checked. -/
def wrGuardCeil (acc : Access) (g : Nat) (v : Word) (s : State) : Wr :=
  let old := s.ob (oidGuardCeil g)
  let v := if v = 0x80000000 then 0 else v
  if s.overFuse g v then .error stRange
  else
    let s := s.put (oidGuardCeil g) v
    .ok (if f32Lt old v then
        ((s.logGuard 14 (65536 * g + acc.session)).guardFlag 6).raise 13 7 [(2, g), (4, v.toNat), (1, acc.session)]
      else s)
/-- GUARD_CEIL_WRITE (R511). -/
def execGuardCeilWrite (acc : Access) (g : Fin 1792) (v : Word) (s : State) : Out :=
  .next (s.writeCmd acc (oidGuardCeil g) v (fun _ u => wrGuardCeil acc g v u))

/-- A write of GUARD_UNLOCK (R512). -/
def wrGuardUnlock (acc : Access) (v : Word) (s : State) : Wr :=
  let me := acc.session.val
  let g := s.guard
  let held := decide (g.holder = some me)
  -- any write of the holder ends its unlock
  let g := if held then { g with holder := none } else g
  if v = 0x5AFE then
    let s' := s.setGuard { g with first := some me }
    .ok (if g.first.isSome then s'.guardFlag 8 else s')
  else if v = 0xCE11 ∧ g.first = some me then .ok (s.setGuard { g with first := none, holder := some me })
  else
    let s' := s.setGuard { g with first := none }
    .ok (if held && g.first.isNone then s' else s'.guardFlag 8)
/-- GUARD_UNLOCK_WRITE (R512). -/
def execGuardUnlockWrite (acc : Access) (v : Word) (s : State) : Out :=
  .next (s.writeCmd acc oidGuardUnlock v (fun _ u => wrGuardUnlock acc v u))
/-- GUARD_UNLOCK_EXPIRE: the 100 ms in which the second word of an unlock was due end while `second`, else its 10 s (R512). -/
def execGuardUnlockExpire (second : Bool) (s : State) : Out :=
  let g := s.guard
  .next (
    if !second then s.setGuard { g with holder := none }
    else if g.first.isSome then (s.setGuard { g with first := none }).guardFlag 8
    else s)

/-- A write of GUARD_CFG (R535). -/
def wrGuardCfg (g : Nat) (v : Word) (s : State) : Wr :=
  if fld v 10 5 > 60 then .error stRange else .ok (s.put (oidGuardCfg g) v)
/-- GUARD_CFG_WRITE (R535). -/
def execGuardCfgWrite (acc : Access) (g : Fin 1792) (v : Word) (s : State) : Out :=
  .next (s.writeCmd acc (oidGuardCfg g) v (fun _ u => wrGuardCfg g v u))

/-- A write of a fuse object: read-only once its entry is burned (R10, R513, R532). FUSED is not written. -/
def wrFuse (k oid : Nat) (range : Bool) (v : Word) (s : State) : Wr :=
  if bit (s.ob (oidGuardFuseRange k)) 31 then .error stDenied
  else if range && (v.toNat / 2 ^ 11 % 32 ≠ 0 || v.toNat / 2 ^ 27 % 16 ≠ 0) then .error stRange
  else .ok (s.put oid (if range then setBit v 31 false else v))

/-! ### GUARD_CTRL (R513, R517, R521, R533) -/

/-- A cause of code 2–5 persists (R521). -/
def State.safePersists (s : State) (code : Nat) : Bool :=
  if code = 2 then s.guard.osc ≠ []
  else if code = 3 then s.guard.cfgBad
  else if code = 4 then decide (s.wideCount false > 4) || decide (s.wideCount true > 4)
  else if code = 5 then s.guard.chs.any (fun e => e.2.ia.safe &&& e.2.ia.present ≠ 0 || e.2.ib.safe &&& e.2.ib.present ≠ 0)
  else false

/-- RELEASE_SAFE (R521). -/
def State.releaseSafe (s : State) (acc : Access) : Wr :=
  let due := s.guard.safe.filter (fun c => decide (2 ≤ c))
  if due.any s.safePersists then .error stNotReady
  else if due = [] then .ok s
  else .ok ((s.logGuard 13 (64 * acc.pc + acc.session)).safeClear due)
/-- The latched causes of a channel clear (R517). -/
def State.releaseCh (s : State) (g : Nat) : State :=
  let c := s.gch g
  s.setGch g { c with retired := false, ia := { c.ia with latch := 0, safe := 0 }, ib := { c.ib with latch := 0, safe := 0 } }
/-- Every channel with a record is released. -/
def State.releaseAll (s : State) : State := s.guard.chs.foldl (fun t e => t.releaseCh e.1) s
/-- FUSE: entry `k` is burned; a ceiling above its bound is lowered to it at once (R513). -/
def State.fuse (s : State) (acc : Access) (k : Nat) : Wr :=
  if acc.pc.val ≠ 1 ∨ s.guard.holder ≠ some acc.session.val then .error stDenied
  else if bit (s.ob (oidGuardFuseRange k)) 31 then .error stNotReady
  else
    let s := (s.put (oidGuardFuseRange k) (setBit (s.ob (oidGuardFuseRange k)) 31 true)).logGuard 15 k
    .ok (forUpTo 1792 (fun g t =>
      if t.fuseCovers k g && f32Lt (t.fuseBound k) (t.ob (oidGuardCeil g)) then t.put (oidGuardCeil g) (t.fuseBound k) else t) s)

/-- A write of GUARD_CTRL (R533). -/
def wrGuardCtrl (acc : Access) (v : Word) (s : State) : Wr :=
  if fld v 18 8 > 0x6FF then .error stRange
  else match fld v 2 0 with
  | 0 => .ok s
  | 1 => s.releaseSafe acc
  | 2 => .ok (s.releaseCh (fld v 18 8))
  | 3 => .ok s.releaseAll
  | 4 => s.fuse acc (fld v 23 20)
  | _ => .error stRange

/-- RELEASE_SAFE (R521). -/
def execReleaseSafe (acc : Access) (s : State) : Out :=
  .next (s.writeCmd acc oidGuardCtrl 1 (fun _ u => wrGuardCtrl acc 1 u))
/-- RELEASE_CH (R517). -/
def execReleaseCh (acc : Access) (ch : BitVec 11) (s : State) : Out :=
  .next (s.writeCmd acc oidGuardCtrl (wd (2 + 256 * ch.toNat)) (fun _ u => wrGuardCtrl acc (wd (2 + 256 * ch.toNat)) u))
/-- RELEASE_ALL (R517). -/
def execReleaseAll (acc : Access) (s : State) : Out :=
  .next (s.writeCmd acc oidGuardCtrl 3 (fun _ u => wrGuardCtrl acc 3 u))
/-- FUSE (R513). -/
def execFuse (acc : Access) (entry : Fin 16) (s : State) : Out :=
  .next (s.writeCmd acc oidGuardCtrl (wd (4 + 2 ^ 20 * entry.val)) (fun _ u => wrGuardCtrl acc (wd (4 + 2 ^ 20 * entry.val)) u))

/-! ### Oscillators, configuration, SAFE_OK, the fault log (R520, R522, R528, R532) -/

/-- GUARD_OSC_FAULT: the oscillator of an instance is found outside its range, or inside again (R509, R520). -/
def execGuardOscFault (net b out : Bool) (s : State) : Out :=
  let o := (if net then 2 else 0) + (if b then 1 else 0)
  let l := s.guard.osc.filter (· ≠ o)
  .next (
    if out then (s.setGuard { s.guard with osc := o :: l }).safeRaise 2 0 net
    else s.setGuard { s.guard with osc := l })

/-- GUARD_CFG_SCRUB: corrected words are counted; an uncorrectable one, a read-back mismatch or a fuse entry that no copy holds
well asserts SAFE_MUTE_N (R520,
R528). -/
def execGuardCfgScrub (ce : Nat) (ue : Bool) (s : State) : Out :=
  let s := forUpTo ce (fun _ t => t.guardFlag 7) s
  let s := s.setGuard { s.guard with cfgBad := ue }
  .next (if ue then s.safeRaise 3 0 false else s)

/-- SAFE_OK_EDGE: the pin changes level while the guard is healthy (R522). -/
def execSafeOkEdge (s : State) : Out :=
  .next (if s.guardHealthy then s.setGuard { s.guard with level := !s.guard.level } else s)

/-- A write of FAULT_CTRL (R532). -/
def wrFaultCtrl (v : Word) (s : State) : Wr :=
  if !bit v 0 then .ok s
  else .ok (forUpTo 64 (fun e t =>
    (((t.put (oidFaultWord e) 0).put (oidFaultInstar e) 0).put (oidFaultDtSec e) 0).put (oidFaultDtNs e) 0) (s.putn oidFaultNewest 0xFF))
/-- FAULT_LOG_CLEAR (R532). -/
def execFaultLogClear (acc : Access) (s : State) : Out :=
  .next (s.writeCmd acc oidFaultCtrl 1 (fun _ u => wrFaultCtrl 1 u))

end Sys2Proof.Machine
end

