-- ==== Sys2Proof/Machine/Engine.lean ====
section
/-!
DEFINITION. What stops and restarts the engine: the domain rates (R27, R256), the loss of XO (R336), the start of tiles.

ENGINE_STOP and ENGINE_RESTART are grain boundaries; they come before GRAIN_BOUNDARY.
-/

namespace Sys2Proof.Machine

/-- The outputs mute: cause SYS (R27, R336, R517). -/
def State.sysMute (s : State) (on : Bool) : State := s.setGuard { s.guard with sys := on }

/-- Chains on modulator clocks of domain `d` lose their rate. -/
def State.faultChains (s : State) (d : Nat) : State :=
  forUpTo 64 (fun i t => if (t.chain i).st ≠ 0 ∧ t.chainDom i = d then t.chainFault i else t) s

/-- A write of DOM_RATE_A (R27, R142, R256, R268, R501): the outputs mute, and the engine stops at the next boundary. -/
def wrDomRateA (v : Word) (s : State) : Wr :=
  if v = 0 then .error stRange
  else if s.ob oidDomRateA = v then .ok s
  else
    let busy := bit (s.ob oidTwinStatus) 3 && decide (s.tw = twActive)
    let s := ((s.put oidDomRateA v).sysMute true).starveDomain 0
    let s := (forUpTo 16 (fun g t => t.unlockBrg g 3) s).faultChains 0
    let s := (s.streamsLeave (fun d => d = 0)).abortActivation (rateCs v.toNat)
    let s := s.copyAbort cpRate
    .ok { s with img := { s.img with relock := true }, twin := { s.twin with again := s.twin.again || busy } }
/-- DOM_RATE_A_WRITE (R27). -/
def execDomRateAWrite (acc : Access) (v : Word) (s : State) : Out :=
  .next (s.writeCmd acc oidDomRateA v (fun _ u => wrDomRateA v u))

/-- A write of DOM_RATE_B or DOM_RATE_C (R256, R268, R328). -/
def wrDomRateBc (d : Nat) (v : Word) (s : State) : Wr :=
  let oid := if d = 1 then oidDomRateB else oidDomRateC
  if s.ob oid = v then .ok s
  else
    let s := (s.put oid v).starveDomain d
    let s := (s.unlockFar d (if v = 0 then 2 else 1)).faultChains d
    let s := if v = 0 then s.stopDpll d else s.retuneDpll d
    .ok (s.streamsLeave (fun e => e = d))
/-- DOM_RATE_BC_WRITE (R256). -/
def execDomRateBcWrite (acc : Access) (c : Bool) (v : Word) (s : State) : Out :=
  .next (s.writeCmd acc (if c then oidDomRateC else oidDomRateB) v (fun _ u => wrDomRateBc (if c then 2 else 1) v u))

/-- Fs_A has changed: the CSU recomputes every section in the grain that opens (R215, R223). -/
def State.moultCsu (s : State) : State := { s with moult := { s.moult with csuAll := some (s.gn + 1) } }

/-- ENGINE_STOP: the grain boundary at which the tiles stop for a rate change, a lost XO or a first lock after Eclosion (R27,
R75, R239, R336, R551). DA relocks at the rate that DOM_RATE_A names. -/
def execEngineStop (s : State) : Out :=
  .next (
    if !s.img.relock ∨ (s.img.relockStop ∧ s.obn oidDomRateA = s.conv.rateA) then s
    else
      let s := forUpTo 36 (fun p t =>
        if t.tileState p = tsRunning ∨ t.tileState p = tsGated then (t.abandonFirs (t.workOf p)).stopTile p else t) s
      let s := forUpTo 4 (fun q t => if t.quad q ≥ 2 then t.setQuad q 1 else t) s
      let s := s.streamsLeave (fun d => d = 0)
      let rate := s.obn oidDomRateA
      let change := decide (rate ≠ s.conv.rateA)
      let s := { s with img := { s.img with relockStop := true }, conv := { s.conv with rateA := rate } }
      let s := if change then ((s.retuneDpll 0).resetLines).moultCsu else s
      if s.imgActive && decide (rateCs rate ≠ s.cs) then s.twinFail 1 true else s)

/-- The tiles of the ACTIVE image that an engine stop has stopped run again with their DM, PM and address sets, registers at
zero and no checkpoint, and the selections whose loads the stop has abandoned in bank A (R42, R75, R136, R248). The tiles that an activation has stopped wait for its end. -/
def State.restartTiles (s : State) : State :=
  let s := (List.range 36).foldl (fun (t : State) w =>
    let p := t.carrierOf w
    if t.img.active.works w && decide (t.tileState p = tsStopped) && !t.img.takeovers.any (fun k => k.onto = p)
        && !(decide (t.img.act.phase ≥ 4) && t.img.act.changed.contains w) then
      let x := t.tile p
      ((t.setTile p { dm := x.dm, pm := x.pm, sets := x.sets, shadows := x.shadows, ip := t.img.active.entry w, cyc := 0,
                      t3q := x.t3q }).loadFirs w false).setTileState p tsRunning
    else t) s
  (s.writeBound (s.gn + 1) (fun _ => true)).meterRestart

/-- ENGINE_RESTART: DA has relocked. With an image for the rate in force the tiles restart at this grain boundary, and the
outputs fade in; otherwise they stay stopped and muted (R27, R75, R184, R336, R355, R501). -/
def execEngineRestart (s : State) : Out :=
  .next (
    if !s.img.relock ∨ !s.img.relockStop ∨ s.obn oidDomRateA ≠ s.conv.rateA ∨ s.ob oidXoState ≠ 0 then s
    else
      let s := { s with img := { s.img with relock := false } }
      let ok := s.imgActive && decide (s.cs = rateCs s.conv.rateA) && !s.img.autoAct
      let s := (s.safeClear [1]).alignGrain
      let s := if ok then
          let on := s.img.running || decide (s.img.act.phase < 4) || s.img.act.partial'
          let s := { s with img := { s.img with relockStop := false, running := on } }
          ((s.restartTiles.silStart).sysMute false).twinFail 1 false
        else s
      if s.twin.again then ({ s with twin := { s.twin with again := false } }).copyBegin cpRate else s)

/-- IMG_TILES_START (R138): no tile starts while DA relocks (R27), and none with an image for another C_s (R26). -/
def execImgTilesStart (s : State) : Out :=
  .next (
    if s.img.act.phase ≠ 5 ∨ s.img.relock then s
    else if !s.img.act.back && decide (s.img.pend.cs ≠ rateCs s.conv.rateA) then s.abortActivation (rateCs s.conv.rateA)
    else (s.imgTilesStart.meterRestart).twinFail 1 false)

/-- XO_LOST: no edge for 1 µs (R336, R343, R497, R520). -/
def execXoLost (s : State) : Out :=
  .next (
    if s.ob oidXoState ≠ 0 then s
    else
      let s := ((s.put oidXoState 1).raise 8 10 []).sysMute true
      let s := (s.safeRaise 1 0 false).twinFail 0 true
      { s with img := { s.img with relock := true } })

/-- XO_RESTORED: XO has run without a gap for 1 s; every DPLL restarts as from OFF (R336). -/
def execXoRestored (s : State) : Out :=
  .next (
    if s.ob oidXoState = 0 then s
    else
      let s := (s.put oidXoState 0).twinFail 0 false
      forUpTo 3 (fun d t => if t.dst d = dsOff then t else t.startDpll d) s)

end Sys2Proof.Machine
end

