-- ==== Sys2Proof/Machine/MoultEvents.lean ====
section
/-!
DEFINITION. The latch and the moult boundary of commits (R202–R207, R487, R493), and the scrubber of the parameter store
(R194).

Both are grain boundaries; they come before GRAIN_BOUNDARY, which opens grain GN + 1.
-/

namespace Sys2Proof.Machine

/-- MOULT_LATCH: the latch boundary of the armed commit, beside a peer 25 µs or more after its acceptance; M is the boundary after. `late` are the objects staged in the last
25 µs, which a mirrored commit leaves to the next one (R202–R204, R207, R488, R493). -/
def execMoultLatch (late : List Nat) (s : State) : Out :=
  .next (
    if s.isStandby then s
    else match s.armed with
      | none => s
      | some c =>
        if (c.mode ≠ 0 ∧ !c.ready) ∨ (c.mode ≠ 1 ∧ (s.gn + 1 - c.lb).toInt < 0) then s
        else if s.foldingCnt ≥ 4 then s.moultFlag 2
        else
          let excl := if s.mirrors then late else []
          let s := s.mirror (.latch c.instar (s.gn + 1) (s.gn + 2) c.mode c.all c.ramp (Fin.ofNat 64 c.session))
          (s.jnlCommit c excl).latch c (s.gn + 2) excl)

/-- One commit begins at its moult boundary (R202, R242, R247). -/
def State.beginMoult (s : State) (c : Commit) : State :=
  let s := (s.put oidInstar c.instar).put oidMoultLastM c.m
  let s := s.raise 4 1 [(4, c.instar.toNat)]
  let s := c.bulk.foldl (fun t e => t.publishAtM (setKey e.1 e.2)) s
  let mine := c.set.filter (fun o => (s.pe o).inst = c.instar)
  let s := mine.foldl (fun t o => (t.moultEffect o).sourceEffect o) s
  s.setCommits (s.moult.commits.map (fun x => if x.instar = c.instar then { x with begun := true } else x))

/-- MOULT_BOUNDARY: the boundary that opens grain GN + 1 is the moult boundary of the commits latched for it (R202, R204). -/
def execMoultBoundary (s : State) : Out :=
  .next ((s.moult.commits.filter (fun c => c.st ≠ 0 && !c.begun && decide (c.m = s.gn + 1))).foldl (fun t c => t.beginMoult c) s)

/-! ### Scrub (R194) -/

/-- PS_SCRUB of the entry of an object (R194). An entry lost in both copies goes to its class default; the value of a DIRECT
object is reset at once. -/
def execPsScrub (oid : Nat) (err : PsError) (s : State) : Out :=
  .next (match err with
    | .clean => s
    | .single => (s.moultFlag 6).raiseOnce 0 4 5 []
    | .oneLive => (s.moultFlag 7).raiseOnce 0 4 5 []
    | .bothLive =>
      let l := s.put oid (oidDflt oid)
      let s := if lawOf oid = 0 then l else s
      let e := s.pe oid
      let v := s.psWordAt oid s.gn
      let d := psDflt oid
      let s := s.setPe oid { e with start := if lawRamps (lawOf oid) then s.psF32 oid s.gn else v, target := d.target, mb := s.gn + 1, n := 0, sval := if e.staged then e.sval else d.target }
      let s := if isSwitch oid then s.setSw oid {} else (s.moultEffect oid).sourceEffect oid
      ((s.moultFlag 7).raiseOnce 0 4 5 []).noteFault 7 oid
    | .stage => ((s.setPe oid (s.pe oid).unstage).moultFlag 5).raiseOnce 0 4 5 [])

end Sys2Proof.Machine
end

