-- ==== Sys2Proof/Machine/Sample.lean ====
section
/-!
DEFINITION. What happens at a sample boundary of a domain: ports, chains, streams and bridges deliver, the patch unit stages
and releases (R172–R179), the silence detectors look (R182, R184), the outputs take what the Sluice has released (R187, R295).

A source that delivers at boundary T is staged, or released toward the Sluice, at T + 1. The sample staged at the boundary
that opens a grain belongs to the grain that ends there (R187), so a TIC's sample is staged here as it is delivered.
-/

namespace Sys2Proof.Machine

/-! ### Weights (R173, R177) -/

/-- sin(n/d × π/2) rounded RNE to Q2.30, for n ≤ d (R177). -/
def sinQ30 (n d : Nat) : Int := rneShift (sinHalf (fxOfRat n d)) 66

/-- The weights w_new and w_old of sample `k` of a crossfade of `l` samples, Q2.30 (R177). -/
def xfWeights (gain : Bool) (k l : Nat) : Int × Int :=
  if gain then (gainWeight k l, rneDiv ((l - (k + 1)) * 2 ^ 30 : Nat) l)
  else (sinQ30 (k + 1) l, sinQ30 (l - (k + 1)) l)

/-- The weight of the samples released from a TOC, as numerator and denominator (R138, R144, R526). -/
def TocFade.weight (f : TocFade) : Nat × Nat :=
  if f.zero ∨ f.retired then (0, 1)
  else
    let o := if f.outLen = 0 then (1, 1) else (f.outLen - f.outK, f.outLen)
    let i := if f.inLen = 0 then (1, 1) else (f.inK + 1, f.inLen)
    (o.1 * i.1, o.2 * i.2)
/-- One sample passes. -/
def TocFade.step (f : TocFade) : TocFade :=
  let f := if f.outLen = 0 then f else { f with outK := min (f.outK + 1) f.outLen }
  if f.zero ∨ f.inLen = 0 then f
  else if f.inK + 1 ≥ f.inLen then { f with inLen := 0, inK := 0 } else { f with inK := f.inK + 1 }
/-- What the patch unit releases from TOC `t` at the position in force (R138). -/
def State.tocOut (s : State) (t : Nat) : Word :=
  let v := mapGet (fun _ => 0) s.mix.tocGrain (16 * t + s.mix.pos)
  let w := (s.tocFade t).weight
  if w.1 = w.2 then v else wdI (rneDiv (v.toInt * (w.1 : Int)) (w.2 : Int))

/-! ### Sinks (R172, R173, R177) -/

/-- A sink takes its sources: the weighted sum without gain and mute, in units of 2^−30 (R173, R177). -/
def PatchSink.mix (p : PatchSink) (src : Nat → Word) : Int :=
  if p.xfL ≠ 0 ∧ p.xfK < p.xfL then
    let w := xfWeights p.xfGain p.xfK p.xfL
    w.2 * (src p.xfOld).toInt + w.1 * (src p.src).toInt
  else 2 ^ 30 * (src p.src).toInt
/-- The validity fade of a sink on its output (R172). -/
def PatchSink.valid (p : PatchSink) (v : Word) : Word :=
  let f : Fade := { dir := p.vdir, k := p.vk, len := p.vlen }
  if p.vdir = 0 then v else f.apply v
/-- One sample passes. -/
def PatchSink.step (p : PatchSink) : PatchSink :=
  let p := if p.xfL ≠ 0 then { p with xfK := min (p.xfK + 1) p.xfL } else p
  let f : Fade := ({ dir := p.vdir, k := p.vk, len := p.vlen } : Fade).step
  if p.vdir = 0 then p else { p with vdir := f.dir, vk := f.k, vlen := f.len }

/-- PATCH_GAIN of a port sink as Q3.29 and the mute weight M as Q2.30, in the grain in progress (R173). -/
def State.sinkGain (s : State) (k : Nat) : Int × Int :=
  ((dbWord 29 (s.psF32 (oidPatchGain k) s.gn)).toInt,
   (f32ToQ 30 (f32Sub f32One (s.psF32 (oidPatchMute k) s.gn))).toInt)
/-- What the patch unit releases to a sink (R173): port sinks with gain and mute, TIC sinks with g = M = 1. -/
def State.sinkValue (s : State) (k : Nat) (src : Nat → Word) : Word :=
  let p := s.sink k
  let m := p.mix src
  let y := if k ≥ 0x2000 then rneShift m 30
    else let (g, mu) := s.sinkGain k; rneShift (mu * g * m) 89
  p.valid (wdI (satInt 32 y))

/-- A source as a sink sees it: what it delivered last, a TOC's released sample, or zero. -/
def State.sourceAt (s : State) (m : SMap Word) (n : Nat) : Word :=
  if n = 0xFFFF then 0 else if 0x1000 ≤ n ∧ n < 0x2000 then s.tocOut (n - 0x1000) else mapGet (fun _ => 0) m n

/-- A port sink belongs to domain A as far as its port or stream is assigned (R171). -/
def State.sinkInA (s : State) (k : Nat) : Bool :=
  if k < 0x300 then s.slotInA k
  else if k < 0x800 then (match s.txStream (k - 0x400) with | some n => decide (s.domOf 2 n = 0) | none => true)
  else true

/-! ### Detectors (R182, R184, R539) -/

/-- A loud sample of a TIC: its detector goes to ACTIVE and every gated quadrant that lists it wakes. -/
def State.loud (s : State) (t : Nat) : State :=
  let was := s.sil t
  let s := s.silLoud t
  if was = silSilent then
    s.img.active.gating.foldl (fun u r => if r.2.2.contains t then u.wakeQuad r.1 false else u) s
  else s
/-- The detector of a routed TIC looks at the samples that its sources deliver (R182). -/
def State.detect (s : State) (k : Nat) : State :=
  let p := s.sink k
  let t := k - 0x2000
  let v (n : Nat) : Nat := (s.sourceAt s.mix.srcNow n).toInt.natAbs
  if p.src = 0xFFFF ∧ p.xfL = 0 ∨ p.vdir = 1 ∨ p.vdir = 2 then s
  else
    let a := if p.xfL ≠ 0 ∧ p.xfK < p.xfL then max (v p.src) (v p.xfOld) else v p.src
    if a ≥ s.silMag t then s.loud t else s

/-! ### What is delivered (R295, R276, R389) -/

/-- A source delivers a sample. -/
def State.deliver (s : State) (n : Nat) (v : Word) : State :=
  { s with mix := { s.mix with srcNow := mapSet (fun _ => 0) s.mix.srcNow n v } }
/-- A receive stream delivers its channels. -/
def State.deliverStream (s : State) (n : Nat) : State :=
  let c := (s.nrx n).cfg
  let idle := decide (s.rxState n = 0)
  let s := s.rxSample n
  if idle then s
  else forUpTo (fld c 12 6) (fun i t => t.deliver (0x400 + fld c 22 13 + i) (nth 0 (t.nrx n).vals i)) s
/-- A receive channel has a stream, be it one that fades out after it was disabled (R391). -/
def State.rxHeard (s : State) (ch : Nat) : Bool :=
  (List.range 128).any (fun n =>
    let c := (s.nrx n).cfg
    decide (s.rxState n ≠ 0) && decide (fld c 22 13 ≤ ch ∧ ch < fld c 22 13 + fld c 12 6))
/-- Slots of ports that are OFF and channels without a stream deliver nothing more. -/
def State.dropSources (s : State) : State :=
  { s with mix := { s.mix with srcNow := s.mix.srcNow.filter (fun e =>
      if e.1 < 0x300 then decide (s.pst (e.1 / 32) ≠ pOff)
      else if 0x400 ≤ e.1 ∧ e.1 < 0x800 then s.rxHeard (e.1 - 0x400)
      else true) } }

/-- A group whose outputs are not at rest. -/
def State.brgBusy (s : State) (g : Nat) : Bool := decide (s.brg g ≠ 0) || decide ((s.grpFade g).dir ≠ 2)
/-- The domain in which a group puts out samples, and that in which it takes them. -/
def State.brgDoms (s : State) (g : Nat) : Nat × Nat :=
  let cfg := s.brgCfg g
  if bit cfg 1 then (farDomOf cfg, 0) else (0, farDomOf cfg)
/-- The bridge groups that put out samples in domain `d`: an IN channel is a patch source, an OUT channel feeds its far sink
while that is valid (R261, R262, R268). -/
def State.brgOutputs (s : State) (d : Nat) : State :=
  forUpTo 16 (fun g s =>
    if (s.brgDoms g).1 ≠ d ∨ !s.brgBusy g then s
    else
      let s := forUpTo 16 (fun i s =>
        let c := 16 * g + i
        let (v, s) := s.brgOutput c
        if (s.brgDoms g).1 = 0 then s.deliver (0x800 + c) v
        else
          let far := s.obn (oidBrgFar c)
          if far = 0xFFFF ∨ !s.farValid c then s
          else { s with mix := { s.mix with sinkOut := mapSet (fun _ => 0) s.mix.sinkOut far v } }) s
      s.setGrpFade g (s.grpFade g).step) s
/-- The bridge groups that take samples in domain `d`: the far source of an IN channel, zero while it is invalid, or the patch
sink of an OUT channel. -/
def State.brgInputs (s : State) (d : Nat) : State :=
  forUpTo 16 (fun g s =>
    if (s.brgDoms g).2 ≠ d ∨ !s.brgBusy g then s
    else forUpTo 16 (fun i s =>
      let c := 16 * g + i
      let far := s.obn (oidBrgFar c)
      s.brgInput c (if (s.brgDoms g).2 = 0 then mapGet (fun _ => 0) s.mix.sinkOut (0x800 + c)
        else if far = 0xFFFF ∨ !s.farValid c then 0 else mapGet (fun _ => 0) s.mix.srcNow far)) s) s

/-! ### The boundary -/

/-- What a domain's items deliver at its boundary: ports, modulator chains with the edge counts and bits of their clocks,
receive streams, bridge outputs. -/
def State.delivery (s : State) (d : Nat) (clk : List Nat) (bits : List (Nat × List (Bool × Bool))) : State :=
  let s := s.dropSources
  let s := forUpTo 24 (fun p t => if t.domOf 0 p = d then t.portRx p else t) s
  let s := forUpTo 64 (fun i t =>
    if t.modDom i ≠ d then t
    else
      let k := fld (t.ob (oidModCfg i)) 2 1
      let b := match bits.find? (fun e => e.1 = i) with | some e => e.2 | none => []
      let (v, t) := t.modSample i (nth 0 clk k) b
      t.deliver (0x300 + i) v) s
  let s := forUpTo 128 (fun n t => if t.domOf 1 n = d then t.deliverStream n else t) s
  -- the far sinks of another domain carry what a bridge puts out in this boundary, else nothing
  let s := if d = 0 then s else
    { s with mix := { s.mix with sinkOut := s.mix.sinkOut.filter (fun e =>
        if e.1 < 0x300 then decide (s.domOf 0 (e.1 / 32) ≠ d)
        else if e.1 < 0x800 then
          (match s.txStream (e.1 - 0x400) with | some n => decide (s.domOf 2 n ≠ d) | none => true)
        else true) } }
  s.brgOutputs d

/-- The ports of a domain change state, and its outputs take the samples that the Sluice has released since the boundary
before (R187, R295, R299, R386). -/
def State.outputs (s : State) (d : Nat) : State :=
  let s := (forUpTo 24 (fun p t => if t.domOf 0 p = d then t.portTurn p else t) s).alignTurn d
  let s := forUpTo 24 (fun p t => if t.domOf 0 p = d then t.portTx p else t) s
  let s := forUpTo 128 (fun n t =>
    if t.domOf 2 n ≠ d ∨ t.txState n = 0 then t
    else
      let c := t.ob (oidNetTxCfg n)
      t.txSample n ((List.range (fld c 12 6)).map (fun i => t.gOut (sinkGuard (0x400 + fld c 22 13 + i))))) s
  s.setTime { s.time with sb := mapSet (fun _ => 0) s.time.sb d s.time.dt }

/-- The patch unit's work at a boundary of domain A: it releases to every port sink what the sources delivered one sample
before, and stages for every TIC what they deliver now (R20, R173, R177, R187). -/
def State.patchRelease (s : State) : State :=
  let j := min s.mix.pos 15
  s.mix.sinks.foldl (fun t e =>
    let k := e.1
    if k ≥ 0x2000 then
      let t := t.detect k
      let v := t.sinkValue k (t.sourceAt t.mix.srcNow)
      let t := { t with mix := { t.mix with ticBuf := mapSet (fun _ => 0) t.mix.ticBuf (16 * (k - 0x2000) + j) v } }
      (t.meterSample (0x116000 + 2 * k) v).setSink k (t.sink k).step
    else if !t.sinkInA k then t.setSink k (t.sink k).step
    else
      let v := t.sinkValue k (t.sourceAt t.mix.srcPrev)
      let t := { t with mix := { t.mix with sinkOut := mapSet (fun _ => 0) t.mix.sinkOut k v } }
      let t := if k < 0x800 then
          { t with mix := { t.mix with sinkGrain := mapSet (fun _ => 0) t.mix.sinkGrain (16 * k + j) v } } else t
      (t.meterSample (0x116000 + 2 * k) v).setSink k (t.sink k).step) s

/-- The meters of the patch sources and the analysis chains take the samples of the boundary (R278, R279). -/
def State.sourceMeters (s : State) : State :=
  let s := s.mix.srcNow.foldl (fun t e =>
    if e.1 < 0x300 ∧ !t.slotInA e.1 then t else t.meterSample (0x110000 + 2 * e.1) e.2) s
  let s := s.mix.tocGrain.foldl (fun t e =>
    if e.1 % 16 ≠ t.mix.pos then t
    else t.meterSample (0x110000 + 2 * (0x1000 + e.1 / 16)) (t.tocOut (e.1 / 16))) s
  forUpTo 16 (fun a t =>
    let src := t.obn (oidAcSrc a)
    t.acSample a (if t.srcLegal src && (decide (src = 0xFFFF) || t.srcPresent src) then t.sourceAt t.mix.srcNow src else 0)) s

/-- What is left to do at a boundary of domain A: the counts of fades, silence clock and activation, the beacon, the
position. -/
def State.samplePassed (s : State) : State :=
  let s := s.img.toc.foldl (fun t e => t.setTocFade e.1 e.2.step) s
  let run := s.img.running && !s.img.relock && !s.img.relockStop
  let a := s.img.act
  let s := { s with img := { s.img with act := if 3 ≤ a.phase then { a with samples := a.samples + 1 } else a } }
  let s := s.twinBeat
  { s with mix := { s.mix with pos := s.mix.pos + 1, silClock := s.mix.silClock + (if run then 1 else 0) } }

/-- SAMPLE_BOUNDARY of a domain (R295). `clk` gives the edges of each modulator clock since the last boundary, `bits` what
each modulator input holds at their rising and falling edges, `reports` what each group's tracker has reached (R264). -/
def execSampleBoundary (dom : Dom) (clk : List Nat) (bits : List (Nat × List (Bool × Bool))) (reports : List TrackReport)
    (s : State) : Out :=
  let d := match dom with | .a => 0 | .b => 1 | .c => 2
  .next (
    if s.domHz d = 0 then s
    else
      let s := forUpTo 16 (fun g t => if t.brgFarDom g = d ∨ d = 0 then t.reacquire g else t) s
      let cnt := if d = 0 then [] else mapMod (fun _ => 0) s.conv.farCnt d (· + 1)
      let s := { s with conv := { s.conv with farCnt := cnt } }
      let s := if d = 0 then reports.foldl State.track s else s
      let s := s.outputs d
      let s := if d = 0 then { s with mix := { s.mix with srcPrev := s.mix.srcNow } } else s
      let s := s.delivery d clk bits
      let s := if d = 0 then s.patchRelease.sourceMeters else s
      let s := s.brgInputs d
      if d = 0 then s.samplePassed else s)

end Sys2Proof.Machine
end

