-- ==== Sys2Proof/Machine/Grain.lean ====
section
/-!
DEFINITION. GRAIN_BOUNDARY (R133): the boundary of domain A that ends grain GN and opens grain GN + 1. The other commands of
that instant come before it, SAMPLE_BOUNDARY of domain A after it.
-/

namespace Sys2Proof.Machine

/-! ### The grain that ends (R41, R60, R524–R526) -/

/-- A tile has run the grain that ends. -/
def State.ran (s : State) (p : Nat) : Bool := decide (s.tileState p = tsRunning ∧ 96 ≤ (s.tile p).cyc)
/-- What lands in a running tile's grain lands, the rest is discarded (R41); the PM words that issue to the grain's end are
read, and their errors counted (R60). -/
def State.endGrains (s : State) : State :=
  forUpTo 36 (fun p t =>
    if t.ran p then
      let x := t.tile p
      let x := if x.pmErr = [] then x else x.ticks (t.grainCyc - x.cyc)
      (t.setTile p (x.endGrain t.grainCyc)).pmReport p
    else t) s
/-- DM words that the exchange reads with an error: they belong to the grain whose output is exchanged (R60; DEDUCED,
log 6). -/
def State.grainErrors (s : State) (ex : List DmError) : State :=
  ex.foldl (fun t e =>
    if !t.ran e.tile then t
    else if e.ue then t.eccUe e.tile 1 false e.addr.toNat else t.eccCe e.tile 1 false) s

/-- The words that the exchange moves in one direction for a work, in section order: the lanes, the DM word, the channel of
lane 0, the grain position (R119). -/
def ImgBuf.exWords (b : ImgBuf) (w : Nat) (out : Bool) : List (Byte × Nat × Nat × Nat) :=
  ((b.exchange w).filter (fun e => e.out = out)).flatMap (fun e =>
    (List.range b.g).map (fun j => (e.mask, (e.buf + j) % 16384, e.ch, j)))

/-- The sample of the input grain that a TIC receives at a position. -/
def State.ticSample (s : State) (c j : Nat) : Word := mapGet (fun _ => 0) s.mix.ticBuf (16 * c + j)

/-- Lane `l` of the `c`-th output word of a tile as the exchange reads it in cycle `c`: DM with the input words of the cycles
before it (R58, R119). -/
def State.exRead (s : State) (t : Tile) (ins : List (Byte × Nat × Nat × Nat)) (c a l : Nat) : Word :=
  match ((ins.take c).reverse).find? (fun x => x.1.getLsbD l && x.2.1 = a) with
  | some x => s.ticSample (x.2.2.1 + l) x.2.2.2
  | none => t.dmw a l

/-- The output grain as the exchange reads it from the tiles that ran, one word a cycle (R58, R119). -/
def State.readOutputs (s : State) : SMap Word :=
  let b := s.img.active
  (List.range 36).foldl (fun m p =>
    if !s.ran p then m
    else
      let t := s.tile p
      let ins := b.exWords (s.workOf p) false
      ((b.exWords (s.workOf p) true).mapIdx (fun c x => (c, x))).foldl (fun m e =>
        forUpTo 8 (fun l m =>
          if e.2.1.getLsbD l then
            mapSet (fun _ => 0) m (16 * (e.2.2.2.1 + l) + e.2.2.2.2) (s.exRead t ins e.1 e.2.2.1 l) else m) m) m) []

/-- The TOCs of a failed tile repeat the grain before, fading to zero (R526). -/
def fadedRepeat (g : Nat) (prev grain : SMap Word) (tocs : List Nat) : SMap Word :=
  tocs.foldl (fun m c => forUpTo g (fun j m =>
    let v := mapGet (fun _ => 0) prev (16 * c + j)
    mapSet (fun _ => 0) m (16 * c + j) (wdI (rneDiv (v.toInt * (g - 1 - j : Nat)) (g : Int)))) m) grain

/-- The grains of 10 s (R525). -/
def State.tenSeconds (s : State) : Nat := (10 * s.fsA + s.gsize - 1) / s.gsize

/-- What becomes of a tile whose grain GN has failed: it reloads, or it is retired at its fourth failure within 10 s
(R524–R527). A failure for want of a wake does not count (R540). A tile that an activation has stopped is loaded anyway, and its
retirement waits for the start of the new image (R142). -/
def State.judge (s : State) (p : Nat) : State :=
  let w := s.workOf p
  let l := (s.img.active.alt w).2
  let old := l.map (fun c => (c, s.tocFade c))
  let st := s.tileState p
  let gns := mapGet (fun _ => []) s.img.failGns p
  let near := gns.filter (fun n => decide ((s.gn - wd n).toNat ≤ s.tenSeconds))
  let permanent := decide (st ≠ tsGated) && decide (near.length ≥ 3)
  let s := if st = tsGated then s else
    { s with img := { s.img with failGns := mapSet (fun _ => []) s.img.failGns p (s.gn.toNat :: near) } }
  let loading := decide (st = tsStopped) && decide (s.img.act.phase ≥ 4) && s.img.act.changed.contains w
  if loading then
    (if permanent then { s with img := { s.img with retirePend := s.img.retirePend ++ [p] } } else s)
  else
    let s := if permanent then s.retireTile p else s.beginReload p
    -- the replaced grain is released first; zero follows it (R144, R526)
    old.foldl (fun t e =>
      let r := (t.tocFade e.1).retired
      t.setTocFade e.1 (if e.2.zero then { zero := true, retired := r } else { e.2 with soon := true, retired := r })) s

/-! ### Power of the quadrants (R538–R540) -/

/-- The GATING record of a quadrant (R127). -/
def State.gateRec (s : State) (q : Nat) : Option (Bool × List Nat) :=
  (s.img.active.gating.find? (fun r => r.1 = q)).map (·.2)
/-- The conditions of R538 but for the time for which the quadrant has been ON. -/
def State.mayGate (s : State) (q : Nat) : Bool :=
  let mine (t : Nat) : Bool := decide (quadOf t = q)
  bit (s.ob oidPwrQgateEn) q && s.imgActive && s.img.running && !s.img.relock && decide (s.img.act.phase < 3) &&
  (match s.gateRec q with | some (g, l) => g && l.all (fun t => s.sil t = silSilent) | none => false) &&
  !s.img.takeovers.any (fun k => mine k.onto || mine k.work) &&
  !(List.range 128).any (fun m => decide ((s.fir m).phase = 1 ∨ (s.fir m).phase = 2) &&
    (match s.img.active.tileOfToc m with | some w => mine (s.carrierOf w) | none => false)) &&
  (List.range 9).all (fun i => s.tileState (9 * q + i) ≠ tsStopped)
/-- A tile keeps its memories and loses its registers (R75). -/
def Tile.gated (t : Tile) : Tile :=
  { dm := t.dm, pm := t.pm, sets := t.sets, shadows := t.shadows, ckpt := t.ckpt, t3q := t.t3q, cyc := 0 }
/-- Tiles of a quadrant in one state go to another with registers at zero. -/
def State.quadTiles (s : State) (q a b : Nat) : State :=
  forUpTo 9 (fun i t =>
    let p := 9 * q + i
    if t.tileState p = a then (t.setTile p (t.tile p).gated).setTileState p b else t) s
/-- The tiles that wake load the selections whose loads gating has abandoned (R248). -/
def State.wakeFirs (s : State) (q : Nat) : State :=
  forUpTo 9 (fun i t => if t.tileState (9 * q + i) = tsGated then t.loadFirs (t.workOf (9 * q + i)) false else t) s
/-- A waking quadrant that is ready runs again; one that is not ready fails its tiles' grain (R539, R540). The flag says
that it wakes. -/
def State.wakeAt (s : State) (q : Nat) : State × Bool :=
  if s.quad q ≠ 3 then (s, false)
  else if mapGet (fun _ => 0) s.img.quadRun q = 1 then (s.quadRunZero q, false)
  else if s.pwr.qready.testBit q then
    ((((s.wakeFirs q).setQuad q 1).quadRunZero q).quadTiles q tsGated tsRunning, true)
  else
    let s := s.sticky oidPwrSticky 1 (oidPwrCnt 1)
    (forUpTo 9 (fun i t => if t.tileState (9 * q + i) = tsGated then t.failGrain (9 * q + i) else t) s, false)
/-- A quadrant gates when it may and has been ON for PWR_QGATE_MIN_RUN; a gated one that may no longer be starts to wake
(R538, R539). The flag says that it gates. -/
def State.gateAt (s : State) (q : Nat) : State × Bool :=
  if s.quad q = 2 then (if s.mayGate q then s else s.wakeQuad q false, false)
  else if s.quad q ≠ 1 then (s, false)
  else
    let n := mapGet (fun _ => 0) s.img.quadRun q + 1
    let s := { s with img := { s.img with quadRun := mapSet (fun _ => 0) s.img.quadRun q n } }
    let old := decide (n * s.gsize * 1000 ≥ s.obn oidPwrQgateMinRun * s.fsA)
    if old && s.mayGate q && (List.range 9).any (fun i => s.tileState (9 * q + i) = tsRunning) then
      let s := forUpTo 9 (fun i t => if t.tileState (9 * q + i) = tsRunning then t.abandonFirs (t.workOf (9 * q + i)) else t) s
      ((((s.setQuad q 2).quadRunZero q).quadTiles q tsRunning tsGated).sticky oidPwrSticky 0 (oidPwrCnt 0), true)
    else (s, false)
/-- Apply a step to the four quadrants; the flag says that one of them changed. -/
def State.eachQuad (s : State) (f : State → Nat → State × Bool) : State × Bool :=
  (List.range 4).foldl (fun a q => let (t, c) := f a.1 q; (t, a.2 || c)) (s, false)

/-! ### The grain that opens -/

/-- Domain assignments take effect: the item stops and re-enters in its new domain (R257, R258). -/
def State.assignDomains (s : State) : State :=
  let put (kind n d : Nat) (t : State) : State :=
    { t with conv := { t.conv with dom := mapSet (fun _ => 0) t.conv.dom (128 * kind + n) d } }
  let s := forUpTo 24 (fun p t =>
    let d := t.obn (oidPortDomain p)
    if d = t.domOf 0 p then t
    else
      let t := put 0 p d t
      if t.pst p = pOff then t else t.starvePort p caDomain) s
  let s := forUpTo 128 (fun n t =>
    let d := t.obn (oidNetRxDomain n)
    if d = t.domOf 1 n then t
    else
      let t := put 1 n d t
      if t.rxState n ≥ 2 then t.rxLeave n 1 else t) s
  let s := forUpTo 128 (fun n t =>
    let d := t.obn (oidNetTxDomain n)
    if d = t.domOf 2 n then t
    else
      let t := put 2 n d t
      let t := if t.txState n = 2 then (t.putn (oidNetTxState n) 1).setNtx n { t.ntx n with fill := [], full := none } else t
      t.txCheck n) s
  forUpTo 4 (fun k t =>
    let d := fld (t.ob (oidModclkCfg k)) 2 1
    if d = t.domOf 3 k then t
    else
      let t := put 3 k d t
      let l := (List.range 64).filter (fun i => decide ((t.chain i).st ≠ 0) && decide (fld (t.ob (oidModCfg i)) 2 1 = k))
      if l = [] then t else t.requestSync 0 (2 ^ k) 0 l) s

/-- Sections whose SEC_STATUS newly shows CLAMPED_F or CLAMPED_G: the flag, and one event with the count (R222, R227,
R228). Bits 0 and 1 of a section's flags keep what it showed in the grain before. -/
def State.csuClamps (s : State) : State :=
  let secs := (s.ps.filterMap (fun e => sectionOf e.1)).eraseDups
  let (s, n) := secs.foldl (fun (a : State × Nat) k =>
    let f := mapGet (fun _ => 0) a.1.moult.secFlags k
    let st := a.1.secStatus k a.1.gn % 4
    let new := decide ((st % 2 = 1 ∧ f % 2 = 0) ∨ (st / 2 = 1 ∧ f / 2 % 2 = 0))
    let t := { a.1 with moult := { a.1.moult with secFlags := mapSet (fun _ => 0) a.1.moult.secFlags k (f / 4 * 4 + st) } }
    if new then (t.sticky oidMoultSticky 8 (oidMoultCnt 8), a.2 + 1) else (t, a.2)) (s, 0)
  if n = 0 then s else s.raise 4 6 [(4, n)]

/-- What the exchange and the sequencer leave in a running tile by ecyc 96 (R52, R58, R66, R69, R105–R107, R133). -/
def State.openTile (s : State) (p : Nat) : State :=
  let b := s.img.active
  let w := s.workOf p
  let t := s.tile p
  let t := (b.exchange w).foldl (fun t e =>
    if e.out then t
    else forUpTo s.gsize (fun j t => t.setDm (e.buf + j) e.mask
      (lanes (fun l => mapGet (fun _ => 0) s.mix.ticGrain (16 * (e.ch + l) + j)))) t) t
  let t := t.setK 7 0xFF (laneMask (fun l => s.k7 (b.k7Tic w l)))
  let t := { t with
    ip := b.entry w, cyc := 96, loops := [], bexp := 31
    mutes := t.mutes.foldl (fun (m : SMap OvfMute) (e : Nat × OvfMute) =>
      if e.2.phase = 1 then mapSet (fun _ => {}) m e.1 { phase := 2, p := 0, k := 0 } else m) t.mutes }
  s.setTile p { t with ptr96 := t.sets.foldl (fun (m : SMap Nat) e => mapSet (fun _ => 0) m e.1 e.2.ptr) [] }

/-- The records that every tile keeps for one grain start anew; checkpoints age, and the pass of a failed tile is abandoned
(R136). -/
def Tile.nextGrain (t : Tile) : Tile :=
  let c := t.ckpt
  let c := { c with age := if c.valid then c.age + 1 else 0 }
  let c := if t.failed then { c with pos := 0, pass := [] } else c
  { t with ovfLogged := false, stCount := [], sends := [], t3used := 0, failed := false, fails := [], pmErr := [],
           ckpt := c }

/-- The fades of TOCs that wait for a grain boundary (R138, R144, R526): a fade-in counts down, and zero follows the replaced
grain that the boundary before has delivered. -/
def TocFade.grain (f : TocFade) : TocFade :=
  if f.soon then { zero := true, retired := f.retired }
  else if f.wait = 0 then f
  else if f.wait = 1 then { f with wait := 0, zero := false } else { f with wait := f.wait - 1 }

/-- STAGE_OVERWRITTEN of the grain: to each session that lost entries (R198, R436). -/
def State.overwrittenEvents (s : State) : State :=
  s.sess.foldl (fun t e =>
    if e.2.overwritten = 0 then t
    else (t.setSes e.1 { t.ses e.1 with overwritten := 0 }).raiseFull (some e.1)
      (t.ob oidTimeGbSecLo) (t.ob oidTimeGbNs) 4 4 [(4, e.2.overwritten)]) s

/-- GUARD_RELEASED: the channels that reached PASS in the grain (R536). -/
def State.releasedEvent (s : State) : State :=
  if s.guard.released = 0 then s
  else ({ s with guard := { s.guard with released := 0 } }).raise 13 4 [(4, s.guard.released)]
/-- MOD_SETTLED: the chains that settled in the grain (R287). -/
def State.settledEvent (s : State) : State :=
  if s.conv.settled = 0 then s
  else ({ s with conv := { s.conv with settled := 0 } }).raise 6 6 [(1, s.conv.settled)]

/-- The grain that ends: results, errors, the log, the signature, the meters, the output grain, the tail reports (R41, R60,
R183, R279, R495, R526, R529). -/
def State.closeGrain (s : State) (ex : List DmError) (reports : List (Nat × Nat × Nat)) : State :=
  let s := (s.endGrains.grainErrors ex).flushFaults
  let s := ((s.signGrain).tapReports reports).meterGrain
  let failed := (List.range 36).filter (fun p => (s.tile p).failed)
  let tocs := failed.flatMap (fun p => (s.img.active.alt (s.workOf p)).2)
  let grain := fadedRepeat s.gsize s.mix.tocGrain s.readOutputs tocs
  let s := { s with mix := { s.mix with tocPrev := s.mix.tocGrain, tocGrain := grain } }
  let s := { s with img := { s.img with toc := s.img.toc.foldl (fun (m : SMap TocFade) (e : Nat × TocFade) =>
    mapSet (fun _ => {}) m e.1 e.2.grain) s.img.toc } }
  let s := failed.foldl (fun t p => t.judge p) s
  { s with marks := [] }

/-- The PM words that fail in the grain that opens (R60). -/
def State.noteBadWords (s : State) (pm : List PmError) : State :=
  pm.foldl (fun t e => t.setTile e.tile { t.tile e.tile with pmErr := (t.tile e.tile).pmErr ++ [(e.addr.toNat, e.ue)] }) s

/-- The grain that opens, up to ecyc 96 (R20, R65, R133, R193, R236). Pending address-set writes apply in every tile. -/
def State.openGrain (s : State) (pm : List PmError) (dl : List LineError) : State :=
  let s := s.closeTraffic.waitingFirs
  let s := s.put oidGrainNumber (s.gn + 1)
  let s := { s with mix := { s.mix with ticGrain := s.mix.ticBuf, ticBuf := [], pos := 0 } }
  let s := s.tiles.foldl (fun (t : State) e => t.setTile e.1 e.2.nextGrain.applyShadows) s
  let s := s.noteBadWords pm
  let s := s.delayEngine (fun c j => mapGet (fun _ => 0) s.mix.tocGrain (16 * c + j)) dl
  let (s, woke) := s.eachQuad State.wakeAt
  let s := s.writeBound s.gn (fun w =>
    decide (s.tileState (s.carrierOf w) = tsRunning ∨ s.tileState (s.carrierOf w) = tsGated))
  let s := forUpTo 36 (fun p (t : State) => if t.tileState p = tsRunning then t.openTile p else t) s
  let (s, gated) := s.eachQuad State.gateAt
  if woke || gated then s.raise 14 0 [(4, s.obn oidPwrQuadState)] else s

/-- What else a grain boundary does (R161, R172, R189, R228, R257, R262, R355, R404, R536). -/
def State.grainChecks (s : State) : State :=
  let s := s.assignDomains.checkFars.checkRoutes
  let s := s.restSwitches s.gn
  let s := s.csuClamps.silEvent.settledEvent.overwrittenEvents
  let s := forUpTo 128 (fun n t => if t.rxState n = 0 then t else t.rxPaths n) s
  (s.keepAligned.releasedEvent.reportFaults)

/-- GRAIN_BOUNDARY (R133, R354). `pm` lists the PM words that fail in the grain that begins, `ex` the words that the exchange
reads with an error, `dl` the line
reads that meet an error, `reports` the OID of PEAK, the largest magnitude and the sum of squares
of the tiles' meter points. -/
def execGrainBoundary (pm : List PmError) (ex : List DmError) (dl : List LineError) (reports : List (Nat × Nat × Nat)) (s : State) : Out :=
  let s := s.closeGrain ex reports
  let s := s.openGrain pm dl
  let s := if s.pd3 then s.recordGrain else s
  let s := s.grainChecks
  .next { s with grainInstar := s.ob oidInstar }

/-- SRAM_SCRUB: words of MGMT SRAM and of network SRAM are scrubbed and a corrected one is rewritten. An uncorrectable word
of network SRAM discards the frame that holds it, number `i` of a queue, and counts FRAME_ERR on its lane (R528). -/
def execSramScrub (net ue : Bool) (lane : Fin 4) (tc : Fin 8) (i : Nat) (s : State) : Out :=
  let q := s.queue lane tc
  .next (if net && ue && decide (i < q.length) then (s.setQueue lane tc (q.eraseIdx i)).laneFlag lane 1 else s)

end Sys2Proof.Machine
end

