-- ==== Sys2Proof/Machine/Journal.lean ====
section
/-!
DEFINITION. The journal's flash: its layout (R559, R560), the bytes of records and snapshots (R563, R568), pages, erases, compactions, snapshots (R565–R569), the stop of PFAIL_N (R570), the actions
of JNL_CTRL (R574).
-/

namespace Sys2Proof.Machine

/-! ### The layout of the flash (R559, R560) -/

/-- A part of the flash. -/
inductive FlashPart where
  | layout (b : Bool)
  | firmware (slot : Bool)
  | image (slot : Bool)
  | snapshot (b : Bool)
  | ring (seg : Nat)
  deriving DecidableEq, Repr
/-- The part that holds a flash offset, with the offset in the part (R559). -/
def flashAt (mib o : Nat) : Option (FlashPart × Nat) :=
  let sz := jnlS mib
  let ring := 0x2800000 + 2 * sz
  if o < 0x100000 then some (.layout (decide (0x80000 ≤ o)), o % 0x80000)
  else if o < 0x800000 then some (.firmware (decide (0x480000 ≤ o)), (o - 0x100000) % 0x380000)
  else if o < 0x2800000 then some (.image (decide (0x1800000 ≤ o)), (o - 0x800000) % 0x1000000)
  else if o < ring then some (.snapshot (decide (0x2800000 + sz ≤ o)), (o - 0x2800000) % sz)
  else if o < ring + jnlJ mib then some (.ring ((o - ring) / 65536), (o - ring) % 65536)
  else none
/-- Bytes with their CRC-32C after them. -/
def withCrc (l : List Byte) : List Byte := l ++ leBytes 4 (crc32c l).toNat
/-- The page of the layout table in use (R560). -/
def State.layoutPage (s : State) : List Byte :=
  let j := s.jnl
  let bad := (j.bad.take 64).flatMap (leBytes 2)
  withCrc (leBytes 4 0x4C464853 ++ leBytes 4 j.layGen.toNat ++ leBytes 2 (s.obn oidJnlFlashMib) ++
    leBytes 1 ((if s.pwr.bootFw then 1 else 0) + (if s.img.bootSlot then 2 else 0)) ++ leBytes 1 (min 64 j.bad.length) ++
    bad ++ List.replicate (240 - bad.length) 0)
/-- The 32 bytes of a record (R563, R564). -/
def JRec.bytes (r : JRec) : List Byte :=
  let body := if r.kind = 4 then r.data.flatMap (fun w => leBytes 4 w.toNat) ++ List.replicate (20 - 4 * r.data.length) 0
    else leBytes 4 r.value.toNat ++ leBytes 4 r.instar.toNat ++ leBytes 1 r.session ++ leBytes 3 0 ++ leBytes 4 r.count.toNat ++ leBytes 4 0
  withCrc (leBytes 4 r.seq.toNat ++ leBytes 4 (r.oid + 2 ^ 24 * r.kind) ++ body)
/-- The body of a snapshot: the scalar entries and the set blocks (R568). -/
def Snap.body (x : Snap) : List Byte :=
  x.scalars.flatMap (fun e => leBytes 4 e.1 ++ leBytes 4 e.2.toNat) ++
  x.sets.flatMap (fun e => leBytes 4 ((setRange e.1).1 + 2 ^ 31) ++ leBytes 4 e.2.1 ++ e.2.2.flatMap (fun w => leBytes 4 w.toNat))
/-- The header of a snapshot, with the region's erase count (R568). The order of its items is DEDUCED (log 40). -/
def Snap.header (x : Snap) (erases : Nat) : List Byte :=
  withCrc (leBytes 4 0x50414E53 ++ leBytes 4 x.gen.toNat ++ leBytes 4 x.cut.toNat ++ leBytes 4 x.instar.toNat ++
    leBytes 4 x.bytes ++ leBytes 4 erases)
/-- The seal of a snapshot (R568). -/
def Snap.seal (x : Snap) : List Byte :=
  withCrc (leBytes 4 0x4C414553 ++ leBytes 4 x.gen.toNat ++ leBytes 4 x.close.toNat ++ leBytes 4 (crc32c x.body).toNat)

/-! ### Pages and erases (R565–R569) -/

/-- The key of a snapshot region among what is erased (false A). -/
def regionKey (b : Bool) : Nat := 2 ^ 20 + (if b then 1 else 0)
/-- The snapshot of a region. -/
def JnlSt.snap (j : JnlSt) (b : Bool) : Option Snap := if b then j.snapB else j.snapA
/-- The engine's next action: it may program and erase in RUN and FULL (R570). -/
def State.jnlLive (s : State) : Bool := decide (s.jst = jsRun ∨ s.jst = jsFull)
/-- A program or erase has failed (R569). -/
def State.flashError (s : State) (seg : Nat) : State := (s.jnlFlag 6).raise 15 4 [(2, seg)]
/-- A segment index enters BAD_MAP (R560, R569). -/
def JnlSt.badSeg (j : JnlSt) (i : Nat) : JnlSt := if j.bad.contains i then j else ({ j with bad := j.bad ++ [i] }).relayout

/-- The page in flight is programmed: its records are durable (R565, R566). -/
def State.pageDone (s : State) : State :=
  let j := s.jnl
  let live := match j.live.getLast? with
    | some g => if g.idx = j.pageSeg then j.live.dropLast ++ [{ g with recs := g.recs ++ j.page }]
        else j.live ++ [{ idx := j.pageSeg, recs := j.page }]
    | none => [{ idx := j.pageSeg, recs := j.page }]
  let sq := match j.page.getLast? with | some r => r.seq | none => s.ob oidJnlSeq
  (s.setJnl { j with live := live, shut := false, page := [], wr := j.wr + 256, wrCut := j.wrCut + 256 }).put oidJnlSeq sq
/-- The page in flight fails: its segment is never used again, its records wait for the next one (R569). -/
def State.pageFailed (s : State) : State :=
  let j := s.jnl
  let back := j.page.filter (fun r => r.kind ≠ 1 && r.kind ≠ 15)
  (s.setJnl ({ j with page := [], queue := back ++ j.queue }.badSeg j.pageSeg)).flashError j.pageSeg
/-- JNL_PAGE_PROGRAM_DONE (R565, R566, R569). -/
def execJnlPageProgramDone (ok : Bool) (s : State) : Out :=
  .next (if s.jnl.page = [] then s else (if ok then s.pageDone else s.pageFailed).jnlPump false)
/-- JNL_PAGE_FILL_TIMEOUT: records have waited 2 ms (R565). -/
def execJnlPageFillTimeout (s : State) : Out := .next (s.jnlPump true)

/-- JNL_ERASE_DONE: the erase at the head of those that wait ends. A segment whose erase fails is never used again; a region's
is begun again (R567, R569). No erase ends while the engine is stopped (R570). -/
def execJnlEraseDone (ok : Bool) (s : State) : Out :=
  let j := s.jnl
  .next (
    if s.jst = jsOff ∨ s.jst = jsStopped then s
    else match j.dirty with
      | [] => s
      | k :: r =>
        if ok then
          let j := { j with
            dirty := r, erases := mapMod (fun _ => 0) j.erases k (· + 1)
            snapA := if k = regionKey false then none else j.snapA, snapB := if k = regionKey true then none else j.snapB }
          (s.setJnl j).jnlPump false
        else if k < 2 ^ 20 then ((s.setJnl ({ j with dirty := r }.badSeg k)).flashError k).jnlPump false
        else (s.setJnl { j with dirty := r ++ [k] }).flashError 0xFFFF)

/-! ### JNL_CTRL (R574) -/

/-- CLEAR_STATE: the snapshots and the ring are erased, and journalling stops until the next Eclosion (R574). -/
def State.clearState (s : State) : State :=
  let j := s.jnl
  let segs := (List.range s.segCount).filter (fun i => !j.bad.contains i)
  let s := s.setJnl { erases := j.erases, bad := j.bad, layGen := j.layGen, layB := j.layB, next := j.next, dirty := [regionKey false, regionKey true] ++ segs }
  let s := (s.putn oidJnlState jsCleared).put oidJnlCompacting 0
  (s.put oidJnlSnapGen 0).put oidJnlSnapBytes 0
/-- A write of JNL_CTRL (R574). -/
def wrJnlCtrl (v : Word) (s : State) : Wr :=
  match fld v 1 0 with
  | 0 => .ok s
  | 1 => if s.jnl.comp.isSome then .error stBusy else .ok (s.setJnl { s.jnl with want := true })
  | 2 => if s.jnlLive then .ok s.clearState else .error stNotReady
  | _ => .error stRange
/-- COMPACT (R567, R574). -/
def execCompact (acc : Access) (s : State) : Out := .next (s.writeCmd acc oidJnlCtrl 1 (fun _ u => wrJnlCtrl 1 u))
/-- CLEAR_STATE (R574). -/
def execClearState (acc : Access) (s : State) : Out := .next (s.writeCmd acc oidJnlCtrl 2 (fun _ u => wrJnlCtrl 2 u))

/-! ### Compaction (R567, R568) -/

/-- The bytes of journal that bring about a compaction: 75 % of J or 48 MiB (R567). -/
def State.jnlTrigger (s : State) : Nat := min (jnlJ (s.obn oidJnlFlashMib) * 3 / 4) (48 * 2 ^ 20)
/-- COMPACTION_BEGIN: the grain boundary of the cut (R566, R567). The region that is not the base must have been erased. -/
def execCompactionBegin (s : State) : Out :=
  let j := s.jnl
  let region := match j.base with | none => false | some b => !b
  .next (
    if s.jnlLive && j.comp.isNone && (j.want || decide (j.wr ≥ s.jnlTrigger)) && !j.dirty.contains (regionKey region) then
      (s.setJnl { j with comp := some { region := region, cut := j.next, instar := s.ob oidInstar }, want := false, wrCut := 0 }).put oidJnlCompacting 1
    else s)

/-- The persistent scalars that differ from their defaults, in the order of their OIDs: TARGET of staged objects, the value of
the others (R567, R568). -/
def State.snapScalars (s : State) : SMap Word :=
  let m := s.obj.foldl (fun (m : SMap Word) e => if journalled e.1 then mapPut e.1 e.2 m else m) []
  s.ps.foldl (fun (m : SMap Word) e => if s.target e.1 ≠ (psDflt e.1).target then mapPut e.1 (s.target e.1) m else m) m
/-- The sets whose CURRENT words, or whose FIR_SET_LEN, differ from their defaults, with their lengths and words (R568). -/
def State.snapSets (s : State) : List (Nat × Nat × List Word) :=
  let keys := s.dmem.cur.foldl (fun (m : SMap Bool) e =>
    match setOf e.1 with | some k => mapPut k true m | none => m) []
  let keys := s.dmem.sets.foldl (fun (m : SMap Bool) e => if e.2.lenCur ≠ 0 then mapPut e.1 true m else m) keys
  keys.map (fun e =>
    let (lo, n) := setRange e.1
    let len := if (setKind e.1).1 = 1 then (s.bset e.1).lenCur else n
    (e.1, len, mapRead (fun _ => 0) s.dmem.cur lo len))
/-- The bytes of a body (R568). -/
def bodyBytes (scalars : SMap Word) (sets : List (Nat × Nat × List Word)) : Nat :=
  8 * scalars.length + (sets.map (fun e => 8 + 4 * e.2.1)).foldl (· + ·) 0

/-- A compaction ends without a new base: its region is erased again. -/
def State.compDropped (s : State) (region : Bool) : State :=
  (s.setJnl { s.jnl with comp := none, draft := none, dirty := s.jnl.dirty ++ [regionKey region] }).put oidJnlCompacting 0

/-- SNAPSHOT_BODY_DONE: the body is written, and CLOSE is the last SEQ queued; a body that exceeds JNL_SNAP_CAP is abandoned
(R567, R568). -/
def execSnapshotBodyDone (s : State) : Out :=
  let j := s.jnl
  .next (
    match j.comp with
    | none => s
    | some c =>
      if !s.jnlLive || c.body || j.dirty.contains (regionKey c.region) then s
      else
        let scalars := s.snapScalars
        let sets := s.snapSets
        let n := bodyBytes scalars sets
        if n > jnlS (s.obn oidJnlFlashMib) - 512 then s.compDropped c.region
        else s.setJnl { j with
          comp := some { c with body := true }
          draft := some { gen := j.gen + 1, cut := c.cut, instar := c.instar, close := j.next - 1, scalars := scalars, sets := sets, bytes := n } })

/-- A segment lies wholly before a cut. -/
def JSeg.before (g : JSeg) (cut : Word) : Bool := g.recs.all (fun r => decide ((r.seq - cut).toInt < 0))

/-- The new snapshot is the base: segments before its CUT and the old region are erased (R567, R569). -/
def State.sealed (s : State) (c : Comp) (d : Snap) : State :=
  let j := s.jnl
  let done := (j.live.dropLast).filter (fun g => g.before c.cut)
  let live := j.live.filter (fun g => !done.contains g)
  let old := match j.base with | some b => [regionKey b] | none => []
  let j := { j with
    snapA := if c.region then j.snapA else some d
    snapB := if c.region then some d else j.snapB
    base := some c.region, live := live, dirty := j.dirty ++ done.map (·.idx) ++ old
    wr := j.wrCut, wrCut := 0, comp := none, draft := none }
  let s := (((s.setJnl j).put oidJnlCompacting 0).put oidJnlSnapGen d.gen).putn oidJnlSnapBytes d.bytes
  let s := s.raise 15 1 [(4, d.gen.toNat), (4, d.bytes)]
  let s := if s.jst = jsFull ∧ done ≠ [] then s.putn oidJnlState jsRun else s
  s.jnlPump false

/-- SNAPSHOT_SEAL: CLOSE is durable and the seal is programmed. A snapshot that fails is begun again once (R567–R569). -/
def execSnapshotSeal (ok : Bool) (s : State) : Out :=
  let j := s.jnl
  .next (
    match j.comp, j.draft with
    | some c, some d =>
      if !s.jnlLive || decide ((s.ob oidJnlSeq - d.close).toInt < 0) then s
      else if ok then s.sealed c d
      else
        let s := s.flashError 0xFFFF
        if c.again then s.compDropped c.region
        else s.setJnl { s.jnl with comp := some { c with body := false, again := true }, draft := none, dirty := s.jnl.dirty ++ [regionKey c.region] }
    | _, _ => s)

/-! ### PFAIL_N (R570) -/

/-- PFAIL: the engine stops; the page in flight still completes (R471, R570). -/
def execPfail (bus : Option (Word × Bool)) (s : State) : Out :=
  .next (
    if s.jnlLive then (((s.putn oidJnlState jsStopped).jnlFlag 5).raise 15 3 []).masterAbort 7 bus
    else s)
/-- JNL_RESUME: PFAIL_N has stayed high for 100 ms with the rails in range (R570). -/
def execJnlResume (s : State) : Out :=
  .next (if s.jst = jsStopped then (s.putn oidJnlState jsRun).jnlPump false else s)

/-- The highest erase count held in a SEG record or a snapshot header (R573). -/
def State.readEraseMax (s : State) : Nat := (s.jnl.erases.map (·.2)).foldl max 0
/-- Per cent of J written since the base's CUT (R574). -/
def State.readJnlFill (s : State) : Nat :=
  let n := jnlJ (s.obn oidJnlFlashMib)
  min 255 (100 * s.jnl.wr / n)

end Sys2Proof.Machine
end

