-- ==== Sys2Proof/Machine/Power.lean ====
section
/-!
DEFINITION. Power: the device states (R541), Chrysalis (R542, R543), the rail groups (R544, R545), STANDBY (R547), the resets
(R553, R554), the domains that the firmware switches (R537), the die temperature (R595).
-/

namespace Sys2Proof.Machine

/-- PWR_STATE codes (R541, R555). -/
def pwStandby : Nat := 0
def pwWaking : Nat := 1
def pwEclosion : Nat := 2
def pwRun : Nat := 3
def pwRecovery : Nat := 4
/-- PWR_STATE. -/
def State.pw (s : State) : Nat := s.obn oidPwrState
/-- Replace the power sequencer's record. -/
def State.setPwr (s : State) (p : PowerSt) : State := { s with pwr := p }
/-- A PWR_STICKY flag with its counter (R556). -/
def State.pwrFlag (s : State) (b : Nat) : State := s.sticky oidPwrSticky b (oidPwrCnt b)
/-- A field of PWR_BOOT_INFO. -/
def State.bootInfo (s : State) (hi lo v : Nat) : State := s.putFld oidPwrBootInfo hi lo v

/-! ### What a power loss leaves (R553) -/

/-- An object of the OTP: a fuse entry that is burned (R513). -/
def State.otpOid (s : State) (oid : Nat) : Bool :=
  decide (0xF0820 ≤ oid ∧ oid < 0xF0840) && bit (s.ob (oidGuardFuseRange (oid % 16))) 31
/-- An object of PD0 (R542). -/
def pd0Oid (oid : Nat) : Bool := decide (oid = oidPwrBootInfo) || decide (0xFF020 ≤ oid ∧ oid ≤ 0xFF02F)
/-- Every domain of `PD1`–`PD11` has lost its contents. What stays: PD0, the flash, the OTP; a page or an erase in progress is
not completed, and the region of a compaction in progress is erased again. -/
def State.clearDomains (s : State) : State :=
  let j := s.jnl
  let open' := match j.comp with | some c => if j.dirty.contains (regionKey c.region) then [] else [regionKey c.region] | none => []
  let kept : JnlSt := { live := j.live, snapA := j.snapA, snapB := j.snapB, base := j.base, erases := j.erases, bad := j.bad }
  let kept := { kept with dirty := j.dirty ++ open', layGen := j.layGen, layB := j.layB }
  { obj := s.obj.filter (fun e => pd0Oid e.1 || s.otpOid e.1)
    img := { nor0 := s.img.nor0, nor1 := s.img.nor1, bootSlot := s.img.bootSlot }
    jnl := kept
    pwr := { rate := s.pwr.rate, bootFw := s.pwr.bootFw, rtc := s.pwr.rtc, otpKey := s.pwr.otpKey, otpMin := s.pwr.otpMin }
    freeCtr := s.freeCtr
    answer := s.answer
    pending := s.pending }
/-- Eclosion begins at step 1: PD2 powers (R541, R548). -/
def State.eclosion (s : State) : State := s.clearDomains.put oidPwrDomains 5
/-- RESET_N or the RESET action: PD1–PD11 are cleared (R553). -/
def State.resetAll (s : State) (cause : Nat) : State := (s.bootInfo 3 0 cause).eclosion
/-- Only VAON remains (R541). -/
def State.standby (s : State) : State := (s.clearDomains.put oidPwrDomains 1).putn oidPwrState pwStandby
/-- A wake source (R541, R543). -/
def State.wake (s : State) (cause : Nat) : State :=
  ((s.bootInfo 3 0 cause).putn oidPwrState pwWaking).setPwr { s.pwr with groups := 0 }

/-- VAON_ON: VAON has held within range for 10 ms after it was out of range (R541, R553). -/
def execVaonOn (s : State) : Out :=
  .next (
    if !s.pwr.off then s
    else
      let s := s.standby
      let s := { s with obj := s.obj.filter (fun e => !pd0Oid e.1) }
      (s.setPwr { bootFw := s.pwr.bootFw, otpKey := s.pwr.otpKey, otpMin := s.pwr.otpMin }).wake 0)
/-- VAON_LOSS: everything is lost (R541). -/
def execVaonLoss (s : State) : Out :=
  let s := s.standby
  let s := { s with obj := s.obj.filter (fun e => !pd0Oid e.1) }
  .next ((s.put oidPwrDomains 0).setPwr { off := true, bootFw := s.pwr.bootFw, otpKey := s.pwr.otpKey, otpMin := s.pwr.otpMin })
/-- WAKE_PIN (R543). -/
def execWakePin (s : State) : Out :=
  .next (if !s.pwr.off ∧ s.pw = pwStandby ∧ bit (s.ob oidChrWakeCfg) 0 then s.wake 1 else s)
/-- RTC_ALARM: the counter equals CHR_ALARM (R542, R543). -/
def execRtcAlarm (s : State) : Out :=
  .next (
    if s.pwr.off ∨ !bit (s.ob oidChrWakeCfg) 1 then s
    else if s.pw = pwStandby then s.wake 2
    else if s.pw = pwRun then s.raise 14 4 []
    else s)
/-- RESET_PIN (R541, R543, R553). -/
def execResetPin (s : State) : Out :=
  .next (
    if s.pwr.off ∨ s.pw = pwWaking then s
    else if s.pw = pwStandby then s.wake 3
    else s.resetAll 3)
/-- RAIL_GOOD: with the fourth group Eclosion begins (R541, R544). -/
def execRailGood (s : State) : Out :=
  .next (
    if s.pw ≠ pwWaking then s
    else if s.pwr.groups = 3 then s.eclosion
    else s.setPwr { s.pwr with groups := s.pwr.groups + 1 })
/-- The level of PWR_ENn: in WAKING one group after the other, on in every state but OFF and STANDBY (R544, R546). -/
def State.pwrEn (s : State) (n : Nat) : Bool :=
  !s.pwr.off && decide (s.pw ≠ pwStandby) && (decide (s.pw ≠ pwWaking) || decide (n ≤ s.pwr.groups))
/-- The level of OSPI_RESET_N: low until step 2 of Eclosion (R593). -/
def State.ospiResetN (s : State) : Bool :=
  !s.pwr.off && (decide (s.pw = pwRun) || decide (s.pw = pwRecovery) || (decide (s.pw = pwEclosion) && decide (s.pwr.stage ≥ 2)))
/-- RAIL_TIMEOUT: the group is recorded, and the device returns to STANDBY (R545). -/
def execRailTimeout (s : State) : Out :=
  .next (if s.pw ≠ pwWaking then s else ((s.bootInfo 5 5 1).bootInfo 7 6 s.pwr.groups).standby)

/-! ### PWR_CTRL (R547, R553, R556) -/

/-- The STANDBY action: the journal completes its page, the boot record keeps DOM_RATE_A, and the domains go off (R547, R548).
Everything that the steps before it change lies in those domains. -/
def State.toStandby (s : State) : State :=
  let s := if s.jnl.page ≠ [] then s.pageDone else s
  (((s.setPwr { s.pwr with rate := some (s.obn oidDomRateA) }).bootInfo 5 5 0).bootInfo 7 6 0).standby

/-- QRESET of a quadrant: its contents, the RETIRED records and the fault counts of its tiles (R75, R525, R553). The sticky
flags, counters and OVF objects of its tiles stay (DESIGN CHOICE, log 9). -/
def State.qreset (s : State) (q : Nat) : State :=
  let mine (p : Nat) : Bool := decide (quadOf p = q)
  let s := forUpTo 9 (fun i (t : State) => (t.setTile (9 * q + i) {}).setTileState (9 * q + i) tsOff) s
  let s := { s with img := { s.img with
    retired := s.img.retired.filter (fun p => !mine p)
    failGns := s.img.failGns.filter (fun e => !mine e.1) } }
  s.quadOff q

/-- A write of PWR_CTRL (R541, R553, R556). -/
def wrPwrCtrl (v : Word) (s : State) : Wr :=
  let q := fld v 3 2
  match fld v 1 0 with
  | 1 => if s.pw = pwRun then .ok s.toStandby else .error stNotReady
  | 2 => if s.pw = pwEclosion ∨ s.pw = pwRun then .ok (s.resetAll 4) else .error stNotReady
  | 3 =>
    if (List.range 9).any (fun i => let t := s.tileState (9 * q + i); decide (t = tsRunning ∨ t = tsGated)) then .error stNotReady
    else .ok (s.qreset q)
  | _ => .ok s
/-- STANDBY (R547). -/
def execStandby (acc : Access) (s : State) : Out := .next (s.writeCmd acc oidPwrCtrl 1 (fun _ u => wrPwrCtrl 1 u))
/-- RESET (R553). -/
def execReset (acc : Access) (s : State) : Out := .next (s.writeCmd acc oidPwrCtrl 2 (fun _ u => wrPwrCtrl 2 u))
/-- QRESET (R553). -/
def execQreset (acc : Access) (q : Fin 4) (s : State) : Out :=
  .next (s.writeCmd acc oidPwrCtrl (wd (3 + 4 * q.val)) (fun _ u => wrPwrCtrl (wd (3 + 4 * q.val)) u))

/-! ### The management processor (R553, R554) -/

/-- MGMT_WATCHDOG: 100 ms without service. The bursts of M0 and M1 are aborted (R471, R497, R554). -/
def execMgmtWatchdog (m0 m1 : Option (Word × Bool)) (s : State) : Out :=
  let s := (s.masterAbort 0 m0).masterAbort 1 m1
  let s := ((s.logFault 16 0).pwrFlag 5).raise 14 3 []
  .next ((s.twinFail 2 true).setPwr { s.pwr with down := true })
/-- The commands that executed when the watchdog expired are completed: OK where their effects were applied, as a publication's
were, and BUSY where none were (R554). -/
def State.completeAll (s : State) : State :=
  forUpTo 64 (fun n (t : State) =>
    (t.ses n).waiting.foldl (fun u w =>
      if w.sets ≠ [] then u.finish n w stOk [] else u.finish n w stBusy (refusalBody 0xFFFFFFFF 0)) t) s
/-- MGMT_RESTART_DONE: the SHA-256 of the firmware in MGMT SRAM is that taken in step 2, or the event becomes a RESET (R554). -/
def execMgmtRestartDone (sha : List Byte) (s : State) : Out :=
  .next (
    if !s.pwr.down then s
    else if sha = s.pwr.fwSha then (s.completeAll.twinFail 2 false).setPwr { s.pwr with down := false }
    else s.resetAll 4)

/-! ### Domains that the firmware switches (R34, R281, R346, R537) -/

/-- A lane is enabled: PD3 is on (R34). -/
def State.wantsPd3 (s : State) : Bool := (List.range 4).any (fun l => bit (s.ob (oidLaneCfg l)) 0)
/-- The image or a bulk object uses DMEM (R34). -/
def State.wantsPd7 (s : State) : Bool := s.imgActive || decide (s.pend ≠ peEmpty) || decide (s.dmem.sets ≠ []) || decide (s.dmem.cur ≠ [])

/-- PD3 powers up: DT starts at 0, the servo leaves FREE for the source selected, the enabled lanes look for a link (R346, R350,
R371). -/
def State.pd3On (s : State) : State :=
  let s := (s.putFld oidPwrDomains 3 3 1).timePower
  let s := if s.servoSrc = 0 then s else s.servoTo svAcquire
  forUpTo 4 (fun l (t : State) => if bit (t.ob (oidLaneCfg l)) 0 ∧ t.lane l = lnOff then t.putn (oidLaneState l) lnDown else t) s
/-- PD3 goes off: lanes, streams, bridge, time unit and twin engine lose their state (R346, R471, R553). -/
def State.pd3Off (s : State) (m5 m8 : Option (Word × Bool)) : State :=
  let s := (s.masterAbort 5 m5).masterAbort 8 m8
  let s := forUpTo 4 (fun l (t : State) => t.linkLost l lnOff) s
  let s := forUpTo 128 (fun n (t : State) => if t.rxState n ≥ 2 then t.rxLeave n 1 else t) s
  let s := forUpTo 128 (fun e (t : State) => if t.taOn e then t.taClear e else t) s
  let s := forUpTo 16 (fun c (t : State) => t.put (oidCapCfg c) (setBit (t.ob (oidCapCfg c)) 0 false)) s
  let s := ((s.twinOff).setNet {}).timePower
  (s.putFld oidPwrDomains 3 3 0).txCheckAll
/-- PD7 goes off: DMEM loses its contents. -/
def State.pd7Off (s : State) : State := { s.putFld oidPwrDomains 7 7 0 with dmem := {} }

/-- PD_SWITCH: the firmware switches PD3, PD4, PD5 or PD7 as its condition asks (R34, R281, R537, R557). -/
def execPdSwitch (pd : Fin 12) (on : Bool) (m5 m8 : Option (Word × Bool)) (s : State) : Out :=
  let now := bit (s.ob oidPwrDomains) pd
  let ev (t : State) : State := t.raise 14 5 [(4, t.obn oidPwrDomains)]
  .next (
    if !s.switches ∨ now = on then s
    else if pd.val = 3 ∧ on = s.wantsPd3 then ev (if on then s.pd3On else s.pd3Off m5 m8)
    else if pd.val = 4 ∧ on then s.putFld oidPwrDomains 4 4 1
    else if pd.val = 5 ∧ on = s.wantsPd5 then (if on then s.pd5On else ev (s.putFld oidPwrDomains 5 5 0))
    else if pd.val = 7 ∧ on = s.wantsPd7 then ev (if on then s.putFld oidPwrDomains 7 7 1 else s.pd7Off)
    else s)
/-- QUAD_WAKE_READY: the next grain boundary finds the quadrant ready (R539, R540). -/
def execQuadWakeReady (q : Fin 4) (s : State) : Out :=
  .next (if s.quad q = 3 then s.setPwr { s.pwr with qready := setBitN s.pwr.qready q true } else s)

/-! ### The counter and the alarm (R542) -/

/-- The real-time counter: the value last loaded and the ticks since, which no command counts. -/
def State.rtcNow (s : State) : Nat := (s.pwr.rtc + (Config.rtcTicks s.freeCtr).toNat) % 2 ^ 48
/-- The counter has been read: its next reading is another free value. -/
def State.rtcRead (s : State) : State := { s with freeCtr := s.freeCtr + 1 }
/-- A write of CHR_RTC_LO loads the counter with the CHR_RTC_HI last written (R542). -/
def wrChrRtcLo (v : Word) (s : State) : Wr :=
  let s := s.put oidChrRtcLo v
  .ok (s.setPwr { s.pwr with rtc := s.obn oidChrRtcHi * 2 ^ 32 + v.toNat }).rtcRead
/-- CHR_RTC_LO_WRITE (R542). -/
def execChrRtcLoWrite (acc : Access) (v : Word) (s : State) : Out :=
  .next (s.writeCmd acc oidChrRtcLo v (fun _ u => wrChrRtcLo v u))
/-- A write of CHR_WAKE_CFG: an alarm armed with CHR_ALARM not ahead of the counter fires at once (R542). -/
def wrChrWakeCfg (v : Word) (s : State) : Wr :=
  let armed := bit v 1 && !bit (s.ob oidChrWakeCfg) 1
  let s := s.put oidChrWakeCfg v
  .ok (
    if !armed then s
    else
      let late := decide (s.obn oidChrAlarmHi * 2 ^ 32 + s.obn oidChrAlarmLo ≤ s.rtcNow)
      let s := s.rtcRead
      if !late then s
      else
        let s := s.pwrFlag 6
        if s.pw = pwRun then s.raise 14 4 [] else s)
/-- CHR_WAKE_CFG_WRITE (R542). -/
def execChrWakeCfgWrite (acc : Access) (v : Word) (s : State) : Out :=
  .next (s.writeCmd acc oidChrWakeCfg v (fun _ u => wrChrWakeCfg v u))

/-! ### The die temperature (R595) -/

/-- DIE_TEMP_UPDATE: the sensor's reading in 1/16 °C. -/
def execDieTempUpdate (v : Half) (s : State) : Out :=
  let t := wdI v.toInt
  let s := s.put oidDieTemp t
  .next (if (s.ob oidDieTempMax).toInt < t.toInt then s.put oidDieTempMax t else s)
/-- A write of DIE_TEMP_MAX. -/
def wrDieTempMax (v : Word) (s : State) : Wr := if v = 0 then .ok (s.put oidDieTempMax (s.ob oidDieTemp)) else .error stRange
/-- DIE_TEMP_MAX_WRITE. -/
def execDieTempMaxWrite (acc : Access) (v : Word) (s : State) : Out :=
  .next (s.writeCmd acc oidDieTempMax v (fun _ u => wrDieTempMax v u))

end Sys2Proof.Machine
end

