-- ==== Sys2Proof/Machine/Boot.lean ====
section
/-!
DEFINITION. Eclosion (R548–R552): the firmware slots (R561), the clock step, the restored state (R571, R572), the boot image, RUN.

A step of Eclosion that no event ends is entered and left in the command that begins it: step 1 ends with the ROM, step 3 is
part of FW_VERIFY_DONE, step 5 of STATE_RESTORE_DONE.
-/

namespace Sys2Proof.Machine

/-- The running step of Eclosion. -/
def State.setStage (s : State) (n : Nat) : State := s.setPwr { s.pwr with stage := n }
/-- Eclosion runs step `n`. -/
def State.atStage (s : State) (n : Nat) : Bool := decide (s.pw = pwEclosion) && decide (s.pwr.stage = n)
/-- The ROM alone runs (R541, R552). -/
def State.recovery (s : State) : State := (s.putn oidPwrState pwRecovery).setStage 15

/-! ### The firmware slots (R549, R561) -/

/-- A field of a firmware header. -/
def fwField (h : List Byte) (o : Nat) : Nat := ofLe (slice h o 4)
/-- The digest of a firmware: the header's bytes 0–79 and the code (R561). -/
def fwDigest (h code : List Byte) : List Byte := sha256 (h.take 80 ++ code)
/-- What R549 finds in a slot, by the code of R552: 0 accepted, 1 READ, 2 HEADER, 3 KEY, 4 SIGNATURE, 5 ROLLBACK. The words of the key
and of the signature are big-endian (PRESUMED, log 39). -/
def State.fwVerdict (s : State) (slot : Option (List Byte × List Byte)) : Nat :=
  match slot with
  | none => 1
  | some (h, code) =>
    let word (o : Nat) : Nat := ofBe (slice h o 32)
    if h.length ≠ 256 ∨ fwField h 0 ≠ 0x57464853 ∨ fwField h 12 > 3407616 ∨ code.length ≠ fwField h 12 then 2
    else if ofBe (sha256 (slice h 16 64)) ≠ s.pwr.otpKey.toNat then 3
    else if !ecdsaOk (word 16) (word 48) (word 80) (word 112) (fwDigest h code) then 4
    else if fwField h 8 < s.pwr.otpMin.toNat then 5
    else 0

/-- FW_VERIFY_DONE: the ROM has read a firmware slot, its header and its code; none where it cannot be read. With an accepted slot
step 3 reads the boot record and step 4 begins; otherwise the other slot is tried (R548, R549, R552, R561). -/
def execFwVerifyDone (slot : Option (List Byte × List Byte)) (s : State) : Out :=
  let p := s.pwr
  let code := s.fwVerdict slot
  .next (
    if s.pw ≠ pwEclosion ∨ p.stage > 2 then s
    else match (if code = 0 then slot else none) with
    | some (h, c) =>
      let s := s.bootInfo 15 8 (min 255 (fld (s.ob oidPwrBootInfo) 15 8 + 1))
      let s := s.bootInfo 4 4 (if p.bootFw ≠ p.fwTried then 1 else 0)
      let s := if bit (s.ob oidPwrBootInfo) 5 then s.pwrFlag 2 else s
      let s := (s.putn oidFwVersion (fwField h 4)).setPwr { s.pwr with fw := h, fwSha := fwDigest h c }
      (s.putFld oidPwrDomains 1 1 1).setStage 4
    | none =>
      let s := s.bootInfo 19 16 code
      if p.fwTried then s.recovery
      else (s.pwrFlag 3).setPwr { s.pwr with fwTried := true, stage := 2 })

/-- BOOT_XO_TIMEOUT: XO does not run within 100 ms (R552). -/
def execBootXoTimeout (s : State) : Out := .next (if s.atStage 4 then (s.bootInfo 19 16 6).recovery else s)
/-- The DPLLs of the domains that have a rate start (R328). -/
def State.startDplls (s : State) : State := forUpTo 3 (fun d (t : State) => if t.domHz d = 0 then t else t.startDpll d) s
/-- BOOT_XO_RUNNING: DA takes DOM_RATE_A of the boot record, or 48 kHz, and the DPLLs enter FREERUN (R328, R548). -/
def execBootXoRunning (s : State) : Out :=
  .next (
    if !s.atStage 4 then s
    else
      let r := s.pwr.rate.getD 2
      let s := { s.putn oidDomRateA r with conv := { s.conv with rateA := r } }
      s.startDplls.setStage 5)

/-! ### The restored state (R571, R572) -/

/-- What a replay has found: the next SEQ, the records in effect, those of a commit that is not complete, the instar, whether
a COUNT disagreed, the records after the end. -/
structure Replay where
  seq : Word
  instar : Word
  done : List JRec := []
  wait : List JRec := []
  corrupt : Bool := false
  rest : List JRec := []
  deriving DecidableEq, Repr

/-- The loop of R571 over the records from the cut on; `bad` is the SEQ of a record whose CRC fails. SEG records have been
skipped. -/
def replayFrom (bad : Option Word) : List JRec → Replay → Replay
  | [], p => p
  | r :: l, p =>
    if r.kind = 15 then (if r.seq + 1 ≠ p.seq then { p with rest := l } else replayFrom bad l p)
    else if bad = some r.seq then { p with rest := l }
    else if r.seq ≠ p.seq then { p with rest := r :: l }
    else
      let p := { p with seq := p.seq + 1 }
      if r.kind = 2 then replayFrom bad l { p with done := p.done ++ [r] }
      else if r.kind = 6 then
        if r.count = 0xFFFFFFFF then { p with rest := l }
        else if (p.wait.filter (fun x => x.kind = 3 || x.kind = 5)).length = r.count.toNat then
          replayFrom bad l { p with done := p.done ++ p.wait, wait := [], instar := r.instar }
        else replayFrom bad l { p with wait := [], corrupt := true }
      else replayFrom bad l { p with wait := p.wait ++ [r] }

/-- A restored scalar: an object of the system area, or a staged one with START = TARGET (R571). -/
def State.restoreScalar (s : State) (oid : Nat) (v : Word) : State :=
  if s.otpOid oid then s
  else if lawOf oid = 0 then s.put oid v
  else
    let s := s.setPe oid { psDflt oid with start := if lawRamps (lawOf oid) then numF32 (typeOf oid) v else v, target := v, sval := v }
    if 0xE0000 ≤ oid ∧ oid < 0xE3000 then s.setSink (oid - 0xE0000) { s.sink (oid - 0xE0000) with src := v.toNat } else s
/-- A restored set: both buffers hold its words (R242, R571). -/
def State.restoreSet (s : State) (k len : Nat) (ws : List Word) : State :=
  let (lo, n) := setRange k
  let fill (m : SMap Word) : SMap Word := mapSetFrom (fun _ => 0) (mapCopyRange [] m lo n) lo ws
  let s := s.areaWritten 0x4000000 0xA000000
  let s := { s with dmem := { s.dmem with cur := fill s.dmem.cur, edit := fill s.dmem.edit } }
  let (kind, index) := setKind k
  if kind ≠ 1 then s
  else
    let taps := firTaps s.dmem.cur index len
    let sp (m : SMap Word) : SMap Word :=
      mapSetFrom (fun _ => 0) (mapCopyRange [] m (2 ^ 22 * index) (2 ^ 22)) (2 ^ 22 * index)
        (specForm taps)
    let s := { s with dmem := { s.dmem with specCur := sp s.dmem.specCur, specEdit := sp s.dmem.specEdit } }
    s.setBset k { s.bset k with lenCur := len, lenEdit := len }
/-- The records in effect, in their order; DATA records wait for the SET that names them. -/
def State.restoreRecs (s : State) : List JRec → List JRec → State
  | [], _ => s
  | r :: l, ds =>
    if r.kind = 4 then s.restoreRecs l (ds ++ [r])
    else if r.kind = 5 then
      match setOf r.oid with
      | none => s.restoreRecs l []
      | some k =>
        let (lo, n) := setRange k
        let m := ds.foldl (fun (m : SMap Word) d => mapSetFrom (fun _ => 0) m d.oid d.data) []
        (s.restoreSet k (if (setKind k).1 = 1 then r.value.toNat else n) (mapRead (fun _ => 0) m lo n)).restoreRecs l []
    else (s.restoreScalar r.oid r.value).restoreRecs l ds

/-- The ring after the replay: the records up to SEQ `last` stay, and writing resumes at the segment after them (R571). -/
def JnlSt.resume (j : JnlSt) (n : Nat) (next : Word) : JnlSt :=
  let live := (j.live.map (fun g => { g with recs := g.recs.filter (fun r => decide ((r.seq - next).toInt < 0)) })).filter
    (fun g => g.recs.any (fun r => r.kind ≠ 1))
  let gone := (j.live.filter (fun g => !live.any (fun x => x.idx = g.idx))).map (·.idx)
  let at' := match live.getLast? with | some g => nextSeg n j.bad n g.idx | none => nextSeg n j.bad n (n - 1)
  let full := live.any (fun g => g.idx = at')
  { j with live := live, shut := true, next := next
           dirty := (if full then [] else [at']) ++ (j.dirty ++ gone).filter (fun k => k ≠ at') }

/-- An accepted write, or nothing. -/
def Wr.or (w : Wr) (s : State) : State := match w with | .ok t => t | .error _ => s
/-- Restored system objects take effect: rates, domains of power, references, streams, servo, twin (R34, R281, R323, R481,
R548). Change actions of gate lists that waited are gone with PD3. -/
def State.objectsTakeEffect (s : State) : State :=
  let s := { s with conv := { s.conv with rateA := s.obn oidDomRateA } }
  let s := forUpTo 2 (fun p (t : State) => t.put (oidGclCtrl p) (setBit (t.ob (oidGclCtrl p)) 11 false)) s
  let s := if bit (s.ob oidTwinCfg) 0 then s.shareHold else s
  let s := s.putFld oidPwrDomains 4 4 1
  let s := s.putFld oidPwrDomains 6 6 1
  let s := s.putFld oidPwrDomains 7 7 1
  let s := s.raise 14 5 [(4, s.obn oidPwrDomains)]
  let s := if s.wantsPd3 then let t := s.pd3On; t.raise 14 5 [(4, t.obn oidPwrDomains)] else s
  let s := s.assignDomains
  let s := if s.wantsPd5 then s.pd5On else s
  let s := forUpTo 6 (fun r (t : State) =>
    if r = 1 ∨ r = 2 ∨ r = 4 ∨ r = 5 then t.put (oidRefRank r) (t.ob (oidRefQlSw r)) else t) s
  let s := s.startDplls
  let s := forUpTo 8 (fun r (t : State) =>
    if bit (t.ob (oidRefCfg r)) 0 then (wrRefCfg r (t.ob (oidRefCfg r)) t).or t else t) s
  let s := (wrServoCfg (s.ob oidServoCfg) s).or s
  forUpTo 128 (fun n (t : State) =>
    let c := t.ob (oidNetRxCfg n)
    let t := if bit c 0 then (wrNetRxCfg n c (t.put (oidNetRxCfg n) (setBit c 0 false))).or t else t
    let c := t.ob (oidNetTxCfg n)
    if bit c 0 then (wrNetTxCfg n c (t.put (oidNetTxCfg n) (setBit c 0 false))).or t else t) s

/-- The records of the ring, oldest first, without the SEG records. -/
def JnlSt.records (j : JnlSt) : List JRec := (j.live.flatMap (·.recs)).filter (fun r => r.kind ≠ 1)
/-- The replay from a cut (R571). -/
def JnlSt.replay (j : JnlSt) (badRec : Option Word) (cut inst : Word) : Replay :=
  replayFrom badRec (j.records.dropWhile (fun r => decide ((r.seq - cut).toInt < 0))) { seq := cut, instar := inst }
/-- A region holds a valid snapshot: it checks, and the replay from its CUT reaches its CLOSE (R568). -/
def JnlSt.snapValid (j : JnlSt) (bad : Bool) (badRec : Option Word) (r : Bool) : Bool :=
  match j.snap r with
  | none => false
  | some x => !bad && decide (((j.replay badRec x.cut x.instar).seq - 1 - x.close).toInt ≥ 0)
/-- The newest valid snapshot; SNAP_INVALID is set where the newest one is not valid (R571, R572). -/
def State.chooseBase (s : State) (badA badB : Bool) (badRec : Option Word) : State :=
  let j := s.jnl
  let newest := match j.snapA, j.snapB with
    | some a, some b => if (b.gen - a.gen).toInt > 0 then some true else some false
    | some _, none => some false
    | none, some _ => some true
    | none, none => none
  let good (r : Bool) : Bool := j.snapValid (if r then badB else badA) badRec r
  match newest with
  | none => s.setJnl { j with base := none }
  | some r =>
    if good r then s.setJnl { j with base := some r }
    else
      let s := s.jnlFlag 3
      let kept := if r then { s.jnl with snapB := none } else { s.jnl with snapA := none }
      let kept := if good (!r) then kept else if r then { kept with snapA := none } else { kept with snapB := none }
      s.setJnl { kept with
        base := if good (!r) then some (!r) else none
        dirty := kept.dirty ++ (if kept.dirty.contains (regionKey r) then [] else [regionKey r]) }

/-- The state that a snapshot and the journal hold (R571, R572). -/
def State.restoreState (s : State) (torn : Bool) (badRec : Option Word) : State :=
  let j := s.jnl
  let snap : Option Snap := match j.base with | some b => j.snap b | none => none
  let first : Option Word := match j.live.head? with | some g => g.recs.head?.map (fun r => r.seq) | none => none
  if snap.isNone ∧ first ≠ some 1 then
    let s := s.jnlFlag 7
    let old := { s.jnl with live := [], dirty := s.jnl.dirty ++ j.live.map (fun (g : JSeg) => g.idx) }
    s.setJnl (old.resume s.segCount 1)
  else
    let cut := match snap with | some x => x.cut | none => 1
    let inst := match snap with | some x => x.instar | none => 0
    let p := j.replay badRec cut inst
    let left := (p.rest.filter (fun r => r.kind ≠ 15)).length
    let s := if torn then s.jnlFlag 0 else s
    let s := if left ≠ 0 ∨ p.corrupt then s.jnlFlag 1 else s
    let s := if p.wait ≠ [] then s.jnlFlag 2 else s
    let s := match snap with
      | some x =>
        let s := x.scalars.foldl (fun (t : State) (e : Nat × Word) => t.restoreScalar e.1 e.2) s
        let s := x.sets.foldl (fun (t : State) (e : Nat × Nat × List Word) => t.restoreSet e.1 e.2.1 e.2.2) s
        (s.put oidJnlSnapGen x.gen).putn oidJnlSnapBytes x.bytes
      | none => s
    let s := s.restoreRecs p.done []
    let s := ((s.putn oidJnlReplayed p.done.length).putn oidJnlDiscarded left).put oidJnlSeq (p.seq - 1)
    let s := { s.put oidInstar p.instar with moult := { s.moult with assigned := p.instar }, grainInstar := p.instar }
    let used := (j.live.flatMap (·.recs)).filter (fun r => decide ((r.seq - cut).toInt ≥ 0 ∧ (r.seq - p.seq).toInt < 0))
    s.setJnl { s.jnl.resume s.segCount p.seq with wr := 32 * used.length }

/-- STATE_RESTORE_DONE: step 5 of Eclosion. `torn` says that the replay ends in the last written page, `badA` and `badB` that
a snapshot region does not check, `badRec` names a record whose CRC fails (R548, R571, R572). Step 6 begins: the boot slot is
loaded into PENDING. -/
def execStateRestoreDone (torn badA badB : Bool) (badRec : Option Word) (s : State) : Out :=
  .next (
    if !s.atStage 5 then s
    else
      let s := ((s.chooseBase badA badB badRec).restoreState torn badRec).objectsTakeEffect
      let s := s.putn oidJnlState jsRun
      let s := s.raise 15 0 [(4, s.obn oidJnlSnapGen), (4, s.obn oidJnlReplayed), (4, s.obn oidJnlDiscarded)]
      (s.loadNor s.img.bootSlot).setStage 6)

/-! ### The boot image and the start (R548, R551, R552) -/

/-- Step 7 begins. -/
def State.stage7 (s : State) (noImage : Bool) : State :=
  s.setPwr { s.pwr with stage := 7, noImage := noImage, lateLock := !noImage && decide (s.dst 0 = dsFreerun) }
/-- The image slots are both refused, or the image is for another rate (R552). -/
def State.noBootImage (s : State) : State :=
  let s := (s.bootInfo 19 16 8).stage7 true
  { s with img := { s.img with relockStop := true } }
/-- IMG_VERIFY_DONE: the end of a verification, and of step 6 of Eclosion (R130, R552). -/
def execImgVerifyDone (unread : Bool) (s : State) : Out :=
  let was := decide (s.pend = peVerifying)
  let s := s.verifyDone unread
  .next (
    if !(was && s.atStage 6) then s
    else if s.pend = peVerified then
      (if s.img.pend.cs = rateCs s.conv.rateA then s.stage7 false else s.noBootImage)
    else if s.pwr.imgTried then s.noBootImage
    else
      let s := (s.bootInfo 19 16 7).pwrFlag 4
      (s.setPwr { s.pwr with imgTried := true }).loadNor (!s.img.bootSlot))

/-- DA has left stage 1 of R330. -/
def State.pastStage1 (s : State) : Bool :=
  decide (s.dst 0 = dsLocked) || (decide (s.dst 0 = dsAcquire) && decide ((s.dpll 0).stage ≥ 2))
/-- BOOT_CLOCK_READY: DA has left stage 1, or the wait has passed. The image is loaded as at step 3 of R138 and its tiles start
at this grain boundary; the ports of PWR_AUTOSTART start; step 8 releases cause RESET (R355, R548, R551). -/
def execBootClockReady (expired : Bool) (s : State) : Out :=
  .next (
    if !s.atStage 7 ∨ !(expired || s.pastStage1) then s
    else
      let s := s.alignGrain
      let s :=
        if s.pwr.noImage ∨ s.pend ≠ peVerified then s
        else
          let ws := s.actChanged
          let a : Activation := { phase := 5, changed := ws, fadeSet := s.actFade ws }
          let s := { s.setPend peActivating with img := { s.img with act := a } }
          ((s.loadWorks s.img.pend ws (ws.filter s.img.pend.works)).imgTilesStart).meterRestart
      let s := forUpTo 24 (fun p (t : State) =>
        if bit (t.ob oidPwrAutostart) p ∧ t.pst p = pOff ∧ !(t.portShared p && offsetOf (t.readPortTiming p) = 0) then t.startPort p
        else t) s
      let s := s.setPwr { s.pwr with stage := 8, lateLock := s.pwr.lateLock && !s.pastStage1 }
      s.safeClear [0])

/-- ECLOSION_COMPLETE: the guard's fade-in ends `ms` after the wake or the reset, and RUN is entered (R541, R548, R557). -/
def execEclosionComplete (ms : Word) (s : State) : Out :=
  .next (
    if !s.atStage 8 then s
    else
      let s := (((s.putn oidPwrState pwRun).setStage 9).put oidPwrBootTime ms).bootInfo 15 8 0
      s.raise 14 1 [(4, s.obn oidPwrBootInfo), (4, ms.toNat)])

end Sys2Proof.Machine
end

