-- ==== Sys2Proof/Machine/Writes.lean ====
section
/-!
DEFINITION. What a write does to any DIRECT object: the effect that the object's chapter gives, else the plain write (R195).
-/

namespace Sys2Proof.Machine

/-- A write of SCENE_GO_CFG (R226). -/
def wrSceneGoCfg (v : Word) (s : State) : Wr :=
  if fld v 13 0 > 10000 ∨ fld v 15 14 = 3 then .error stRange else .ok (s.put oidSceneGoCfg v)
/-- A write of BUS_PRI of master `m`: only connected pairs have a priority (R474). -/
def wrBusPri (m : Nat) (v : Word) (s : State) : Wr :=
  if (List.range 8).any (fun t => fld v (4 * t + 3) (4 * t) ≠ 0 && !busPair m t) then .error stRange
  else .ok (s.put (oidBusPri m) v)
/-- A write of BUS_ERR_CTRL (R474). -/
def wrBusErrCtrl (v : Word) (s : State) : Wr :=
  if !bit v 0 then .ok s
  else
    let s := forUpTo 16 (fun e (t : State) =>
      (((t.put (oidBuserrAddr e) 0).put (oidBuserrInfo e) 0).put (oidBuserrDtSec e) 0).put (oidBuserrDtNs e) 0) s
    .ok (s.put oidBusErrNewest 0xFF)
/-- A write of NET_SHAPER: idleSlope is at most the lane's rate (R399). -/
def wrNetShaper (lane c : Nat) (v : Word) (s : State) : Wr :=
  if fld v 23 0 > s.laneMbps lane * 1000 then .error stRange
  else .ok ((s.credits lane).put (oidNetShaper lane c) v)
/-- The guard: each arm of these tables begins with the OID of a class (R512, R513, R533, R535). -/
def wrGuardObj (acc : Access) (c : ObjClass) (oid i : Nat) (v : Word) (s : State) : Wr :=
  match c.base with
  | 0xF0800 => wrGuardCtrl acc v s
  | 0xF0801 => wrGuardUnlock acc v s
  | 0xF0820 => wrFuse i oid true v s
  | 0xF0830 => wrFuse i oid false v s
  | 0xF0902 => wrFaultCtrl v s
  | 0xF1000 => wrGuardCfg i v s
  | 0xF1800 => wrGuardCeil acc i v s
  | _ => plainWrite c oid v s
/-- Images, the moult engine and DMEM (R81, R112, R148, R225, R226, R253, R254). -/
def wrImageObj (acc : Access) (c : ObjClass) (oid i j : Nat) (v : Word) (s : State) : Wr :=
  match c.base with
  | 0xEC000 => wrPatchStatus oid v s
  | 0xF4020 => wrAsGeom i j v s
  | 0xF4030 => wrAsStepmod i j v s
  | 0xF5000 => wrImgCtrl v s
  | 0xF5002 => wrImgOffset v s
  | 0xF5003 => wrImgData v s
  | 0xF6808 => wrMoultCtrl acc v s
  | 0xF6809 => wrSceneGoCfg v s
  | 0xF7004 => wrBulkCtrl acc.session v s
  | 0xF7100 => wrFirSetLen i v s
  | _ => plainWrite c oid v s
/-- Rate domains and conversion (R256–R287). -/
def wrConvObj (c : ObjClass) (oid i : Nat) (v : Word) (s : State) : Wr :=
  match c.base with
  | 0xF9000 => wrDomRateA v s
  | 0xF9001 => wrDomRateBc 1 v s
  | 0xF9002 => wrDomRateBc 2 v s
  | 0xF9010 => wrDomain oid v s
  | 0xF9040 => wrDomain oid v s
  | 0xF90C0 => wrDomain oid v s
  | 0xF9030 => wrModclkCfg i v s
  | 0xF9200 => wrBrgCfg i v s
  | 0xF9300 => wrBrgFar i v s
  | 0xF9400 => wrModCfg i v s
  | 0xF9500 => wrAcCfg i v s
  | 0xF9510 => wrAcSrc i v s
  | 0xF9600 => wrMeterProfile i v s
  | 0xF9700 => wrDecSyncCfg v s
  | 0xF9701 => wrDecSyncCmd v s
  | _ => plainWrite c oid v s
/-- TDM ports (R288–R315). -/
def wrPortObj (c : ObjClass) (oid i : Nat) (v : Word) (s : State) : Wr :=
  match c.base with
  | 0xFA000 => wrPortCtrl i v s
  | 0xFA002 => wrPortFrame i v s
  | 0xFA003 => wrPortTiming i v s
  | 0xFA009 => wrPortTxMask i v s
  | 0xFA00A => wrPortAlign i v s
  | 0xFA00B => wrPortTxShare i v s
  | _ => plainWrite c oid v s
/-- Reference clocking (R316–R343). -/
def wrClkObj (c : ObjClass) (oid i j : Nat) (v : Word) (s : State) : Wr :=
  match c.base with
  | 0xFB000 => wrRefCfg i v s
  | 0xFB001 => wrRefQlSw i v s
  | 0xFB006 => wrRefLimits i v s
  | 0xFB100 => wrDpllMode i v s
  | 0xFB101 => wrDpllManual i v s
  | 0xFB102 => wrDpllFallback i j v s
  | 0xFB109 => wrDpllMinRank i v s
  | 0xFB10A => wrDpllTrackBw i v s
  | 0xFB110 => wrDpllSlope i v s
  | 0xFB114 => wrDpllDco i v s
  | 0xFB210 => wrOgCfg i v s
  | 0xFB280 => wrMclkCfg i v s
  | _ => plainWrite c oid v s
/-- Device time (R344–R369). -/
def wrTimeObj (c : ObjClass) (oid i : Nat) (v : Word) (s : State) : Wr :=
  match c.base with
  | 0xFC004 => wrTimeCtrl v s
  | 0xFC009 => wrServoCfg v s
  | 0xFC00F => wrPpsQuality v s
  | 0xFC010 => wrPtpCfg v s
  | 0xFC025 => wrGpioTimeOut v s
  | 0xFC800 => wrTaField oid i v s
  | 0xFC801 => wrTaField oid i v s
  | 0xFC802 => wrTaField oid i v s
  | 0xFC804 => wrTaField oid i v s
  | 0xFC805 => wrTaField oid i v s
  | 0xFC806 => wrTaField oid i v s
  | 0xFC803 => wrTaCfg i v s
  | 0xFC807 => wrTaStatus i v s
  | 0xFC400 => wrCapCfg i v s
  | _ => plainWrite c oid v s
/-- The network (R370–R403). -/
def wrNetObj (c : ObjClass) (oid i j : Nat) (v : Word) (s : State) : Wr :=
  match c.base with
  | 0xFD000 => wrLaneCfg i v s
  | 0xFD100 => wrBridgeMode v s
  | 0xFD107 => wrFcpInband v s
  | 0xFD120 => wrGclCtrl i v s
  | 0xFD140 => wrNetShaper i j v s
  | 0xFD800 => wrNetRxCfg i v s
  | 0xFD802 => wrNetRxMatchHi i v s
  | 0xFE000 => wrNetTxCfg i v s
  | 0xFE005 => wrNetTxTsOffset i v s
  | _ =>
    if c.kind ≠ .rw then plainWrite c oid v s
    else if 0xFD800 ≤ oid ∧ oid < 0xFE000 then wrStreamField (oidNetRxCfg i) (plainWrite c oid v) s
    else if 0xFE000 ≤ oid ∧ oid < 0xFE400 then wrStreamField (oidNetTxCfg i) (plainWrite c oid v) s
    else plainWrite c oid v s
/-- A W1C write of INT_PENDING_k; its vector's message is sent again where a bit stays set (R439, R450, R456). -/
def State.intAck (s : State) (k : Nat) (v : Word) : State :=
  let p := s.ob (oidIntPending k) &&& ~~~v
  let s := s.put (oidIntPending k) p
  if p ≠ 0 then s.msiSend k else s
/-- Hosts, matrix, twin, power, journal, sessions (R411, R474, R503, R555, R574, R595). -/
def wrSysObj (c : ObjClass) (oid i : Nat) (v : Word) (s : State) : Wr :=
  match c.base with
  | 0xF0006 => wrFcpPcEnable v s
  | 0xF0024 => .ok (s.intAck i v)
  | 0xFE810 => wrBusPri i v s
  | 0xFE81D => wrBusErrCtrl v s
  | 0xFEC00 => wrTwinCfg v s
  | 0xFEC01 => wrTwinCtrl v s
  | 0xFF001 => wrPwrCtrl v s
  | 0xFF021 => wrChrRtcLo v s
  | 0xFF024 => wrChrWakeCfg v s
  | 0xFF401 => wrJnlCtrl v s
  | 0xFF801 => wrDieTempMax v s
  | _ => plainWrite c oid v s
/-- The effect of a write to an object of the system area, or to PATCH_STATUS (R195). -/
def wrObj (acc : Access) (oid : Nat) (v : Word) (c : ObjClass) (s : State) : Wr :=
  let (i, j) := (c.place oid).getD (0, 0)
  if oid < 0xF0000 then wrImageObj acc c oid i j v s
  else if oid < 0xF0800 then wrSysObj c oid i v s
  else if oid < 0xF4000 then wrGuardObj acc c oid i v s
  else if oid < 0xF9000 then wrImageObj acc c oid i j v s
  else if oid < 0xFA000 then wrConvObj c oid i v s
  else if oid < 0xFB000 then wrPortObj c oid i v s
  else if oid < 0xFC000 then wrClkObj c oid i j v s
  else if oid < 0xFD000 then wrTimeObj c oid i v s
  else if oid < 0xFE800 then wrNetObj c oid i j v s
  else wrSysObj c oid i v s

/-- REGISTER_WRITE: one object is written (R195, R422, R434). The answer to a PUBLISH comes once its set is prepared; a
refused one leaves OVER_RANGE (R242). -/
def execRegisterWrite (acc : Access) (oid : Nat) (v : Word) (s : State) : Out :=
  let t := s.writeCmd acc oid v (fun c u => wrObj acc oid v c u)
  .next (match (if oid = oidBulkCtrl then bulkPublish v else none) with
    | some (k, i) =>
      if t.answer.status = stOk then t.prepared k i
      else if t.answer.status = stRange then t.publishRefused k i else t
    | none => t)
/-- BUS_ERR_CLEAR (R474). -/
def execBusErrClear (acc : Access) (s : State) : Out :=
  .next (s.writeCmd acc oidBusErrCtrl 1 (fun _ u => wrBusErrCtrl 1 u))

end Sys2Proof.Machine
end

