-- ==== Sys2Proof/Machine/Views.lean ====
section
/-!
DEFINITION. What a read of any object returns: the values that the device derives, the views of R191, the meters (R280), the
bulk words (R240, R241).
-/

namespace Sys2Proof.Machine

/-- A truth value as a word. -/
def flag (b : Bool) : Word := if b then 1 else 0

/-- The mixing objects that the image and the CSU determine (R151, R215, R216, R597). -/
def State.readMix (s : State) (c : ObjClass) (oid i : Nat) : Word :=
  match c.base with
  | 0xC001D => flag (s.stripPresent i)
  | 0xC0025 => match sectionOf oid with | some n => wd (s.secStatus n s.gn) | none => 0
  | 0xC0026 => match sectionOf oid with | some n => s.secRadius n s.gn | none => 0
  | 0xD0011 => wd (s.readFeedDest i)
  | 0xD0017 => flag (s.busPresent i)
  | 0xD0045 => match sectionOf oid with | some n => wd (s.secStatus n s.gn) | none => 0
  | 0xD0046 => match sectionOf oid with | some n => s.secRadius n s.gn | none => 0
  | 0xD8007 => flag (s.outPresent i)
  | 0xEC000 => s.readPatchStatus i
  | _ => s.ob oid

/-- Bits of the tiles whose TILE_STICKY is not zero. -/
def State.stickyMap (s : State) (from' n : Nat) : Word :=
  wd ((List.range n).foldl (fun a i => if s.ob (oidTileSticky (from' + i)) = 0 then a else a + 2 ^ i) 0)

/-- Sessions, the guard, tiles, images, the moult engine, DMEM (R81, R136, R147, R224, R233, R245, R251, R253, R442, R443,
R532, R535). -/
def State.readDev (s : State) (c : ObjClass) (oid i j : Nat) : Word :=
  match c.base with
  | 0xF0004 => wd (s.sess.filter (fun e => e.2.st ≠ 0)).length
  | 0xF0005 => wd s.poolUsed
  | 0xF0008 => wd ((Config.liveRead oid s.freeCtr).toNat % 101)
  | 0xF0104 => s.readSessInfo (i + 1)
  | 0xF0105 => let q := s.ses (i + 1); if q.pc = 4 ∨ q.pc = 5 then q.ip else 0
  | 0xF0106 => let q := s.ses (i + 1); if q.pc = 4 ∨ q.pc = 5 then wd q.udp else 0
  | 0xF0107 => (s.ses (i + 1)).mask
  | 0xF0802 => s.readGuardState
  | 0xF0807 => wd s.readGuardMuted
  | 0xF2000 => s.readGuardStatus i
  | 0xF4020 => s.readAsGeom i j
  | 0xF4030 => s.readAsStepmod i j
  | 0xF4F00 => s.stickyMap 0 32
  | 0xF4F01 => s.stickyMap 32 4
  | 0xF500C => s.readSpareState
  | 0xF500E => wd s.readCkptAge
  | 0xF6803 => s.readArmed
  | 0xF6804 => match s.armed with | some d => d.instar | none => 0
  | 0xF6805 => wd (s.stagedCnt (fun _ => true))
  | 0xF6806 => wd s.rampingCnt
  | 0xF6807 => wd s.foldingCnt
  | 0xF6841 => wd (s.stagedCnt (fun o => o = i + 1))
  | 0xF7005 => wd s.dmemLoad
  | 0xF7200 => s.readSetState (8192 + i)
  | 0xF72C0 => s.readSetState (8384 + i)
  | 0xF8000 => s.readDlSamples i
  | 0xF8700 => wd (s.firCap i)
  | _ => s.ob oid

/-- Ports, clocks, time, the network, the twin, power and the journal (R302, R312, R329, R344, R355, R377, R482, R502, R542,
R574). -/
def State.readSys (s : State) (c : ObjClass) (oid i j : Nat) : Word :=
  match c.base with
  | 0xFA003 => s.readPortTiming i
  | 0xFA301 => wd s.readAlignMembers
  | 0xFB10D => wd (s.readDpllRank i)
  | 0xFB10E => if s.dst i = dsAcquire ∨ s.dst i = dsLocked then Config.liveRead oid s.freeCtr else 0
  | 0xFB112 => wd (s.readHoHist i)
  | 0xFB114 => s.readDco i
  | 0xFC000 => wd (s.dtSec / 2 ^ 32)
  | 0xFC001 => wd s.dtSec
  | 0xFC002 => wd s.dtNs
  | 0xFC003 => wd s.dtFrac
  | 0xFC024 => s.readAligned
  | 0xFD600 => s.readGclOper i j
  | 0xFEC04 => wd s.claim
  | 0xFEC07 => wd s.readWtrRem
  | 0xFF020 => wd (s.rtcNow / 2 ^ 32)
  | 0xFF021 => wd s.rtcNow
  | 0xFF403 => wd s.jnlQueued
  | 0xFF404 => wd s.readJnlFill
  | 0xFF408 => wd (jnlS (s.obn oidJnlFlashMib) - 512)
  | 0xFF40A => wd s.readEraseMax
  | _ => s.ob oid

/-- FIR_SET_LEN in a view: CURRENT, or EDIT in the STAGE view (R241). -/
def State.readSetLen (s : State) (i view : Nat) : Word :=
  let b := s.bset (8192 + i)
  wd (if view = 2 then b.lenEdit else b.lenCur)

/-- A staged scalar in a view (R5, R191): an expert object reads what the device derives while its CTRL_SOURCE is BASIC. -/
def State.readPs (s : State) (oid view : Nat) : Word :=
  if view = 0 then s.live oid s.gn
  else
    let basic := match ctrlOf oid with | some k => decide (s.target k = 0) | none => false
    if basic then s.derived oid s.gn
    else
      let e := s.pe oid
      if view = 2 ∧ e.staged then e.sval else e.target

/-- An implemented scalar in a view: 0 LIVE, 1 TARGET, 2 STAGE. A write-only object reads zero (R10, R191, R423). -/
def State.readObj (s : State) (oid view : Nat) : Word :=
  match findObj oid with
  | none => 0
  | some (c, i, j) =>
    if c.kind = .wo then 0
    else if c.law ≠ 0 ∧ c.kind ≠ .ro then s.readPs oid view
    else if c.base = oidFirSetLen 0 then s.readSetLen i view
    else if oid < 0xF0000 then s.readMix c oid i
    else if oid < 0xF9000 then s.readDev c oid i j
    else s.readSys c oid i j

/-- The meter point of an OID is present in the ACTIVE image (R280). -/
def State.meterPresent (s : State) (oid : Nat) : Bool :=
  if oid < 0x102000 then s.stripPresent ((oid - 0x100000) / 16)
  else if oid < 0x102800 then decide ((oid - 0x102000) % 8 < 5) && s.busPresent ((oid - 0x102000) / 8)
  else if oid < 0x102900 then s.outPresent ((oid - 0x102800) / 2)
  else if oid < 0x110000 then false
  else if oid < 0x116000 then
    let k := (oid - 0x110000) / 2
    sourceExists k && (k < 0x1000 || (s.imgActive && s.img.active.carriesToc (k - 0x1000)))
  else if oid < 0x13C000 then
    let k := (oid - 0x116000) / 2
    sinkExists k && (k < 0x2000 || (s.imgActive && s.img.active.carriesTic (k - 0x2000)))
  else true
/-- A meter object as it reads (R280). -/
def State.readMeter (s : State) (oid : Nat) : Word :=
  if s.meterPresent oid then mapGet (fun _ => meterNone) s.conv.meters oid else meterNone

/-- A bulk word in a view: CURRENT, or EDIT in the STAGE view; the raw words of a section whose source is BASIC read what the CSU
derives, and the reserved ones zero (R220, R240, R241). -/
def State.readBulk (s : State) (oid view : Nat) : Word :=
  if oid < 0x150000 then
    let n := (oid - 0x140000) / 8
    let k := oid % 8
    if k ≥ 5 then 0
    else if !s.secExpert n s.gn then nth 0 (s.secDerived n s.gn).words k
    else mapGet (fun _ => 0) (if view = 2 then s.dmem.edit else s.dmem.cur) oid
  else mapGet (fun _ => 0) (if view = 2 then s.dmem.edit else s.dmem.cur) oid

/-- The refusal of a read of one object (R405, R406, R412, R422). The flag marks class or level ground. -/
def readRefused (acc : Access) (oid : Nat) : Option (Nat × Bool) :=
  if 0x100000 ≤ oid ∧ oid < 0x140000 then none
  else if 0x140000 ≤ oid ∧ oid < 0x500000 then some (stDenied, false)
  else match findObj oid with
    | none => some (stUnimpl, false)
    | some (c, _, _) =>
      if !pcIn (if c.rd = 0 then c.wr else c.rd) acc.pc || (c.expert && !acc.expert) then some (stDenied, true) else none
/-- One word of a READ (R423). -/
def State.readWord (s : State) (view oid : Nat) : Word :=
  if 0x100000 ≤ oid then s.readMeter oid else s.readObj oid view

end Sys2Proof.Machine
end

