-- ==== Sys2Proof/Machine/Fcp.lean ====
section
/-!
DEFINITION. The commands of FCP (R413, R421–R429, R437, R440) on structured operands: what each body asks for, its refusals in
their order, its completion. `bad` is the status of a body that R420 refuses before the command executes.
-/

namespace Sys2Proof.Machine

/-- A refusal that concerns no object. -/
def plainRefusal (s : State) (acc : Access) (st : Nat) : FcpRes := .refused s { status := st } acc false

/-! ### Reads (R423, R427, R428) -/

/-- A reading of the object is a free value, so that the next one differs. -/
def liveOid (oid : Nat) : Bool :=
  decide (oid = 0xF0008 ∨ oid = oidChrRtcHi ∨ oid = oidChrRtcLo) || decide (oid = 0xFB10E ∨ oid = 0xFB14E ∨ oid = 0xFB18E)
/-- The objects of a read have been read. -/
def State.readDone (s : State) (oids : List Nat) : State := if oids.any liveOid then s.rtcRead else s

/-- READ (R423). -/
def State.fcpRead (s : State) (h : Hdr) (bad : Option Nat) (view : Nat) (oids : List Nat) : State :=
  s.fcpRun h 0x10 bad (fun s acc =>
    if view > 2 ∨ oids = [] ∨ oids.length > 128 then plainRefusal s acc stRange
    else match firstBad (fun o => readRefused acc o) oids 0 with
      | some (i, o, st, cls) => .refused s { status := st, oid := o, index := i, cls := cls } acc false
      | none =>
        let t := s.readDone oids
        let n := acc.session.val
        -- a session that reads a meter holds meter reads enabled until it closes (DESIGN CHOICE, log 20; R281)
        let t := if oids.any (fun o => decide (0x100000 ≤ o ∧ o < 0x140000)) then t.setSes n { t.ses n with meters := true } else t
        .done t (oids.flatMap (fun o => leBytes 4 (s.readWord view o).toNat)) none)

/-- The refusal of a block command on its first OID and count (R422, R427, R220, R240). -/
def State.blockRefused (s : State) (acc : Access) (oid n : Nat) (write : Bool) : Option (Nat × Bool) :=
  match setOf oid with
  | none =>
    if oid < 0x140000 ∧ ((0x100000 ≤ oid) ∨ (findObj oid).isSome) then some (stRange, false) else some (stUnimpl, false)
  | some k =>
    if !acc.expert || (write && !pcIn 0x57 acc.pc) then some (stDenied, true)
    else if write && decide (k < 8192) && decide (s.target (secBase k + 4) = 0) then some (stDenied, false)
    else if n = 0 ∨ n > 352 ∨ setOf (oid + n - 1) ≠ some k then some (stRange, false)
    else none
/-- READ_BLOCK (R427). -/
def State.fcpReadBlock (s : State) (h : Hdr) (bad : Option Nat) (oid n view : Nat) : State :=
  s.fcpRun h 0x14 bad (fun s acc =>
    match s.blockRefused acc oid n false with
    | some (st, cls) => .refused s { status := st, oid := oid, cls := cls } acc false
    | none =>
      if view > 2 then .refused s { status := stRange, oid := oid } acc false
      else .done s ((List.range n).flatMap (fun i => leBytes 4 (s.readBulk (oid + i) view).toNat)) none)

/-- The class of any implemented OID: the bulk words and the meters have one each (R240, R280, R409). -/
def anyClass (oid : Nat) : Option ObjClass :=
  let mk (name : String) (base ty : Nat) (expert : Bool) (wr unit : Nat) (dflt : Word) (kind : ObjKind) : ObjClass :=
    ⟨name, base, 1, 1, 0, 1, ty, expert, 0x7F, wr, 0, unit, dflt, 0, 0, false, 0, 0, [], kind⟩
  if 0x100000 ≤ oid ∧ oid < 0x140000 then some (mk "METER" 0x100000 6 false 0 0 meterNone .ro)
  else if 0x140000 ≤ oid ∧ oid < 0x150000 then some (mk "SEC_RAW" 0x140000 6 true 0x57 0 0 .rw)
  else if 0x150000 ≤ oid ∧ oid < 0x450000 then some (mk "FIR_TAP" 0x150000 9 true 0x57 0 0 .rw)
  else if 0x450000 ≤ oid ∧ oid < 0x500000 then some (mk "TABLE_WORD" 0x450000 9 true 0x57 0 0 .rw)
  else (findObj oid).map (·.1)
/-- The device changes the value by itself (R409): every object that no host writes but the constants, the flags and counters,
and the configuration that the device updates. -/
def classLive (c : ObjClass) : Bool :=
  match c.kind with
  | .wo => false
  | .w1c => true
  | .cnt0 => true
  | .ro => !([0xF0000, 0xF0001, 0xF0002, 0xF0003, 0xC0027, 0xD0047, oidJnlFlashMib, 0xFF408].contains c.base)
  | .rw => [0xEC000, 0xF1800, 0xF5002, 0xF7100, 0xFB114, 0xFC800, 0xFC801, 0xFC802, 0xFC803, 0xFC807, 0xFD000, 0xFD120, 0xFF020,
      0xFF021, 0xFF801].contains c.base
/-- A class descriptor (R409). -/
def descriptor (oid : Nat) (c : ObjClass) : List Byte :=
  let ordered := decide (c.ty ≠ 0 ∧ c.ty ≠ 8 ∧ c.ty ≠ 9)
  leBytes 2 (Config.classNo c.base).toNat ++ leBytes 1 c.ty ++
  leBytes 1 ((if c.expert then 1 else 0) + (if persists oid then 2 else 0) + (if classLive c then 4 else 0)) ++
  leBytes 1 c.rd ++ leBytes 1 c.wr ++ leBytes 1 c.law ++ leBytes 1 c.unit ++ leBytes 4 c.dflt.toNat ++
  leBytes 4 (if ordered then c.lo.toNat else 0) ++ leBytes 4 (if ordered then c.hi.toNat else 0) ++
  leBytes 2 c.ramp ++ leBytes 2 c.enums.length ++ leBytes 8 0
/-- A name in ASCII, padded to 32 bytes. -/
def nameBytes (n : String) : List Byte :=
  let l := (n.toList.map (fun ch => BitVec.ofNat 8 ch.toNat)).take 32
  l ++ List.replicate (32 - l.length) 0
/-- DESCRIBE (R409, R428). -/
def State.fcpDescribe (s : State) (h : Hdr) (bad : Option Nat) (oid idx : Nat) : State :=
  s.fcpRun h 0x16 bad (fun s acc =>
    match anyClass oid with
    | none => .refused s { status := stUnimpl, oid := oid } acc false
    | some c =>
      if idx = 0xFFFF then .done s (descriptor oid c) none
      else match c.enums[idx]? with
        | some n => .done s (nameBytes n) none
        | none => .refused s { status := stRange, oid := oid } acc false)

/-! ### Writes (R424–R427) -/

/-- The set that a BULK_CTRL word publishes with a preparation to wait for (R242). -/
def publishKey (oid : Nat) (v : Word) : Option Nat :=
  if oid = oidBulkCtrl ∧ fld v 16 15 = 1 ∧ fld v 1 0 ≠ 0 then some (setKey (fld v 1 0) (fld v 14 2)) else none

/-- The entries of a WRITE in order, each against the state that those before it leave: the state and the sets published, or
the first refusal (R424). -/
def State.writeAll (s : State) (acc : Access) : List (Nat × Word) → Nat → List Nat → Except Refused (State × List Nat)
  | [], _, ks => .ok (s, ks)
  | (oid, v) :: r, i, ks =>
    match s.writeWith acc oid v (fun c u => wrObj acc oid v c u) with
    | .error (st, cls) => .error { status := st, oid := oid, index := i, cls := cls }
    | .ok t => t.writeAll acc r (i + 1) (ks ++ (publishKey oid v).toList)

/-- WRITE (R424). A refused PUBLISH of a FIR set leaves OVER_RANGE (R242, R253). -/
def State.fcpWrite (s : State) (h : Hdr) (bad : Option Nat) (es : List (Nat × Word)) : State :=
  s.fcpRun h 0x11 bad (fun s acc =>
    if es = [] ∨ es.length > 128 then plainRefusal s acc stRange
    else match s.writeAll acc es 0 [] with
      | .ok (t, []) => .done t [] none
      | .ok (t, ks) => .wait t ks
      | .error r =>
        let t := match (if r.oid = oidBulkCtrl ∧ r.status = stRange then bulkPublish ((es.map (·.2)).getD r.index 0) else none) with
          | some (k, i) => s.publishRefused k i
          | none => s
        .refused t r acc true)

/-- WRITE_STAGE (R197, R425, R487). -/
def State.fcpStage (s : State) (h : Hdr) (bad : Option Nat) (excl : Bool) (expect : Option Word) (es : List StageEntry) : State :=
  s.fcpRun h 0x12 bad (fun s acc =>
    if es = [] ∨ es.length > 112 then plainRefusal s acc stRange
    else match s.stageAll acc false expect es with
      | .error r => .refused s r acc true
      | .ok _ =>
        match (if s.isStandby then es.findIdx? (fun e => match findObj e.oid with | some (c, _, _) => pcIn c.wr 6 | none => false) else none) with
        | some i => .refused s { status := stNotReady, oid := (es.map (·.oid)).getD i 0, index := i } acc true
        | none =>
          match s.stageAll acc excl expect es with
          | .error r => .refused s r acc true
          | .ok t => .done t [] none)

/-- COMMIT (R201, R202, R426, R487). -/
def State.fcpCommit (s : State) (h : Hdr) (bad : Option Nat) (mode scope : Nat) (ramp : Option Nat) (expect : Option Word) : State :=
  s.fcpRun h 0x13 bad (fun s acc =>
    match s.commit acc.session mode scope ramp expect with
    | .error st => plainRefusal s acc (if s.isStandby && decide (st ≠ stRange ∧ st ≠ stStale) then stNotReady else st)
    | .ok t => if s.isStandby then plainRefusal s acc stNotReady else .done t [] (some t.moult.assigned))

/-- WRITE_BLOCK (R220, R242, R427, R487). -/
def State.fcpWriteBlock (s : State) (h : Hdr) (bad : Option Nat) (oid : Nat) (ws : List Word) : State :=
  s.fcpRun h 0x15 bad (fun s acc =>
    let no (st : Nat) (cls : Bool) : FcpRes := .refused s { status := st, oid := oid, cls := cls } acc true
    match s.blockRefused acc oid ws.length true with
    | some (st, cls) => no st cls
    | none =>
      let k := (setOf oid).getD 0
      if k < 8192 ∧ ((ws.mapIdx (fun i w => decide ((oid + i) % 8 ≥ 5 ∧ w ≠ 0))).any id) then no stRange false
      else if s.isStandby then no stNotReady false
      else if (s.bset k).st ≥ 2 then no stBusy false
      else .done (s.writeBulk k oid ws) [] none)

/-! ### Sessions, events, frames (R421, R429, R437) -/

/-- KEEPALIVE (R421). -/
def State.fcpKeepalive (s : State) (h : Hdr) (bad : Option Nat) : State := s.fcpRun h 0x03 bad (fun s _ => .done s [] none)

/-- SUBSCRIBE (R437). -/
def State.fcpSubscribe (s : State) (h : Hdr) (bad : Option Nat) (mask : Word) (op : Nat) : State :=
  s.fcpRun h 0x20 bad (fun s acc =>
    if op > 2 then plainRefusal s acc stRange
    else
      let n := acc.session.val
      let q := s.ses n
      let m := if op = 0 then mask else if op = 1 then q.mask ||| mask else q.mask &&& ~~~mask
      .done (s.setSes n { q with mask := m }) [] none)

/-- FRAME_TX (R396, R429). -/
def State.fcpFrameTx (s : State) (h : Hdr) (bad : Option Nat) (lane : Nat) (last : Bool) (off : Nat) (data : List Byte) : State :=
  s.fcpRun h 0x40 bad (fun s acc =>
    let n := acc.session.val
    let q := s.ses n
    let f := q.txFrame.take off ++ data
    if lane > 2 ∨ off > q.txFrame.length ∨ f.length > 1518 ∨ data.length > 1024 ∨ (last ∧ f.length < 60) then
      plainRefusal (s.setSes n { q with txFrame := [], txLane := 0 }) acc stRange
    else if lane < 2 ∧ !s.laneUp lane then plainRefusal s acc stNotReady
    else if !last then .done (s.setSes n { q with txFrame := f, txLane := lane }) [] none
    else
      let s := s.setSes n { q with txFrame := [], txLane := 0 }
      .done (s.sendRing lane 3 s.hostTc f) [] none)

/-! ### SYNC_SUMMARY (R440) -/

/-- SYNC_SUMMARY: it waits for its grain boundary. -/
def State.fcpSummary (s : State) (h : Hdr) (bad : Option Nat) : State := s.fcpRun h 0x30 bad (fun s _ => .wait s [])

/-- The map of the tags that `p` selects. -/
def Session.tagMap (q : Session) (p : Nat → Bool) : Nat := (q.tags.filter (fun e => p e.2)).foldl (fun a e => a + 2 ^ e.1) 0
/-- A fault-log entry as bytes, `i` entries older than the newest; unused entries are zero (R529, R440). -/
def State.faultBytes (s : State) (i : Nat) : List Byte :=
  let nw := s.obn oidFaultNewest
  if nw = 0xFF then leBytes 16 0
  else
    let e := (nw + 64 - i) % 64
    leBytes 4 (s.obn (oidFaultWord e)) ++ leBytes 4 (s.obn (oidFaultInstar e)) ++ leBytes 4 (s.obn (oidFaultDtSec e)) ++
    leBytes 4 (s.obn (oidFaultDtNs e))
/-- The values of consecutive readings, one byte each. -/
def bytesOf (n : Nat) (f : Nat → Nat) : List Byte := (List.range n).flatMap (fun i => leBytes 1 (f i))
/-- The summary of a session (R440). -/
def State.summary (s : State) (n : Nat) : List Byte :=
  let q := s.ses n
  let rd (o : Nat) : Nat := (s.readObj o 0).toNat
  leBytes 2 1 ++ leBytes 2 1024 ++ leBytes 4 s.gn.toNat ++ leBytes 4 (s.obn oidTimeGbSecLo) ++ leBytes 4 (s.obn oidTimeGbNs) ++
  leBytes 4 (s.obn oidInstar) ++ leBytes 4 s.readArmed.toNat ++ leBytes 4 (rd 0xF6804) ++ leBytes 4 (s.stagedCnt (fun _ => true)) ++
  leBytes 2 s.poolUsed ++ leBytes 1 n ++ leBytes 1 (q.head % 64 + 64 * (q.head / 64 % 2)) ++
  leBytes 1 (q.tail % 64 + 64 * phaseOf q.tail) ++ leBytes 3 0 ++
  leBytes 8 (q.tagMap (fun u => u = 1)) ++ leBytes 8 (q.tagMap (fun u => decide (2 ≤ u))) ++ leBytes 8 0 ++
  (List.range 63).flatMap (fun i => leBytes 4 (s.readSessInfo (i + 1)).toNat) ++ leBytes 4 0 ++
  bytesOf 3 s.dst ++ bytesOf 3 s.dsel ++ leBytes 1 (s.obn oidXoState) ++ leBytes 1 s.servo ++
  bytesOf 8 s.rst ++ bytesOf 8 (fun r => s.obn (oidRefRank r)) ++ leBytes 1 s.readAligned.toNat ++
  leBytes 1 (s.obn oidDomRateA) ++ leBytes 1 (s.obn oidDomRateB) ++ leBytes 1 (s.obn oidDomRateC) ++ leBytes 4 0 ++
  bytesOf 24 s.pst ++ bytesOf 4 s.lane ++ leBytes 4 0 ++
  leBytes 4 (s.obn oidImgActiveId) ++ leBytes 1 s.pend ++ leBytes 3 0 ++ leBytes 4 s.readSpareState.toNat ++
  leBytes 2 (s.obn oidImgChanRetiredCnt) ++ leBytes 2 0 ++ leBytes 4 (s.obn oidJnlSeq) ++ leBytes 1 s.tw ++ leBytes 3 s.claim ++
  leBytes 2 (s.obn oidFaultTotal) ++ leBytes 1 (s.obn oidFaultNewest) ++ leBytes 5 0 ++
  (List.range 32).flatMap s.faultBytes ++ leBytes 4 q.mask.toNat ++
  leBytes 2 (match q.evq with | r :: _ => r.seq | [] => q.evSeq + 1) ++ leBytes 2 q.evSeq ++ leBytes 4 q.dropped ++
  (List.range 4).flatMap (fun k => leBytes 4 (s.obn (oidIntPending k))) ++ leBytes 68 0

/-- SUMMARY_CAPTURE: every SYNC_SUMMARY that waits completes with the record of this boundary (R430, R440). It follows
GRAIN_BOUNDARY. -/
def execSummaryCapture (s : State) : Out :=
  .next (forUpTo 64 (fun n (t : State) =>
    ((s.ses n).waiting.filter (fun w => w.opcode = 0x30)).foldl (fun u w => u.finish n w stOk (s.summary n)) t) s)

/-! ### PUBLISH (R242) -/

/-- PUBLISH: a WRITE of BULK_CTRL. -/
def execPublish (h : Hdr) (kind : Fin 4) (index : BitVec 13) (s : State) : Out :=
  .next (s.fcpWrite h none [(oidBulkCtrl, bulkWord kind index.toNat 1)])
/-- A preparation is complete: the writes that waited for nothing else finish (R242, R430). -/
def State.preparedDone (s : State) (k : Nat) : State :=
  forUpTo 64 (fun n (t : State) =>
    (t.ses n).waiting.foldl (fun u w =>
      if !w.sets.contains k then u
      else if w.sets.all (· = k) then u.finish n w stOk []
      else
        let q := u.ses n
        u.setSes n { q with waiting := q.waiting.map (fun x => if x.tag = w.tag then { x with sets := x.sets.filter (· ≠ k) } else x) }) t) s
/-- PUBLISH_PREPARED (R242, R244). -/
def execPublishPrepared (kind : Fin 4) (index : BitVec 13) (s : State) : Out :=
  .next ((s.prepared kind index.toNat).preparedDone (setKey kind index.toNat))

/-! ### The commands -/

/-- WRITE_STAGE: FLAGS [0] EXPECT_VALID, [1] EXCLUSIVE; its other bits are reserved (R420, R425). -/
def execWriteStage (h : Hdr) (flags : Byte) (expect : Word) (es : List StageEntry) (s : State) : Out :=
  .next (s.fcpStage h (if flags.toNat > 3 then some stBadFrame else none) (flags.getLsbD 1)
    (if flags.getLsbD 0 then some expect else none) es)
/-- COMMIT: FLAGS [0] EXPECT_VALID, [1] RAMP_FIXED (R420, R426). -/
def execCommit (h : Hdr) (mode scope flags : Byte) (ramp : BitVec 16) (expect : Word) (s : State) : Out :=
  .next (s.fcpCommit h (if flags.toNat > 3 then some stBadFrame else none) mode.toNat scope.toNat
    (if flags.getLsbD 1 then some ramp.toNat else none) (if flags.getLsbD 0 then some expect else none))
/-- OPEN_SESSION (R413). -/
def execOpenSession (h : Hdr) (mode credit : Byte) (timeout : BitVec 16) (req : Byte) (recent : Bool) (s : State) : Out :=
  .next (s.openSession h false recent { mode := mode.toNat, credit := credit.toNat, timeout := timeout.toNat, req := req.toNat })
/-- CLOSE_SESSION (R415). -/
def execCloseSession (h : Hdr) (s : State) : Out := .next (s.closeSession h false)
/-- KEEPALIVE (R421). -/
def execKeepalive (h : Hdr) (s : State) : Out := .next (s.fcpKeepalive h none)
/-- READ (R423). -/
def execRead (h : Hdr) (view : Byte) (oids : List Nat) (s : State) : Out := .next (s.fcpRead h none view.toNat oids)
/-- WRITE (R424). -/
def execWrite (h : Hdr) (entries : List (Nat × Word)) (s : State) : Out := .next (s.fcpWrite h none entries)
/-- READ_BLOCK (R427). -/
def execReadBlock (h : Hdr) (oid : Nat) (count : BitVec 16) (view : Byte) (s : State) : Out :=
  .next (s.fcpReadBlock h none oid count.toNat view.toNat)
/-- WRITE_BLOCK (R427). -/
def execWriteBlock (h : Hdr) (oid : Nat) (words : List Word) (s : State) : Out := .next (s.fcpWriteBlock h none oid words)
/-- DESCRIBE (R428). -/
def execDescribe (h : Hdr) (oid : Nat) (index : BitVec 16) (s : State) : Out := .next (s.fcpDescribe h none oid index.toNat)
/-- SUBSCRIBE (R437). -/
def execSubscribe (h : Hdr) (mask : Word) (op : Byte) (s : State) : Out := .next (s.fcpSubscribe h none mask op.toNat)
/-- SYNC_SUMMARY (R440). -/
def execSyncSummary (h : Hdr) (s : State) : Out := .next (s.fcpSummary h none)
/-- FRAME_TX (R429). -/
def execFrameTx (h : Hdr) (lane : Byte) (last : Bool) (offset : BitVec 16) (data : List Byte) (s : State) : Out :=
  .next (s.fcpFrameTx h none lane.toNat last offset.toNat data)

end Sys2Proof.Machine
end

