-- ==== Sys2Proof/Machine/Frames.lean ====
section
/-!
DEFINITION. FCP frames as bytes (R417–R421) and the frames that a lane receives (R372–R376, R392–R396, R429, R457).
-/

namespace Sys2Proof.Machine

/-! ### Command frames (R417–R429) -/

/-- The 16-byte header passes the first row of R420: MAGIC, VERSION, LENGTH against the transfer, reserved fields. -/
def headerOk (f : List Byte) : Bool :=
  decide (f.length ≥ 16) && leAt f 0 2 = 0x4346 && leAt f 2 1 = 1 && leAt f 6 2 + 16 = f.length && decide (f.length ≤ 1440) &&
  decide (leAt f 8 2 < 4) && decide (leAt f 10 1 < 128) && leAt f 11 1 = 0 && leAt f 14 2 = 0
/-- The header of a frame (R418). -/
def headerOf (src : Source) (f : List Byte) : Hdr :=
  let b (o : Nat) : Byte := nth 0 f o
  let fl := leAt f 8 2
  { src := src, session := b 4, tag := b 5
    cqHead := if fl % 2 = 1 then some (b 10) else none
    evqAck := if fl / 2 % 2 = 1 then some (BitVec.ofNat 16 (leAt f 12 2)) else none }
/-- `n` records of `size` bytes from an offset of a body. -/
def bodyRecs {α : Type} (b : List Byte) (o size n : Nat) (f : List Byte → α) : List α :=
  (List.range n).map (fun i => f (slice b (o + i * size) size))
/-- BAD_FRAME where a body breaks R420. -/
def badIf (c : Bool) : Option Nat := if c then some stBadFrame else none

/-- A command frame of a source: it is discarded, or its command runs (R420, R421). `recent` is that of OPEN_SESSION. -/
def State.fcpFrame (s : State) (src : Source) (recent : Bool) (f : List Byte) : State :=
  if !headerOk f then { s.fcpFlag 0 with answer := { status := stBadFrame } }
  else
    let h := headerOf src f
    let b := f.drop 16
    let n := b.length
    let w (o len : Nat) : Nat := leAt b o len
    match leAt f 3 1 with
    | 0x01 => s.openSession h (decide (n < 8) || w 5 3 ≠ 0) recent { mode := w 0 1, credit := w 1 1, timeout := w 2 2, req := w 4 1 }
    | 0x02 => s.closeSession h false
    | 0x03 => s.fcpKeepalive h none
    | 0x10 => s.fcpRead h (badIf (decide (n < 4) || n ≠ 4 + 4 * w 1 1 || w 2 2 ≠ 0)) (w 0 1) (bodyRecs b 4 4 (w 1 1) ofLe)
    | 0x11 => s.fcpWrite h (badIf (decide (n < 4) || n ≠ 4 + 8 * w 0 2 || w 2 2 ≠ 0))
        (bodyRecs b 4 8 (w 0 2) (fun e => (leAt e 0 4, wd (leAt e 4 4))))
    | 0x12 =>
      let es := bodyRecs b 8 12 (w 1 1) (fun e => ({ oid := leAt e 0 4, value := wd (leAt e 4 4), ramp := BitVec.ofNat 16 (leAt e 8 2) } : StageEntry))
      let resv := (bodyRecs b 8 12 (w 1 1) (fun e => leAt e 10 2)).any (· ≠ 0)
      s.fcpStage h (badIf (decide (n < 8) || n ≠ 8 + 12 * w 1 1 || decide (w 0 1 > 3) || w 2 2 ≠ 0 || resv)) (w 0 1 / 2 % 2 = 1)
        (if w 0 1 % 2 = 1 then some (wd (w 4 4)) else none) es
    | 0x13 => s.fcpCommit h (badIf (decide (n < 12) || decide (w 2 1 > 3) || w 3 1 ≠ 0 || w 6 2 ≠ 0)) (w 0 1) (w 1 1)
        (if w 2 1 / 2 % 2 = 1 then some (w 4 2) else none) (if w 2 1 % 2 = 1 then some (wd (w 8 4)) else none)
    | 0x14 => s.fcpReadBlock h (badIf (decide (n < 8) || w 7 1 ≠ 0)) (w 0 4) (w 4 2) (w 6 1)
    | 0x15 => s.fcpWriteBlock h (badIf (decide (n < 8) || n ≠ 8 + 4 * w 4 2 || w 6 2 ≠ 0)) (w 0 4)
        (bodyRecs b 8 4 (w 4 2) (fun e => wd (ofLe e)))
    | 0x16 => s.fcpDescribe h (badIf (decide (n < 8) || w 6 2 ≠ 0)) (w 0 4) (w 4 2)
    | 0x20 => s.fcpSubscribe h (badIf (decide (n < 8) || w 5 3 ≠ 0)) (wd (w 0 4)) (w 4 1)
    | 0x30 => s.fcpSummary h none
    | 0x40 => s.fcpFrameTx h (badIf (decide (n < 4) || decide (w 1 1 > 1))) (w 0 1) (w 1 1 = 1) (w 2 2) (b.drop 4)
    | op => s.fcpRun h op (some stBadCommand) (fun t _ => .done t [] none)

/-! ### Frames for the hosts (R396, R429, R457) -/

/-- One bit, one byte and the whole of the frame check sequence of Ethernet (PRESUMED: IEEE 802.3, log 82). -/
def fcsBit (c : Word) : Word := if c.getLsbD 0 then (c >>> 1) ^^^ 0xEDB88320 else c >>> 1
/-- One byte of the frame check sequence. -/
def fcsByte (c : Word) (b : Byte) : Word :=
  fcsBit (fcsBit (fcsBit (fcsBit (fcsBit (fcsBit (fcsBit (fcsBit (c ^^^ b.setWidth 32))))))))
/-- The frame check sequence of a frame as its last four bytes. -/
def frameFcs (f : List Byte) : List Byte := leBytes 4 (~~~(f.foldl fcsByte 0xFFFFFFFF)).toNat

/-- The FRAME_RX segments of a frame: the device frames of R429, at most two. -/
def frameRx (session lane sec ns instar : Nat) (f : List Byte) : List (List Byte) :=
  let seg (last : Bool) (off : Nat) (d : List Byte) : List Byte :=
    ({ opcode := 0x41, session := session, instar := wd instar
       body := leBytes 1 lane ++ leBytes 1 (if last then 1 else 0) ++ leBytes 2 off ++ leBytes 4 sec ++ leBytes 4 ns ++ d } : Completion).frame
  if f.length ≤ 1024 then [seg true 0 f] else [seg false 0 (f.take 1024), seg true 1024 (f.drop 1024)]
/-- A session is OPEN and subscribes to group 11. -/
def State.hearsFrames (s : State) (n : Nat) : Bool := decide ((s.ses n).st = 1) && bit (s.ses n).mask 11
/-- A segment is written to the frame receive ring (R457). -/
def State.frxWrite (s : State) (seg : List Byte) : State :=
  let n := s.host.frx
  { s with host := { s.host with
      frxSlots := mapSet (fun _ => []) s.host.frxSlots (n % 16) (leBytes 4 (n + 1) ++ leBytes 12 0 ++ seg), frx := (n + 1) % 2 ^ 32 } }
/-- A frame of ring 3 goes to the sessions that subscribe to group 11, and to the frame receive ring while one of PC1 does
(R429, R457). The session that a segment of the shared ring names is not given. -/
def State.hostFrame (s : State) (lane : Nat) (f : List Byte) : State :=
  let net := (List.range 64).filter (fun n => s.hearsFrames n && decide ((s.ses n).pc = 4 ∨ (s.ses n).pc = 5))
  let rx (n : Nat) : List (List Byte) := frameRx n lane s.dtSec s.dtNs (s.obn oidInstar) f
  let s' := net.foldl (fun (t : State) n => (rx n).foldl (fun u g => u.toNet (s.ses n).source g) t) s
  let s' := { s' with answer := { body := net.flatMap (fun n => (rx n).flatten) } }
  if (List.range 64).any (fun n => s.hearsFrames n && decide ((s.ses n).pc = 1)) then
    let (v, s') := s'.free
    (rx (v.toNat % 64)).foldl (fun (t : State) g => t.frxWrite g) s'
  else s'

/-! ### FRAME_RECEIVE -/

/-- A frame for the internal port reaches its ring, and FCP and the hosts from there (R392, R411, R417). -/
def State.intoRing (s : State) (lane : Nat) (f : List Byte) (bufs : List (Nat × Nat)) (recent : Bool) : State :=
  match s.ringOf lane f with
  | none => s
  | some r =>
    let (s, ok) := s.toRing lane r (f ++ frameFcs f) bufs
    if !ok then s
    else if r = 0 then
      let o := payOff f
      if beAt f (o + 6) 2 % 0x4000 ≠ 0 then s
      else
        let src : Source := { pc := if lane = 2 then 4 else 5, port := lane, ip := wd (beAt f (o + 12) 4), udp := beAt f (l4Off f) 2 }
        s.fcpFrame src recent (slice f (l4Off f + 8) (beAt f (l4Off f + 4) 2 - 8))
    else if r = 1 then s.igmpQuery lane f
    else if r = 3 then s.hostFrame lane (f ++ frameFcs f)
    else s

/-- FRAME_RECEIVE: a frame arrives on a lane, `bytes` from its destination address to before its FCS, which is good while
`fcs`; `bufs` are the buffers in T7 of the descriptors that the device owns next in the frame's ring (R372–R376, R392, R398). -/
def execFrameReceive (lane : Fin 4) (fcs : Bool) (bytes : List Byte) (bufs : List (Nat × Nat)) (recent : Bool) (s : State) : Out :=
  let n := bytes.length + 4
  let l := lane.val
  let sized := decide (64 ≤ n ∧ n ≤ 1522)
  let good := fcs && sized
  let src := beAt bytes 6 6
  .next (
    if !s.laneUp l then s
    else
      let s := if good then s.put (oidLaneRxFrames l) (s.ob (oidLaneRxFrames l) + 1) else s.laneFlag l 1
      if l < 2 ∧ s.obn oidBridgeMode = 2 ∧ (src = s.mac 0 ∨ src = s.mac 1) then s
      else
        let (fwd, inner) := s.forwardTo l bytes
        let s := if good ∧ l < 2 ∧ src / 2 ^ 40 % 2 = 0 then s.learn src (vidOf bytes) l else s
        let s := if l < 2 ∧ fwd ∧ sized then
            s.transit l (1 - l) { len := n, tc := s.classify bytes, src := l, at' := s.time.dt, bytes := bytes } fcs
          else s
        let dst := beAt bytes 0 6
        let mine := if l < 2 then inner && !s.mediaHere l bytes
          else decide (l = 3 ∨ dst = s.mac l ∨ dst / 2 ^ 40 % 2 = 1)
        if good ∧ mine then s.intoRing l bytes bufs recent else s)

end Sys2Proof.Machine
end

