-- ==== Sys2Proof/Machine/Hosts.lean ====
section
/-!
DEFINITION. The host interfaces: the channels of the PCIe endpoint (R448–R456), the SPI and SERVICE ports (R458–R463).
-/

namespace Sys2Proof.Machine

/-- A HOST_STICKY flag with its counter (R474, R475). -/
def State.hostFlag (s : State) (b : Nat) : State := s.sticky oidHostSticky b (oidHostCnt b)
/-- The firmware accepts frames: it runs, and the state has been restored (R450, R460, R548). -/
def State.fcpReady (s : State) : Bool :=
  !s.pwr.down && (decide (s.pw = pwRun) || (decide (s.pw = pwEclosion) && decide (s.pwr.stage ≥ 6)))
/-- BAR0 is decoded: the link is up and the endpoint is not in D3hot (R455). -/
def State.barOpen (s : State) : Bool := bit (s.ob oidPcieStatus) 0 && !bit (s.ob oidPcieStatus) 4

/-- The configuration that the endpoint presents, by its byte offset in the configuration space of the PCI Express Base
Specification: identity, class and revision, BAR0, the subsystem, the Interrupt Pin; the words whose contents R448 does not
state (commands, the capability structures) are `none`. BAR0 reads with the host's address bits zero. -/
def State.configWord (s : State) (o : Nat) : Option Word :=
  match o with
  | 0x00 => some (0x95120000 ||| Config.pcieVendor.setWidth 32)
  | 0x08 => some (0x04010000 ||| (s.ob oidDevRev &&& 0xFF))
  | 0x10 => some 4
  | 0x14 | 0x18 | 0x1C | 0x20 | 0x24 | 0x30 => some 0
  | 0x2C => some s.host.subsys
  | 0x3C => some 0
  | _ => none
/-- The bytes of BAR0 (R448). -/
def barBytes : Nat := 0x200000

/-! ### Host channels (R449–R455) -/

/-- The session that a channel holds (R454). -/
def State.chanSes (s : State) (c : Nat) : Option Nat :=
  (s.sess.find? (fun e => decide (e.2.st ≠ 0) && decide (e.2.pc = 1) && decide (e.2.port = c))).map (fun e => e.1)
/-- The OPEN session of a channel. -/
def State.chanOpen (s : State) (c : Nat) : Option Nat :=
  match s.chanSes c with | some n => if (s.ses n).st = 1 then some n else none | none => none
/-- The first byte of channel `c`'s area in MGMT SRAM (R449). -/
def areaBase (c : Nat) : Nat := 0x20300000 + 0x20000 * c
/-- The frame that stands in a slot of a channel's SQ; a LENGTH above 1,424 leaves a frame that fails its header (R453). -/
def State.sqFrame (s : State) (c i : Nat) : List Byte :=
  let a := areaBase c + 1536 * i
  let n := ofLe (mapRead (fun _ => 0) s.host.sram (a + 6) 2)
  mapRead (fun _ => 0) s.host.sram a (if n > 1424 then 16 else 16 + n)
/-- The device takes `k` frames of a channel in slot order (R453). -/
def State.sqTake (s : State) (c : Nat) (recent : Bool) : Nat → State
  | 0 => s
  | k + 1 =>
    let x := s.chan c
    let f := s.sqFrame c (x.sqHead % 16)
    let s := s.setChan c { x with sqHead := (x.sqHead + 1) % 32 }
    (s.fcpFrame { pc := 1, port := c, ip := 0, udp := 0 } recent f).sqTake c recent k
/-- A write of SQ_TAIL: the slots before the tail are filled. A tail more than 16 slots ahead, or behind, is ignored (R453). -/
def State.sqTail (s : State) (c : Nat) (v : Word) (recent : Bool) : State :=
  let x := s.chan c
  let t := v.toNat % 32
  let ahead := (t + 32 - x.sqHead) % 32
  if ahead > 16 then s.fcpFlag 0 else (s.setChan c { x with sqTail := t }).sqTake c recent ahead
/-- A write of CQ_DB: a CQ_HEAD of the channel's session (R432, R451). -/
def State.cqDb (s : State) (c : Nat) (v : Word) : State :=
  match s.chanOpen c with | some n => s.cqHead n (v.toNat % 128) | none => s
/-- A write of EVQ_DB: an EVQ_ACK of the channel's session (R438, R451). -/
def State.evqDb (s : State) (c : Nat) (v : Word) : State :=
  match s.chanOpen c with | some n => s.evqAck n (v.toNat % 65536) | none => s
/-- A write of CHAN_RESET: only the value 1 acts (R451, R455). -/
def State.chanReset (s : State) (c : Nat) (v : Word) : State :=
  if v ≠ 1 then s
  else
    let n := s.chanSes c
    let s := match n with | some k => s.closing k 0 | none => s
    let x := s.chan c
    (s.setChan c { x with sqHead := x.sqTail }).raise 11 2 [(1, c), (1, n.getD 0)]

/-- SQ_TAIL_WRITE (R453). -/
def execSqTailWrite (c : Fin 8) (v : Word) (recent : Bool) (s : State) : Out :=
  .next (if s.barOpen then s.sqTail c v recent else s)
/-- CQ_DB_WRITE (R451). -/
def execCqDbWrite (c : Fin 8) (v : Word) (s : State) : Out := .next (if s.barOpen then s.cqDb c v else s)
/-- EVQ_DB_WRITE (R451). -/
def execEvqDbWrite (c : Fin 8) (v : Word) (s : State) : Out := .next (if s.barOpen then s.evqDb c v else s)
/-- CHAN_RESET_WRITE (R455). -/
def execChanResetWrite (c : Fin 8) (v : Word) (s : State) : Out := .next (if s.barOpen then s.chanReset c v else s)
/-- INT_ACK_WRITE (R450, R456). -/
def execIntAckWrite (k : Fin 4) (v : Word) (s : State) : Out := .next (if s.barOpen then s.intAck k v else s)

/-! ### The link (R448, R455, R476) -/

/-- HOST_PCIE_LINK: the link, its speed and width as PCIE_STATUS reads (R476). -/
def State.linkEvent (s : State) : State :=
  let v := s.ob oidPcieStatus
  s.raise 11 0 [(1, fld v 0 0), (1, fld v 2 1), (1, fld v 3 3)]
/-- PERST_ASSERT: PERST_N is asserted, or a Function Level Reset while `flr` (R455, R471). -/
def execPerstAssert (flr : Bool) (bus : Option (Word × Bool)) (s : State) : Out :=
  let up := bit (s.ob oidPcieStatus) 0
  let s := (s.closeAll (fun q => q.st = 1 && q.pc = 1) 2).masterAbort 2 bus
  let s := forUpTo 8 (fun c (t : State) => t.setChan c { direct := (t.chan c).direct }) s
  let s := { s with host := { s.host with msix := [], pba := 0 } }
  .next (
    if flr then s.putFld oidPcieStatus 4 4 0
    else
      let s := s.put oidPcieStatus 0
      if up then s.linkEvent else s)
/-- PERST_RELEASE: PCIE_SUBSYS is presented (R474). -/
def execPerstRelease (s : State) : Out := .next { s with host := { s.host with subsys := s.ob oidPcieSubsys } }
/-- PCIE_LINK_DOWN: hot reset or the loss of the link (R455, R471). -/
def execPcieLinkDown (bus : Option (Word × Bool)) (s : State) : Out :=
  .next (
    if !bit (s.ob oidPcieStatus) 0 then s
    else (((s.masterAbort 2 bus).put oidPcieStatus 0).hostFlag 0).linkEvent)
/-- PCIE_LINK_UP at 2.5, 5.0 or 8.0 GT/s (1–3), ×2 while `wide` (R474). -/
def execPcieLinkUp (speed : Fin 4) (wide : Bool) (s : State) : Out :=
  .next (
    if speed = 0 then s
    else (s.putn oidPcieStatus (1 + 2 * speed.val + (if wide then 8 else 0))).linkEvent)
/-- D3HOT_ENTRY (R455). -/
def execD3hotEntry (s : State) : Out := .next (if bit (s.ob oidPcieStatus) 0 then s.putFld oidPcieStatus 4 4 1 else s)
/-- D3HOT_EXIT (R474). -/
def execD3hotExit (s : State) : Out := .next (s.putFld oidPcieStatus 4 4 0)

/-! ### SPI and SERVICE ports (R458–R463). Ports: 0 SPI-A, 1 SPI-B, 2 SERVICE -/

/-- The port class of a SPI port. -/
def spiClass (p : Nat) : Nat := nth 0 [2, 3, 0] p
/-- A flag of a SPI port: cause 0 CRC, 1 OVERRUN, 2 PROTO. The SERVICE port has none (R475, R476). -/
def State.spiErr (s : State) (p cause : Nat) : State :=
  if p > 1 then s else (s.hostFlag (1 + 3 * p + cause)).raiseOnce p 11 1 [(1, p), (1, cause)]
/-- CRC_ERR follows the check of a SEND or a DOORBELL (R460, R461, R463). -/
def State.spiCrc (s : State) (p : Nat) (good : Bool) : State :=
  let s := s.setSpi p { s.spi p with crcErr := !good }
  if good then s else s.spiErr p 0
/-- The status word (R460). Frames are taken as they arrive, so an input slot is always free. -/
def State.spiStatus (s : State) (p : Nat) : Word :=
  let x := s.spi p
  let int := (List.range 4).foldl (fun a k => if s.intAsserted k then a + 2 ^ (8 + k) else a) 0
  wd ((if s.fcpReady then 1 else 0) + 2 + (if x.crcErr then 4 else 0) + (if x.overrun then 8 else 0) + int
    + 65536 * x.dseq + 16777216 * x.sends)
/-- The device sends bytes and their CRC (R458). -/
def State.spiSend (s : State) (l : List Byte) : State := { s with answer := { body := l ++ leBytes 4 (crc32c l).toNat } }
/-- OVERRUN has been returned (R460). -/
def State.overrunRead (s : State) (p : Nat) : State := s.setSpi p { s.spi p with overrun := false }

/-- STATUS (R459, R460). -/
def execStatus (port : Fin 3) (s : State) : Out :=
  .next ((s.spiSend (leBytes 4 (s.spiStatus port).toNat)).overrunRead port)
/-- SEND of a frame of LEN bytes; `crc` says that its CRC is good, `slot` that an input slot was free (R461). -/
def execSend (port : Fin 3) (crc slot recent : Bool) (frame : List Byte) (s : State) : Out :=
  let p := port.val
  .next (
    if frame.length < 16 ∨ frame.length > 1440 then s.spiErr p 2
    else
      let s := s.spiCrc p crc
      let s := if slot then s else (s.setSpi p { s.spi p with overrun := true }).spiErr p 1
      if !crc ∨ !slot then s
      else
        let s := s.setSpi p { s.spi p with sends := ((s.spi p).sends + 1) % 256 }
        s.fcpFrame { pc := if p = 0 then 2 else if p = 1 then 3 else 0, port := 0, ip := 0, udp := 0 } recent frame)

/-- A session that a port names is its own and OPEN (R462, R463). -/
def State.spiOwns (s : State) (p n : Nat) : Bool := decide ((s.ses n).st = 1 ∧ (s.ses n).pc = spiClass p ∧ n ≠ 0)
/-- The entry that a FETCH selects; `none` for a protocol error (R462). -/
def State.fetchEntry (s : State) (p kind n i : Nat) : Option (List Byte) :=
  if kind = 2 then some (((s.spi p).direct.find? (fun e => e.1 = i)).map (fun e => e.2) |>.getD [])
  else if kind > 2 ∨ !s.spiOwns p n then none
  else
    let q := s.ses n
    if kind = 0 then some (if i > 63 then [] else if i < q.tail then (q.entry i).frame else leBytes 16 0)
    else some (((q.evq.find? (fun r => r.seq = i)).map EvRecord.bytes).getD [])
/-- FETCH (R459, R462). -/
def execFetch (port : Fin 3) (kind session : Byte) (index : Half) (s : State) : Out :=
  let p := port.val
  let e := s.fetchEntry p kind.toNat session.toNat index.toNat
  let l := e.getD []
  let s' := (s.spiSend (leBytes 4 (s.spiStatus p).toNat ++ leBytes 2 l.length ++ leBytes 2 0 ++ l)).overrunRead p
  .next (if e.isNone then s'.spiErr p 2 else s')
/-- DOORBELL (R463). -/
def execDoorbell (port : Fin 3) (crc : Bool) (kind session : Byte) (value : Half) (s : State) : Out :=
  let p := port.val
  let n := session.toNat
  .next (
    let s := s.spiCrc p crc
    if !crc then s
    else if kind.toNat > 1 ∨ !s.spiOwns p n then s.spiErr p 2
    else if kind = 0 then s.cqHead n (value.toNat % 128)
    else s.evqAck n value.toNat)
/-- SPI_PROTOCOL_ERROR: an unknown instruction (R459). -/
def execSpiProtocolError (port : Fin 3) (s : State) : Out := .next (s.spiErr port 2)
/-- SPI_ABORT: CS_N rises in the middle of a transaction; the bursts of M3, M4 or M9 are aborted (R471). -/
def execSpiAbort (port : Fin 3) (bus : Option (Word × Bool)) (s : State) : Out :=
  .next (s.masterAbort (nth 9 [3, 4] port.val) bus)

end Sys2Proof.Machine
end

