-- ==== Sys2Proof/Machine/Bus.lean ====
section
/-!
DEFINITION. The bus matrix (R467–R473): arbitration, locks, errors, what each address holds (R446–R452), the debug instructions
of the SERVICE port (R465).

Contents whose layout is not given (the parameter store, the ROM, the peripheral registers outside the debug and host blocks)
read as free values, and writes of them change nothing. So do checkpoints, bulk words, spectral forms and twin staging in
DMEM, but that what T2 has written there reads back until the device writes into the area.
-/

namespace Sys2Proof.Machine

/-! ### Addresses -/

/-- Where a request goes: a bus address, or a BAR0 offset that is not listed (R449). -/
def busPlace (r : BusReq) (a : Nat) : Option Nat :=
  if !r.bar then some a
  else if a < 0x9000 then some (0x40F00000 + a)
  else if 0xA000 ≤ a ∧ a < 0x10000 then some (0x202F0000 + (a - 0xA000))
  else if 0x100000 ≤ a ∧ a < 0x200000 then some (0x20200000 + a)
  else none
/-- The address of beat `i` of a burst, before the BAR0 mapping (R467). -/
def busBeatAt (r : BusReq) (i : Nat) : Nat :=
  if r.wrap = 0 then r.addr + i * r.beat
  else
    let c := r.wrap * r.beat
    r.addr / c * c + (r.addr % c + i * r.beat) % c
/-- The target of a request's first beat. -/
def busTargetOf (r : BusReq) : Option Nat := match busPlace r r.addr with | some a => busTarget a | none => none

/-- M9 has its connections (R36). -/
def State.serviceOn (s : State) : Bool := bit (s.ob oidFcpPcEnable) 0 || decide (s.pw = pwRecovery)
/-- A register of the host register block that no master may write (R450, R451). -/
def hostRo (o : Nat) : Bool :=
  if o < 0x1000 then [0x000, 0x004, 0x008, 0x020, 0x900].contains o else [0x04, 0x0C, 0x14, 0x18].contains (o % 0x1000)
/-- An offset of a channel's area lies in its SQ (R452). -/
def inSq (a : Nat) : Bool := decide (0x20300000 ≤ a) && decide ((a - 0x20300000) % 0x20000 < 0x6000)

/-- The error that a beat at bus address `a` meets, by its TYPE (R472); `size` that the burst has a legal shape. -/
def State.busRefused (s : State) (r : BusReq) (a : Nat) : Option Nat :=
  let m := r.master.val
  match busTarget a with
  | none => some 0
  | some t =>
    if !busPair m t ∨ (m = 9 ∧ !s.serviceOn) then some 0
    else if r.lock ≠ 0 ∧ (!([0, 1, 4, 7] : List Nat).contains t ∨ !(m = 1 || m = 9) ∨ r.lock > 4 ∨ r.beats ≠ 1) then some 3
    else if !([1, 2, 4, 8, 16] : List Nat).contains r.beat ∨ a % r.beat ≠ 0 ∨ r.beats = 0 ∨ r.beats > 16 ∨ !([0, 4, 8, 16] : List Nat).contains r.wrap then some 2
    else if t = 6 ∧ (r.beat ≠ 4 ∨ r.beats ≠ 1) then some 2
    else if t = 6 ∧ 0x40E00000 ≤ a ∧ a < 0x40E20000 then
      if 2 ≤ m ∧ m ≤ 4 then some 0 else if r.write then some 8 else none
    else if t = 6 ∧ r.write ∧ 0x40F00000 ≤ a ∧ a < 0x40F09000 ∧ hostRo (a - 0x40F00000) then some 8
    else if t = 4 ∧ m = 2 ∧ r.write ∧ !inSq a then some 8
    else if t = 2 ∧ a ≥ 0x80000000 + 0x3C000000 then some 0
    else if t = 3 ∧ a % 0x100000 ≥ 0x80000 ∧ s.tileState ((a - 0x10000000) / 0x100000) ≠ tsStopped then some 7
    else if t = 3 ∧ s.tileState ((a - 0x10000000) / 0x100000) = tsOff then some 7
    else if r.ecc ∧ (t = 4 ∨ t = 5) then some 1
    else none

/-! ### Reading -/

/-- The register at an offset of the host register block (R450, R451). Offsets that are not listed read zero. -/
def State.hostReg (s : State) (o : Nat) : Word :=
  if o < 0x1000 then
    if o = 0 then s.ob oidDevId
    else if o = 4 then
      wd ((if s.fcpReady then 1 else 0) + 2 * s.pwr.stage + (if s.guard.safe = [] then 0 else 32))
    else if o = 8 then wd ((List.range 8).foldl (fun a c => if (s.chanSes c).isSome then a + 2 ^ c else a) 0)
    else if 0x10 ≤ o ∧ o < 0x20 then s.ob (oidIntPending ((o - 0x10) / 4))
    else if o = 0x20 then wd s.host.frx
    else if o = 0x900 then s.host.pba
    else if 0x800 ≤ o ∧ o < 0x840 then mapGet (fun _ => 0) s.host.msix ((o - 0x800) / 4)
    else 0
  else
    let c := o / 0x1000 - 1
    let x := s.chan c
    let q := match s.chanSes c with | some n => s.ses n | none => {}
    match o % 0x1000 with
    | 0x00 => wd x.sqTail
    | 0x04 => wd x.sqHead
    | 0x0C => if q.st = 0 then 0 else wd (q.tail % 64 + 64 * phaseOf q.tail)
    | 0x14 => wd (q.evSeq % 65536 + (if q.evSeq = 0 then 65536 else 0))
    | 0x18 => wd ((s.chanSes c).getD 0 + (if q.st = 1 then 64 else 0) + (if q.st = 2 then 128 else 0) + 256 * x.dseq)
    | _ => 0

/-- A byte of the host area in MGMT SRAM: the frame receive ring, CQ, EVQ and DIRECT as the device has written them, else what
the SRAM holds (R452, R457). -/
def State.sramByte (s : State) (a : Nat) : Byte :=
  let raw := mapGet (fun _ => 0) s.host.sram a
  if 0x202F0000 ≤ a ∧ a < 0x202F6000 then
    nth 0 (mapGet (fun _ => []) s.host.frxSlots ((a - 0x202F0000) / 1536)) ((a - 0x202F0000) % 1536)
  else if a < 0x20300000 then raw
  else
    let c := (a - 0x20300000) / 0x20000
    let o := (a - 0x20300000) % 0x20000
    let q := match s.chanSes c with | some n => s.ses n | none => {}
    if o < 0x6000 then raw
    else if o < 0x1E000 then
      let i := (o - 0x6000) / 1536
      if i < q.tail then nth 0 (q.entry i).frame ((o - 0x6000) % 1536) else 0
    else if o < 0x1F800 then
      match q.evq.find? (fun e => e.seq % 256 = (o - 0x1E000) / 24) with
      | some e => nth 0 e.bytes ((o - 0x1E000) % 24)
      | none => 0
    else if o < 0x1FE00 then nth 0 (s.chan c).direct (o - 0x1F800)
    else raw

/-- A byte of DMEM at its byte address (R229): the image buffers and the delay rings; in the areas whose layout is not given,
what T2 has written there since the device last wrote into the area, and `none` elsewhere. -/
def State.dmemByte (s : State) (a : Nat) : Option Byte :=
  if a < 0x1000000 then some (s.img.active.byte a)
  else if a < 0x2000000 then some (s.img.pend.byte (a - 0x1000000))
  else if 0xA000000 ≤ a ∧ a < 0x3A000000 then
    let o := a - 0xA000000
    some (nth 0 (leBytes 4 (s.ringWord (o / 0x100000) (o % 0x100000 / 4)).toNat) (o % 4))
  else mapGet (fun _ => none) s.dmem.raw a
/-- A byte of a tile's DM or PM at its offset in the tile's block (R446). -/
def Tile.byteAt (t : Tile) (o : Nat) : Byte :=
  if o < 0x80000 then nth 0 (leBytes 4 (t.dmKey (o / 4)).toNat) (o % 4)
  else nth 0 (leBytes 16 (mapGet (fun _ => 0) t.pm ((o - 0x80000) / 16)).toNat) (o % 16)
/-- The debug block (R447). -/
def State.debugReg (s : State) (o : Nat) : Word :=
  if o < 0x10000 then
    let n := o / 0x100
    if n < 36 ∧ o % 0x100 < 64 ∧ s.tileState n = tsRunning then wd (mapGet (fun _ => 0) (s.tile n).ptr96 (o % 0x100 / 4)) else 0
  else
    let p := (o - 0x10000) / 4
    if p < 24 ∧ s.pst p ≠ pOff then wd ((s.port p).fsw % 2048) else 0
/-- A byte of the address space; `none` where the layout is not given. -/
def State.busByte (s : State) (a : Nat) : Option Byte :=
  match busTarget a with
  | some 2 => s.dmemByte (a - 0x80000000)
  | some 3 => some ((s.tile ((a - 0x10000000) / 0x100000)).byteAt (a % 0x100000))
  | some 4 => some (s.sramByte a)
  | some 6 =>
    if 0x40E00000 ≤ a ∧ a < 0x40E20000 then
      some (nth 0 (leBytes 4 (s.debugReg ((a - 0x40E00000) / 4 * 4)).toNat) (a % 4))
    else if 0x40F00000 ≤ a ∧ a < 0x40F10000 then
      some (if a < 0x40F09000 then nth 0 (leBytes 4 (s.hostReg ((a - 0x40F00000) / 4 * 4)).toNat) (a % 4) else 0)
    else none
  | some 7 => some (mapGet (fun _ => 0) s.host.netRam a)
  | _ => none
/-- `n` bytes from an address; a byte without a given layout is a free value. -/
def State.busRead (s : State) (a : Nat) : Nat → State × List Byte
  | 0 => (s, [])
  | n + 1 =>
    let (s, b) := match s.busByte a with
      | some b => (s, b)
      | none => let (w, s) := s.free; (s, w.setWidth 8)
    let (s, r) := s.busRead (a + 1) n
    (s, b :: r)

/-! ### Writing -/

/-- A write of a register of the host block (R450, R451). -/
def State.hostWrite (s : State) (o : Nat) (v : Word) : State :=
  if o < 0x1000 then
    if 0x10 ≤ o ∧ o < 0x20 then s.intAck ((o - 0x10) / 4) v
    else if 0x800 ≤ o ∧ o < 0x840 then s.msixWrite ((o - 0x800) / 4) v
    else s
  else
    let c := o / 0x1000 - 1
    match o % 0x1000 with
    | 0x00 => s.sqTail c v false
    | 0x08 => s.cqDb c v
    | 0x10 => s.evqDb c v
    | 0x1C => s.chanReset c v
    | _ => s
/-- A write of bytes to a tile's block. The DM of a tile that runs or waits in a gated quadrant is reached in window cycles
(R59). -/
def State.tileWrite (s : State) (n o : Nat) (l : List Byte) : State :=
  let t := s.tile n
  if o ≥ 0x80000 then
    let k := (o - 0x80000) / 16
    let w := leBytes 16 (mapGet (fun _ => 0) t.pm k).toNat
    let w := w.take (o % 16) ++ l ++ w.drop (o % 16 + l.length)
    s.setTile n { t with pm := mapSet (fun _ => 0) t.pm k (BitVec.ofNat 128 (ofLe w)) }
  else
    let run := decide (s.tileState n = tsRunning ∨ s.tileState n = tsGated)
    let part (j : Nat) : T3Acc :=
      if l.length < 4 then
        { write := true, addr := o / 4 + j, data := wd (ofLe (List.replicate (o % 4) 0 ++ l))
          bytes := BitVec.ofNat 4 ((2 ^ l.length - 1) * 2 ^ (o % 4)) }
      else { write := true, addr := o / 4 + j, data := wd (ofLe (slice l (4 * j) 4)) }
    let ws := (List.range ((l.length + 3) / 4)).map part
    if run then s.setTile n { t with t3q := t.t3q ++ ws }
    else s.setTile n (ws.foldl (fun (u : Tile) a => u.t3Write a) t)
/-- A write of bytes to DMEM (R229). -/
def State.dmemWrite (s : State) (a : Nat) (l : List Byte) : State :=
  let put (b : ImgBuf) (o : Nat) : ImgBuf := { b with bytes := mapSetFrom (fun _ => 0) b.bytes o l }
  if a < 0x1000000 then { s with img := { s.img with active := put s.img.active a } }
  else if a < 0x2000000 then { s with img := { s.img with pend := put s.img.pend (a - 0x1000000) } }
  else if 0xA000000 ≤ a ∧ a < 0x3A000000 then
    let o := a - 0xA000000
    let k0 := 262144 * (o / 0x100000) + o % 0x100000 / 4
    let word (j : Nat) : Word :=
      let w := leBytes 4 (mapGet (fun _ => 0) s.dmem.rings (k0 + j)).toNat
      wd (ofLe (if l.length < 4 then w.take (o % 4) ++ l ++ w.drop (o % 4 + l.length) else slice l (4 * j) 4))
    { s with dmem := { s.dmem with
        rings := mapSetFrom (fun _ => 0) s.dmem.rings k0 ((List.range ((l.length + 3) / 4)).map word) } }
  else { s with dmem := { s.dmem with raw := mapSetFrom (fun _ => none) s.dmem.raw a (l.map some) } }
/-- A write of one beat. -/
def State.busWrite (s : State) (a : Nat) (l : List Byte) : State :=
  match busTarget a with
  | some 2 => s.dmemWrite (a - 0x80000000) l
  | some 3 => s.tileWrite ((a - 0x10000000) / 0x100000) (a % 0x100000) l
  | some 4 => { s with host := { s.host with sram := mapSetFrom (fun _ => 0) s.host.sram a l } }
  | some 6 => if 0x40F00000 ≤ a ∧ a < 0x40F09000 then s.hostWrite (a - 0x40F00000) (wd (ofLe l)) else s
  | some 7 => { s with host := { s.host with netRam := mapSetFrom (fun _ => 0) s.host.netRam a l } }
  | _ => s

/-! ### Requests (R467–R472) -/

/-- A read of the DM of a tile that runs waits for a window cycle (R59). -/
def State.waitsForWindow (s : State) (a : Nat) : Bool :=
  let n := (a - 0x10000000) / 0x100000
  decide (busTarget a = some 3) && decide (a % 0x100000 < 0x80000) && decide (s.tileState n = tsRunning ∨ s.tileState n = tsGated)
/-- A granted request that meets no error: its beats in order. -/
def State.busBeats (s : State) (r : BusReq) : State :=
  (List.range r.beats).foldl (fun (t : State) i =>
    match busPlace r (busBeatAt r i) with
    | none => if r.write then t else { t with answer := { body := t.answer.body ++ List.replicate r.beat 0 } }
    | some a =>
      if r.write then t.busWrite a (slice r.data (i * r.beat) r.beat)
      else if t.waitsForWindow a then
        let n := (a - 0x10000000) / 0x100000
        let u := t.tile n
        t.setTile n { u with t3q := u.t3q ++ (List.range ((r.beat + 3) / 4)).map (fun j => ({ write := false, addr := a % 0x100000 / 4 + j } : T3Acc)) }
      else
        let (t, l) := t.busRead a r.beat
        { t with answer := { body := t.answer.body ++ l } }) { s with answer := {} }
/-- The lock of a request's target after it has been served (R470). -/
def State.lockAfter (s : State) (r : BusReq) (t : Nat) : State :=
  let h := s.host
  { s with host := { h with
      granted := mapSet (fun _ => 0) h.granted t (r.master.val + 1)
      locks := if r.lock > 1 then mapSet (fun _ => 0) h.locks t (r.master.val + 1)
        else if r.lock = 1 then mapSet (fun _ => 0) h.locks t 0 else h.locks } }
/-- A granted request: it is performed, or answered with an error that the log records and has no effect (R472). The answer's
STATUS is 16 + TYPE for an error; a read of the register block of a wrong size completes with 0xFFFF_FFFF (R450). -/
def State.busPerform (s : State) (r : BusReq) : State :=
  if r.bar ∧ !s.barOpen then s
  else
    let errs := (List.range (max 1 r.beats)).filterMap (fun i =>
      (busPlace r (busBeatAt r i)).bind (fun a => (s.busRefused r a).map (fun ty => (a, ty))))
    match errs with
    | (a, ty) :: _ =>
      let t := busTarget a
      let s := s.busError r.master (t.getD 0xF) ty r.write (wd a)
      let s := if r.lock ≠ 0 ∧ ty ≠ 3 ∧ ty ≠ 0 then (match t with | some k => s.lockAfter r k | none => s) else s
      let hostSize := decide (ty = 2) && r.bar && !r.write
      { s with answer := { status := 16 + ty, body := if hostSize then List.replicate (r.beat * r.beats) 0xFF else [] } }
    | [] =>
      let s := s.busBeats r
      let s := if busTargetOf r = some 2 then
          s.traffic (2 * ((List.range r.beats).map (fun i => busBeatAt r i / 64)).eraseDups.length) else s
      match busTargetOf r with | some k => s.lockAfter r k | none => s

/-- The effective priority of a request at a target (R468). -/
def State.busPrio (s : State) (r : BusReq) (t : Nat) : Nat :=
  if r.waited ≥ s.obn oidBusAgeLimit then 15 else fld (s.ob (oidBusPri r.master)) (4 * t + 3) (4 * t)
/-- The place in the pool of the request that a target's arbiter grants: the highest priority, then the round-robin order
after the master last granted; a locked target grants its holder only (R468, R470). Each master's requests keep their order. -/
def State.busPick (s : State) (l : List BusReq) (t : Nat) : Option Nat :=
  let lock := mapGet (fun _ => 0) s.host.locks t
  let last := mapGet (fun _ => 0) s.host.granted t
  let cand := (l.mapIdx (fun i r => (i, r))).filter (fun e =>
    decide (busTargetOf e.2 = some t) && (lock = 0 || decide (lock = e.2.master.val + 1)) &&
    (l.take e.1).all (fun q => !(decide (busTargetOf q = some t) && decide (q.master = e.2.master))))
  let better (x y : Nat × BusReq) : Bool :=
    let p := s.busPrio x.2 t
    let q := s.busPrio y.2 t
    decide (p > q) || (decide (p = q) && decide ((x.2.master.val + 10 - last) % 10 < (y.2.master.val + 10 - last) % 10))
  (cand.foldl (fun (a : Option (Nat × BusReq)) e => match a with | none => some e | some b => if better e b then some e else a) none).map (fun e => e.1)
/-- The first request without a target, in master order (R473). -/
def busStray (l : List BusReq) : Option Nat :=
  ((l.mapIdx (fun i r => (i, r))).foldl (fun (a : Option (Nat × BusReq)) e =>
    if (busTargetOf e.2).isSome then a
    else match a with | none => some e | some b => if e.2.master < b.2.master then some e else a) none).map (fun e => e.1)
/-- Requests are granted until only those remain that a lock keeps waiting; `l` is the pool. -/
def State.busServe (s : State) : Nat → List BusReq → State
  | 0, l => { s with host := { s.host with wait := l } }
  | f + 1, l =>
    match (match busStray l with | some i => some i | none => (List.range 8).findSome? (fun t => s.busPick l t)) with
    | none => { s with host := { s.host with wait := l } }
    | some i => match l[i]? with
      | none => { s with host := { s.host with wait := l } }
      | some r => (s.busPerform r).busServe f (l.eraseIdx i)

/-- BUS_ACCESS: requests of the masters arrive at the arbiters beside those that wait (R468–R472). -/
def execBusAccess (reqs : List BusReq) (s : State) : Out :=
  let l := s.host.wait ++ reqs
  .next ({ s with host := { s.host with wait := [] } }.busServe l.length l)
/-- LOCK_TIMEOUT: 64 HCLK after its first grant a locked sequence ends; the transfers that remain receive errors, and the lock
is released (R470, R472). -/
def execLockTimeout (master : Fin 10) (addr : Word) (write : Bool) (s : State) : Out :=
  .next (match busTarget addr.toNat with
    | none => s
    | some t =>
      if mapGet (fun _ => 0) s.host.locks t ≠ master.val + 1 then s
      else
        let h := s.host
        { s with host := { h with
            locks := mapSet (fun _ => 0) h.locks t 0
            wait := h.wait.filter (fun r => !(decide (r.master = master) && r.lock ≠ 0 && decide (busTargetOf r = some t))) } }.busError master t 4 write addr)
/-- TARGET_TIMEOUT: a target has not answered within 4,096 HCLK (R472). -/
def execTargetTimeout (master : Fin 10) (addr : Word) (write : Bool) (s : State) : Out :=
  .next (match busTarget addr.toNat with
    | none => s
    | some t => s.busError master t 1 write addr)

/-! ### The debug instructions (R465, R552) -/

/-- The word accesses of a debug instruction; one failed access fails them all. -/
def State.memAccess (s : State) (addr : Word) (n : Nat) (write : Bool) (data : List Byte) (ecc : Bool) : State × Bool × List Byte :=
  let req (i : Nat) : BusReq := { master := 9, addr := addr.toNat + 4 * i, bar := false, write := write, beat := 4, beats := 1, wrap := 0,
                                  data := slice data (4 * i) 4, lock := 0, waited := 0, ecc := ecc }
  let bad := (List.range (n / 4)).find? (fun i => (s.busRefused (req i) (req i).addr).isSome)
  match bad with
  | some i => (s.busPerform (req i), false, [])
  | none =>
    let e := (List.range (n / 4)).foldl (fun (a : State × List Byte) i =>
      let t := a.1.busPerform (req i)
      (t, a.2 ++ t.answer.body)) (s, [])
    (e.1, true, e.2)
/-- COUNT and ADDR have a legal form (R465). -/
def memOk (addr : Word) (n : Nat) : Bool := decide (4 ≤ n ∧ n ≤ 256 ∧ n % 4 = 0 ∧ addr.toNat % 4 = 0)
/-- MEM_READ: the status word, with bit 3 for a failed access, the bytes and their CRC (R465). Words of the DM of a running tile
are answered as the window serves them (R59). -/
def execMemRead (crc : Bool) (addr : Word) (count : Nat) (ecc : Bool) (s : State) : Out :=
  .next (
    if !s.serviceOn ∨ !memOk addr count ∨ !crc then s
    else
      let st := s.spiStatus 2
      let (t, ok, l) := s.memAccess addr count false [] ecc
      if ok ∧ l.length < count then { t with answer := {} }
      else t.spiSend (leBytes 4 (if ok then st else setBit st 3 true).toNat ++ (if ok then l else List.replicate count 0)))
/-- MEM_WRITE (R465). -/
def execMemWrite (crc : Bool) (addr : Word) (data : List Byte) (ecc : Bool) (s : State) : Out :=
  .next (
    if !s.serviceOn ∨ !memOk addr data.length ∨ !crc then s
    else
      let (t, _, _) := s.memAccess addr data.length true data ecc
      { t with answer := {} })

end Sys2Proof.Machine
end

