-- ==== Sys2Proof/Machine/MacOps.lean ====
section
/-!
DEFINITION. The MAC slot and the accumulator store (R43–R52, R92–R95).
-/

namespace Sys2Proof.Machine

/-- A MAC slot operation on accumulator `i`: `f l` gives lane `l`'s new value from its old one. A further operation on
Ai sees it in the next ecyc, stores and other accumulators from t + 4 (R45, R73). -/
def Tile.accOp (t : Tile) (p : Pred) (i : Nat) (f : Nat → AccVal → AccVal) : Tile :=
  let m := t.mask p
  let vals := lanes (fun l => f l (t.ac i l))
  (t.setA i m vals).launch (t.cyc + 4) 0 (.acc i m vals)

/-- MAC: Ai ← Ai + aligned(Dx × Dy) (R45, R46, R92). -/
def execMac (p : Slot) (a : Fin 4) (x y : Fin 32) (fx fy : Fin 4) (s : State) : Out :=
  .next (s.slotTile p .mac (fun t => t.accOp p.pred a (fun l v =>
    accResult v (v.v.toInt + alignedProduct (t.dr x l) (t.dr y l) fx fy))))

/-- MSU: Ai ← Ai − aligned(Dx × Dy) (R45, R46, R92). -/
def execMsu (p : Slot) (a : Fin 4) (x y : Fin 32) (fx fy : Fin 4) (s : State) : Out :=
  .next (s.slotTile p .mac (fun t => t.accOp p.pred a (fun l v =>
    accResult v (v.v.toInt - alignedProduct (t.dr x l) (t.dr y l) fx fy))))

/-- MPY: Ai ← aligned(Dx × Dy); AOV and OSGN cleared (R45, R92). -/
def execMpy (p : Slot) (a : Fin 4) (x y : Fin 32) (fx fy : Fin 4) (s : State) : Out :=
  .next (s.slotTile p .mac (fun t => t.accOp p.pred a (fun l _ =>
    accLoad (alignedProduct (t.dr x l) (t.dr y l) fx fy))))

/-- ACCLD: Ai ← Dx aligned from its format; AOV and OSGN cleared (R45, R92). -/
def execAccld (p : Slot) (a : Fin 4) (x : Fin 32) (fx : Fin 4) (s : State) : Out :=
  .next (s.slotTile p .mac (fun t => t.accOp p.pred a (fun l _ => accLoad (alignedLoad (t.dr x l) fx))))

/-- ACCCLR: Ai ← 0; AOV and OSGN cleared (R45, R92). -/
def execAccclr (p : Slot) (a : Fin 4) (s : State) : Out :=
  .next (s.slotTile p .mac (fun t => t.accOp p.pred a (fun _ _ => accLoad 0)))

/-- ACCSHF: Ai ← Ai shifted by k, left for positive k, right toward −∞ for negative (R45, R93, R109). -/
def execAccshf (p : Slot) (a : Fin 4) (k : BitVec 6) (s : State) : Out :=
  .next (s.slotTile p .mac (fun t => t.accOp p.pred a (fun _ v => accResult v (accShift v.v.toInt k.toInt))))

/-- ACCADD: Ai ← Ai + Aj; Aj is the chain's own value when j = i, else the value seen since t + 4 (R45, R73, R93). -/
def execAccadd (p : Slot) (a j : Fin 4) (s : State) : Out :=
  .next (s.slotTile p .mac (fun t => t.accOp p.pred a (fun l v =>
    accResult v (v.v.toInt + (if j = a then v else t.acSeen j l).v.toInt))))

/-- The position within the grain of the store at a PM address: how many times it has issued in this grain (R52). -/
def Tile.stPos (t : Tile) (pm : Nat) : Nat := mapGet (fun _ => 0) t.stCount pm

/-- The overflow mute of one lane of the store at `pm` (R52): what the store writes in place of `v`, and the mute
after it. `hit` says that the store met AOV in a declared lane; `g` is G, `j` the grain position. -/
def muteStep (m : OvfMute) (hit : Bool) (g j : Nat) (v : Word) : Word × OvfMute :=
  let m := if hit then { phase := 1, p := j, k := 0 } else m
  if m.phase = 1 then (wdI (rneDiv (v.toInt * (g - 1 - j : Nat)) (g - m.p : Nat)), m)
  else if m.phase = 2 then
    (wdI (rneDiv (v.toInt * (m.k + 1 : Nat)) 32), if m.k ≥ 31 then {} else { m with k := m.k + 1 })
  else (v, m)

/-- The tagged values of the lanes of a mask contribute to BEXP at t + 3 (R66, R67). -/
def Tile.tagged (t : Tile) (m : Byte) (vals : List Word) : Tile :=
  if m = 0 then t else
  let v := (List.range 8).foldl (fun b l => if m.getLsbD l then min b (leadSign (nth 0 vals l)) else b) 31
  t.launch (t.cyc + 3) 0 (.bexp v)

/-- A guard overflow of the word at PM address `pm` in the lanes of a mask (R49, R51, R530 class 1). -/
def State.guardOverflow (s : State) (tile pm : Nat) (m : Byte) : State :=
  let s := s.sticky (oidTileSticky tile) 0 (oidGuardOvfCnt tile)
  if (s.tile tile).ovfLogged then s else
  let s := s.setTile tile { s.tile tile with ovfLogged := true }
  let s := s.putn (oidOvfPmAddr tile) pm
  let s := s.put (oidOvfInstar tile) (s.ob oidInstar)
  let s := s.putn (oidOvfLanes tile) m.toNat
  let s := s.noteFault 1 (tile * 2 ^ 21 + m.toNat * 2 ^ 13 + pm)
  s.raise 1 0 [(1, tile)]

/-- ST: Dd ← Ai in format f, rounded and saturated; SAT, the guard overflow and the overflow mute (R47–R52, R94). A
reserved rounding mode has no effect (R109). -/
def execSt (p : Slot) (d : Fin 32) (a f rm : Fin 4) (tag : Bool) (s : State) : Out :=
  .next (s.slotOp p .store (fun t u =>
    if rm = 3 then u else
    let pm := t.ip
    let m := t.mask p.pred
    let declared := u.img.active.muteLanes (u.workOf p.tile) pm
    let raw := lanes (fun l => storeValue (t.acSeen a l) f rm)
    let muted := lanes (fun l =>
      let old := mapGet (fun _ => {}) t.mutes (8 * pm + l)
      if declared.getLsbD l
      then muteStep old (t.acSeen a l).aov u.gsize (t.stPos pm) (nth (0, false) raw l).1
      else ((nth (0, false) raw l).1, old))
    let vals := muted.map (·.1)
    let t := t.launch (t.cyc + 2) prStore (.reg d m vals)
    let t := { t with
      stCount := mapSet (fun _ => 0) t.stCount pm (t.stPos pm + 1)
      mutes := forUpTo 8 (fun l q =>
        if m.getLsbD l then mapSet (fun _ => {}) q (8 * pm + l) (nth (0, {}) muted l).2 else q) t.mutes }
    let t := if tag then t.tagged m vals else t
    let sat := laneMask (fun l => m.getLsbD l && (nth (0, false) raw l).2)
    let ovf := laneMask (fun l => m.getLsbD l && (t.acSeen a l).aov)
    let u := (u.setTile p.tile t).satLanes p.tile sat
    if ovf = 0 then u else u.guardOverflow p.tile pm ovf))

/-- RST: Dd ← the residue of a store of the same format and mode; no SAT, no overflow (R50, R94, R95). -/
def execRst (p : Slot) (d : Fin 32) (a f rm : Fin 4) (tag : Bool) (s : State) : Out :=
  .next (s.slotTile p .store (fun t =>
    if rm = 3 then t else
    let m := t.mask p.pred
    let vals := lanes (fun l => residueValue (t.acSeen a l) f rm)
    let t := t.launch (t.cyc + 2) prStore (.reg d m vals)
    if tag then t.tagged m vals else t))

end Sys2Proof.Machine
end

