-- ==== Sys2Proof/Machine/MemOps.lean ====
section
/-!
DEFINITION. The memory slots, the pointer updates, the tile crossbar and the loops of a tile (R55–R64, R71, R72,
R102–R106).
-/

namespace Sys2Proof.Machine

/-- How many lanes a mask names. -/
def laneCount (m : Byte) : Nat := (List.range 8).foldl (fun n l => if m.getLsbD l then n + 1 else n) 0

/-- What the check bits of a DM read report is counted, lane by lane (R60). -/
def State.readEcc (s : State) (tile addr : Nat) (ce ue : Byte) : State :=
  (s.eccCe tile (laneCount ce) false).eccUe tile (laneCount ue) false addr

/-- Lane `l` of a DM word as a read delivers it: an uncorrectable word as the array gives it (R60). -/
def Tile.dmRead (t : Tile) (a : Nat) (e : Ecc) (l : Nat) : Word :=
  if e.ue.getLsbD l then nth (t.dmw a l) e.raw l else t.dmw a l

/-- RD: Dd ← DM[address], lane by lane, seen at t + 3 (R56, R57, R60, R102). `mem1` says which memory slot reads. -/
def execRd (p : Slot) (mem1 : Bool) (set : Fin 16) (d : Fin 32) (ecc : Ecc) (s : State) : Out :=
  .next (s.slotOp p (if mem1 then .mem1 else .mem0) (fun t u =>
    let a := (t.as' set).addr
    let m := t.mask p.pred
    (u.setTile p.tile (t.launch (t.cyc + 3) (if mem1 then prMem1 else prMem0)
      (.reg d m (lanes (t.dmRead a ecc))))).readEcc p.tile a (ecc.ce &&& m) (ecc.ue &&& m)))

/-- RDB: every lane's Dd ← one lane of DM[address], seen at t + 3 (R56, R57, R60, R102). -/
def execRdb (p : Slot) (lane : Fin 8) (set : Fin 16) (d : Fin 32) (ecc : Ecc) (s : State) : Out :=
  .next (s.slotOp p .mem0 (fun t u =>
    let a := (t.as' set).addr
    let m := t.mask p.pred
    let one : Byte := if m = 0 then 0 else BitVec.ofNat 8 (2 ^ lane.val)
    (u.setTile p.tile (t.launch (t.cyc + 3) prMem0
      (.reg d m (lanes (fun _ => t.dmRead a ecc lane))))).readEcc p.tile a (ecc.ce &&& one) (ecc.ue &&& one)))

/-- A write of a register to DM, seen by a read issued at t + 1 (R56, R57). -/
def Tile.memWrite (t : Tile) (p : Pred) (set : Nat) (d : Nat) : Tile :=
  t.launch (t.cyc + 1) 0 (.mem (t.as' set).addr (t.mask p) (lanes (t.dr d)))

/-- WR: DM[address] ← Dd in the lanes where the slot takes effect (R56, R102). -/
def execWr (p : Slot) (set : Fin 16) (d : Fin 32) (s : State) : Out :=
  .next (s.slotTile p .mem1 (fun t => t.memWrite p.pred set d))

/-- WRT: as WR, and the written value contributes to BEXP (R66, R102). -/
def execWrt (p : Slot) (set : Fin 16) (d : Fin 32) (s : State) : Out :=
  .next (s.slotTile p .mem1 (fun t =>
    let m := t.mask p.pred
    let u := t.memWrite p.pred set d
    if m = 0 then u else
    let v := (List.range 8).foldl (fun b l => if m.getLsbD l then min b (leadSign (t.dr d l)) else b) 31
    u.launch (t.cyc + 3) 0 (.bexp v)))

/-- A pointer update by `inc` in the set's mode, seen one ecyc later; of two updates of one set in one word the higher
AGU number is applied (R62–R64, R103). The increment applies to the pointer that the word began with. -/
def Tile.agu (t : Tile) (unit set : Nat) (inc : Int) : Tile :=
  t.launch (t.cyc + 1) unit (.ptr set ((t.as' set).advance inc))

/-- PTR advanced by +STEP (R62, R63, R103). -/
def execAguPlusStep (p : Slot) (unit : Fin 4) (set : Fin 16) (s : State) : Out :=
  .next (s.slotTile p (.agu unit) (fun t => t.agu unit set (t.as' set).step))

/-- PTR advanced by −STEP (R62, R63, R103). -/
def execAguMinusStep (p : Slot) (unit : Fin 4) (set : Fin 16) (s : State) : Out :=
  .next (s.slotTile p (.agu unit) (fun t => t.agu unit set (-(t.as' set).step)))

/-- PTR advanced by a signed immediate, −8 to +7 (R62, R63, R103). -/
def execAguImmediate (p : Slot) (unit : Fin 4) (set : Fin 16) (imm : BitVec 4) (s : State) : Out :=
  .next (s.slotTile p (.agu unit) (fun t => t.agu unit set imm.toInt))

/-- A send on the tile crossbar: the register as read in the issue cycle, never predicated (R62, R71, R104). -/
def execTxbSend (p : Slot) (ch : Fin 2) (d : Fin 32) (s : State) : Out :=
  .next (s.slotTile p (.send ch) (fun t => { t with sends := t.sends ++ [⟨t.cyc, ch, lanes (t.dr d)⟩] }))

/-- The word that arrives at a receive channel in a cycle: four ecyc after the owner's send in the same quadrant, six
in another; zero where no source owns the channel (R71, R72). The owner is the tile that carries the named work. -/
def State.arrival (s : State) (phys cyc ch : Nat) : List Word :=
  match s.img.active.txbOwner (s.workOf phys) cyc ch with
  | none => lanes (fun _ => 0)
  | some (src, sch) =>
    let q := s.carrierOf src
    let lat := if quadOf q = quadOf phys then 4 else 6
    match (s.tile q).sends.find? (fun x => x.cyc + lat = cyc && x.ch = sch) with
    | none => lanes (fun _ => 0)
    | some x => if s.tileState q = tsRunning then x.vals else lanes (fun _ => 0)

/-- A receive field: Dd ← the arriving word where the predicate takes effect, seen at t + 1. A lane whose parity fails
receives zero, sets TXB_ERR, counts and fails the grain (R71, R72, R83). -/
def execTxbReceive (p : Slot) (ch : Fin 2) (d : Fin 32) (perr : Byte) (s : State) : Out :=
  .next (s.slotOp p (.recv ch) (fun t u =>
    let m := t.mask p.pred
    let w := u.arrival p.tile t.cyc ch
    let vals := lanes (fun l => if perr.getLsbD l then 0 else nth 0 w l)
    let u := u.setTile p.tile (t.launch (t.cyc + 1) (if ch = 1 then prRecv1 else prRecv0) (.reg d m vals))
    let bad := perr &&& m
    if bad = 0 then u else
    let u := forUpTo (laneCount bad) (fun _ v => v.sticky (oidTileSticky p.tile) 5 (oidTxbErrCnt p.tile)) u
    (u.raise 1 3 [(1, p.tile)]).failure p.tile 4 (bad.toNat * 2 ^ 13 + ch)))

/-- The nesting that R106 asks of a LOOP of level `v` at IP ending at `last`: this level and every higher one inactive,
and inside the active loop of the level below, not beyond its END. -/
def Tile.nests (t : Tile) (v last : Nat) : Bool :=
  (List.range 4).all (fun k => k < v || (t.loop k).left = 0) &&
  (v = 0 ||
    ((t.loop (v - 1)).left ≠ 0 && (t.loop (v - 1)).first ≤ t.ip && t.ip ≤ (t.loop (v - 1)).last &&
      last ≤ (t.loop (v - 1)).last))

/-- LOOP: a loop of level `level` from the next word to END, `count` passes; without effect where R109 says so
(R105, R106, R109). -/
def execLoop (p : Slot) (level : Fin 4) (count : BitVec 16) (last : BitVec 13) (s : State) : Out :=
  .next (s.slotOp p .loop (fun t u =>
    if count = 0 ∨ last.toNat ≤ t.ip ∨ u.img.active.progLen (u.workOf p.tile) ≤ last.toNat
      ∨ !t.nests level last.toNat
    then u
    else u.setTile p.tile (t.setLoop level ⟨t.ip + 1, last.toNat, count.toNat⟩)))

end Sys2Proof.Machine
end

