-- ==== Sys2Proof/Machine/Dispatch.lean ====
section
/-!
DEFINITION. One arm for each command: a direct call of its meaning, or a rejection by name.
-/

namespace Sys2Proof.Machine

def exec (i : Instr) (s : State) : Host.Outcome State Fault Refusal :=
  match i with
  | .grainBoundary pm ex dl reports => Sys2Proof.Machine.execGrainBoundary pm ex dl reports s
  | .sampleBoundary dom clk bits reports => Sys2Proof.Machine.execSampleBoundary dom clk bits reports s
  | .mac at' a x y fx fy => Sys2Proof.Machine.execMac at' a x y fx fy s
  | .msu at' a x y fx fy => Sys2Proof.Machine.execMsu at' a x y fx fy s
  | .mpy at' a x y fx fy => Sys2Proof.Machine.execMpy at' a x y fx fy s
  | .accld at' a x fx => Sys2Proof.Machine.execAccld at' a x fx s
  | .accclr at' a => Sys2Proof.Machine.execAccclr at' a s
  | .accshf at' a k => Sys2Proof.Machine.execAccshf at' a k s
  | .accadd at' a j => Sys2Proof.Machine.execAccadd at' a j s
  | .st at' d a f rm tag => Sys2Proof.Machine.execSt at' d a f rm tag s
  | .rst at' d a f rm tag => Sys2Proof.Machine.execRst at' d a f rm tag s
  | .mov at' d a => Sys2Proof.Machine.execMov at' d a s
  | .add at' d a b => Sys2Proof.Machine.execAdd at' d a b s
  | .sub at' d a b => Sys2Proof.Machine.execSub at' d a b s
  | .adds at' d a b => Sys2Proof.Machine.execAdds at' d a b s
  | .subs at' d a b => Sys2Proof.Machine.execSubs at' d a b s
  | .negs at' d a => Sys2Proof.Machine.execNegs at' d a s
  | .abss at' d a => Sys2Proof.Machine.execAbss at' d a s
  | .min at' d a b => Sys2Proof.Machine.execMin at' d a b s
  | .max at' d a b => Sys2Proof.Machine.execMax at' d a b s
  | .and at' d a b => Sys2Proof.Machine.execAnd at' d a b s
  | .or at' d a b => Sys2Proof.Machine.execOr at' d a b s
  | .xor at' d a b => Sys2Proof.Machine.execXor at' d a b s
  | .not at' d a => Sys2Proof.Machine.execNot at' d a s
  | .ldil at' d imm => Sys2Proof.Machine.execLdil at' d imm s
  | .ldih at' d imm => Sys2Proof.Machine.execLdih at' d imm s
  | .shl at' d a n => Sys2Proof.Machine.execShl at' d a n s
  | .shls at' d a n => Sys2Proof.Machine.execShls at' d a n s
  | .shr at' d a n => Sys2Proof.Machine.execShr at' d a n s
  | .asr at' d a n => Sys2Proof.Machine.execAsr at' d a n s
  | .asrn at' d a n => Sys2Proof.Machine.execAsrn at' d a n s
  | .lsc at' d a => Sys2Proof.Machine.execLsc at' d a s
  | .bexprd at' d => Sys2Proof.Machine.execBexprd at' d s
  | .ashv at' d a b => Sys2Proof.Machine.execAshv at' d a b s
  | .shlv at' d a b => Sys2Proof.Machine.execShlv at' d a b s
  | .shlsv at' d a b => Sys2Proof.Machine.execShlsv at' d a b s
  | .shrv at' d a b => Sys2Proof.Machine.execShrv at' d a b s
  | .asrv at' d a b => Sys2Proof.Machine.execAsrv at' d a b s
  | .asrnv at' d a b => Sys2Proof.Machine.execAsrnv at' d a b s
  | .cmp at' c a b kt => Sys2Proof.Machine.execCmp at' c a b kt s
  | .csel at' c d a b kt => Sys2Proof.Machine.execCsel at' c d a b kt s
  | .kand at' ka kb kt => Sys2Proof.Machine.execKand at' ka kb kt s
  | .kor at' ka kb kt => Sys2Proof.Machine.execKor at' ka kb kt s
  | .kxor at' ka kb kt => Sys2Proof.Machine.execKxor at' ka kb kt s
  | .knot at' ka kt => Sys2Proof.Machine.execKnot at' ka kt s
  | .kset at' v kt => Sys2Proof.Machine.execKset at' v kt s
  | .kbit at' a n kt => Sys2Proof.Machine.execKbit at' a n kt s
  | .rd at' mem1 set d ecc => Sys2Proof.Machine.execRd at' mem1 set d ecc s
  | .rdb at' lane set d ecc => Sys2Proof.Machine.execRdb at' lane set d ecc s
  | .wr at' set d => Sys2Proof.Machine.execWr at' set d s
  | .wrt at' set d => Sys2Proof.Machine.execWrt at' set d s
  | .aguPlusStep at' unit set => Sys2Proof.Machine.execAguPlusStep at' unit set s
  | .aguMinusStep at' unit set => Sys2Proof.Machine.execAguMinusStep at' unit set s
  | .aguImmediate at' unit set imm => Sys2Proof.Machine.execAguImmediate at' unit set imm s
  | .txbSend at' ch d => Sys2Proof.Machine.execTxbSend at' ch d s
  | .txbReceive at' ch d perr => Sys2Proof.Machine.execTxbReceive at' ch d perr s
  | .loop at' level count last => Sys2Proof.Machine.execLoop at' level count last s
  | .checkpointCycle tile adv => Sys2Proof.Machine.execCheckpointCycle tile adv s
  | .t3WindowService tile adv => Sys2Proof.Machine.execT3WindowService tile adv s
  | .asGeomWrite acc tile set v => Sys2Proof.Machine.execAsGeomWrite acc tile set v s
  | .asStepmodWrite acc tile set v => Sys2Proof.Machine.execAsStepmodWrite acc tile set v s
  | .imgWrOffsetWrite acc v => Sys2Proof.Machine.execImgWrOffsetWrite acc v s
  | .imgWrDataWrite acc v => Sys2Proof.Machine.execImgWrDataWrite acc v s
  | .verify acc => Sys2Proof.Machine.execVerify acc s
  | .imgVerifyDone unread => Sys2Proof.Machine.execImgVerifyDone unread s
  | .activate acc partial' atTime => Sys2Proof.Machine.execActivate acc partial' atTime s
  | .discard acc => Sys2Proof.Machine.execDiscard acc s
  | .loadNor acc slot => Sys2Proof.Machine.execLoadNor acc slot s
  | .storeNor acc slot boot => Sys2Proof.Machine.execStoreNor acc slot boot s
  | .cancel acc => Sys2Proof.Machine.execCancel acc s
  | .imgActivationBegin => Sys2Proof.Machine.execImgActivationBegin s
  | .imgTilesStop => Sys2Proof.Machine.execImgTilesStop s
  | .imgLoadDone ue => Sys2Proof.Machine.execImgLoadDone ue s
  | .imgTilesStart => Sys2Proof.Machine.execImgTilesStart s
  | .imgAutoActivate => Sys2Proof.Machine.execImgAutoActivate s
  | .spareLoadDone tile err => Sys2Proof.Machine.execSpareLoadDone tile err s
  | .spareStart tile => Sys2Proof.Machine.execSpareStart tile s
  | .tileReloadDone tile err => Sys2Proof.Machine.execTileReloadDone tile err s
  | .tileRestart tile => Sys2Proof.Machine.execTileRestart tile s
  | .domRateAWrite acc v => Sys2Proof.Machine.execDomRateAWrite acc v s
  | .engineStop => Sys2Proof.Machine.execEngineStop s
  | .engineRestart => Sys2Proof.Machine.execEngineRestart s
  | .domRateBcWrite acc c v => Sys2Proof.Machine.execDomRateBcWrite acc c v s
  | .domainAssignWrite acc kind n v => Sys2Proof.Machine.execDomainAssignWrite acc kind n v s
  | .patchXfEnd sink => Sys2Proof.Machine.execPatchXfEnd sink s
  | .patchDeferredStart sink => Sys2Proof.Machine.execPatchDeferredStart sink s
  | .patchStatusWrite acc sink v => Sys2Proof.Machine.execPatchStatusWrite acc sink v s
  | .silHoldExpire tic reports => Sys2Proof.Machine.execSilHoldExpire tic reports s
  | .writeStage h flags expect entries => Sys2Proof.Machine.execWriteStage h flags expect entries s
  | .commit h mode scope flags ramp expect => Sys2Proof.Machine.execCommit h mode scope flags ramp expect s
  | .moultLatch late => Sys2Proof.Machine.execMoultLatch late s
  | .foldComplete => Sys2Proof.Machine.execFoldComplete s
  | .moultBoundary => Sys2Proof.Machine.execMoultBoundary s
  | .moultSettle => Sys2Proof.Machine.execMoultSettle s
  | .withdraw acc => Sys2Proof.Machine.execWithdraw acc s
  | .withdrawAll acc => Sys2Proof.Machine.execWithdrawAll acc s
  | .moultCancel acc => Sys2Proof.Machine.execMoultCancel acc s
  | .sceneGoEdge rising held => Sys2Proof.Machine.execSceneGoEdge rising held s
  | .psScrub oid err => Sys2Proof.Machine.execPsScrub oid err s
  | .dmemScrub addr ue set => Sys2Proof.Machine.execDmemScrub addr ue set s
  | .sramScrub net ue lane tc idx => Sys2Proof.Machine.execSramScrub net ue lane tc idx s
  | .dlXfEnd owner => Sys2Proof.Machine.execDlXfEnd owner s
  | .publish h kind index => Sys2Proof.Machine.execPublish h kind index s
  | .publishPrepared kind index => Sys2Proof.Machine.execPublishPrepared kind index s
  | .revert acc kind index => Sys2Proof.Machine.execRevert acc kind index s
  | .bulkCopyDone kind index => Sys2Proof.Machine.execBulkCopyDone kind index s
  | .firSliceComplete out => Sys2Proof.Machine.execFirSliceComplete out s
  | .firXfEnd out => Sys2Proof.Machine.execFirXfEnd out s
  | .brgGrpCfgWrite acc g v => Sys2Proof.Machine.execBrgGrpCfgWrite acc g v s
  | .brgFarWrite acc c v => Sys2Proof.Machine.execBrgFarWrite acc c v s
  | .brgLock g => Sys2Proof.Machine.execBrgLock g s
  | .brgAcqTimeout g => Sys2Proof.Machine.execBrgAcqTimeout g s
  | .brgRatioOut g => Sys2Proof.Machine.execBrgRatioOut g s
  | .brgPositionSlip g => Sys2Proof.Machine.execBrgPositionSlip g s
  | .brgRecentred g => Sys2Proof.Machine.execBrgRecentred g s
  | .modCfgWrite acc n v => Sys2Proof.Machine.execModCfgWrite acc n v s
  | .modclkCfgWrite acc k v => Sys2Proof.Machine.execModclkCfgWrite acc k v s
  | .acCfgWrite acc a v => Sys2Proof.Machine.execAcCfgWrite acc a v s
  | .decSyncPin rising held => Sys2Proof.Machine.execDecSyncPin rising held s
  | .decSyncCmd acc v => Sys2Proof.Machine.execDecSyncCmd acc v s
  | .syncResetApply dom => Sys2Proof.Machine.execSyncResetApply dom s
  | .modReentry n => Sys2Proof.Machine.execModReentry n s
  | .meterWindowEnd k gr => Sys2Proof.Machine.execMeterWindowEnd k gr s
  | .pd5Ready => Sys2Proof.Machine.execPd5Ready s
  | .start acc p => Sys2Proof.Machine.execStart acc p s
  | .stop acc p => Sys2Proof.Machine.execStop acc p s
  | .restart acc p => Sys2Proof.Machine.execRestart acc p s
  | .portFrameWrite acc p v => Sys2Proof.Machine.execPortFrameWrite acc p v s
  | .portTxShareWrite acc p v => Sys2Proof.Machine.execPortTxShareWrite acc p v s
  | .tdmFrame p f => Sys2Proof.Machine.execTdmFrame p f s
  | .portLock p => Sys2Proof.Machine.execPortLock p s
  | .portClockLoss p => Sys2Proof.Machine.execPortClockLoss p s
  | .portZcTimeout p => Sys2Proof.Machine.execPortZcTimeout p s
  | .portSubstEnd p => Sys2Proof.Machine.execPortSubstEnd p s
  | .alignGroupEnter g => Sys2Proof.Machine.execAlignGroupEnter g s
  | .shareHandover p => Sys2Proof.Machine.execShareHandover p s
  | .refCfgWrite acc r v => Sys2Proof.Machine.execRefCfgWrite acc r v s
  | .refLimitsWrite acc r v => Sys2Proof.Machine.execRefLimitsWrite acc r v s
  | .refLos r => Sys2Proof.Machine.execRefLos r s
  | .refSignalPresent r => Sys2Proof.Machine.execRefSignalPresent r s
  | .refMonitorUpdate r meas => Sys2Proof.Machine.execRefMonitorUpdate r meas s
  | .refQualify r => Sys2Proof.Machine.execRefQualify r s
  | .esmcPdu lane ssm enh => Sys2Proof.Machine.execEsmcPdu lane ssm enh s
  | .ssmTimeout lane => Sys2Proof.Machine.execSsmTimeout lane s
  | .refWtrExpire d => Sys2Proof.Machine.execRefWtrExpire d s
  | .dpllModeWrite acc d v => Sys2Proof.Machine.execDpllModeWrite acc d v s
  | .dpllManualRefWrite acc d v => Sys2Proof.Machine.execDpllManualRefWrite acc d v s
  | .dpllDcoWrite acc d v => Sys2Proof.Machine.execDpllDcoWrite acc d v s
  | .dpllTrackBwWrite acc d v => Sys2Proof.Machine.execDpllTrackBwWrite acc d v s
  | .dpllBuildoutDone d off => Sys2Proof.Machine.execDpllBuildoutDone d off s
  | .dpllStageAdvance d => Sys2Proof.Machine.execDpllStageAdvance d s
  | .dpllAcqTimeout d => Sys2Proof.Machine.execDpllAcqTimeout d s
  | .dpllLockLoss d => Sys2Proof.Machine.execDpllLockLoss d s
  | .dpllBuildoutRemoved d => Sys2Proof.Machine.execDpllBuildoutRemoved d s
  | .ogPullDone g => Sys2Proof.Machine.execOgPullDone g s
  | .ogCfgWrite acc g v => Sys2Proof.Machine.execOgCfgWrite acc g v s
  | .mclkCfgWrite acc k v => Sys2Proof.Machine.execMclkCfgWrite acc k v s
  | .xoLost => Sys2Proof.Machine.execXoLost s
  | .xoRestored => Sys2Proof.Machine.execXoRestored s
  | .timeClockTick => Sys2Proof.Machine.execTimeClockTick s
  | .set acc => Sys2Proof.Machine.execSet acc s
  | .adjust acc => Sys2Proof.Machine.execAdjust acc s
  | .servoCfgWrite acc v => Sys2Proof.Machine.execServoCfgWrite acc v s
  | .servoSample => Sys2Proof.Machine.execServoSample s
  | .servoSampleTimeout => Sys2Proof.Machine.execServoSampleTimeout s
  | .ptpMessageRx lane m ts => Sys2Proof.Machine.execPtpMessageRx lane m ts s
  | .ptpMessageTx lane kind seq ts => Sys2Proof.Machine.execPtpMessageTx lane kind seq ts s
  | .announceTimeout ports => Sys2Proof.Machine.execAnnounceTimeout ports s
  | .ptpParentChange parent quality utc ports => Sys2Proof.Machine.execPtpParentChange parent quality utc ports s
  | .taCfgWrite acc e v => Sys2Proof.Machine.execTaCfgWrite acc e v s
  | .timeActionFire e => Sys2Proof.Machine.execTimeActionFire e s
  | .gpioPulseEnd e => Sys2Proof.Machine.execGpioPulseEnd e s
  | .capCfgWrite acc c v => Sys2Proof.Machine.execCapCfgWrite acc c v s
  | .captureEdge src rising ns => Sys2Proof.Machine.execCaptureEdge src rising ns s
  | .laneCfgWrite acc lane v => Sys2Proof.Machine.execLaneCfgWrite acc lane v s
  | .laneLinkUp lane => Sys2Proof.Machine.execLaneLinkUp lane s
  | .laneLinkDown lane => Sys2Proof.Machine.execLaneLinkDown lane s
  | .bridgeModeWrite acc v => Sys2Proof.Machine.execBridgeModeWrite acc v s
  | .frameReceive lane fcs bytes bufs recent => Sys2Proof.Machine.execFrameReceive lane fcs bytes bufs recent s
  | .frameTransmit lane => Sys2Proof.Machine.execFrameTransmit lane s
  | .fdbAgeing => Sys2Proof.Machine.execFdbAgeing s
  | .configChange acc p => Sys2Proof.Machine.execConfigChange acc p s
  | .gclChange p => Sys2Proof.Machine.execGclChange p s
  | .gclEntryAdvance p => Sys2Proof.Machine.execGclEntryAdvance p s
  | .pauseRx lane pfc enable times => Sys2Proof.Machine.execPauseRx lane pfc enable times s
  | .pauseExpire lane tc => Sys2Proof.Machine.execPauseExpire lane tc s
  | .pauseTxSend lane tc => Sys2Proof.Machine.execPauseTxSend lane tc s
  | .netRxCfgWrite acc n v => Sys2Proof.Machine.execNetRxCfgWrite acc n v s
  | .netTxCfgWrite acc n v => Sys2Proof.Machine.execNetTxCfgWrite acc n v s
  | .mediaTxPacket n => Sys2Proof.Machine.execMediaTxPacket n s
  | .mediaRxPacket lane pkt => Sys2Proof.Machine.execMediaRxPacket lane pkt s
  | .netRxTimeout n => Sys2Proof.Machine.execNetRxTimeout n s
  | .openSession h mode credit timeout req recent => Sys2Proof.Machine.execOpenSession h mode credit timeout req recent s
  | .closeSession h => Sys2Proof.Machine.execCloseSession h s
  | .keepalive h => Sys2Proof.Machine.execKeepalive h s
  | .read h view oids => Sys2Proof.Machine.execRead h view oids s
  | .write h entries => Sys2Proof.Machine.execWrite h entries s
  | .registerWrite acc oid v => Sys2Proof.Machine.execRegisterWrite acc oid v s
  | .readBlock h oid count view => Sys2Proof.Machine.execReadBlock h oid count view s
  | .writeBlock h oid words => Sys2Proof.Machine.execWriteBlock h oid words s
  | .describe h oid index => Sys2Proof.Machine.execDescribe h oid index s
  | .subscribe h mask op => Sys2Proof.Machine.execSubscribe h mask op s
  | .syncSummary h => Sys2Proof.Machine.execSyncSummary h s
  | .summaryCapture => Sys2Proof.Machine.execSummaryCapture s
  | .frameTx h lane last offset data => Sys2Proof.Machine.execFrameTx h lane last offset data s
  | .sessionTimeout session => Sys2Proof.Machine.execSessionTimeout session s
  | .sessionCloseComplete session => Sys2Proof.Machine.execSessionCloseComplete session s
  | .eventFrameSend session => Sys2Proof.Machine.execEventFrameSend session s
  | .eventResend session => Sys2Proof.Machine.execEventResend session s
  | .fcpPcEnableWrite acc v => Sys2Proof.Machine.execFcpPcEnableWrite acc v s
  | .mgmtSaturationDetect wait => Sys2Proof.Machine.execMgmtSaturationDetect wait s
  | .sqTailWrite c v recent => Sys2Proof.Machine.execSqTailWrite c v recent s
  | .cqDbWrite c v => Sys2Proof.Machine.execCqDbWrite c v s
  | .evqDbWrite c v => Sys2Proof.Machine.execEvqDbWrite c v s
  | .chanResetWrite c v => Sys2Proof.Machine.execChanResetWrite c v s
  | .intAckWrite k v => Sys2Proof.Machine.execIntAckWrite k v s
  | .perstAssert flr bus => Sys2Proof.Machine.execPerstAssert flr bus s
  | .pcieLinkDown bus => Sys2Proof.Machine.execPcieLinkDown bus s
  | .pcieLinkUp speed wide => Sys2Proof.Machine.execPcieLinkUp speed wide s
  | .d3hotEntry => Sys2Proof.Machine.execD3hotEntry s
  | .status port => Sys2Proof.Machine.execStatus port s
  | .send port crc slot recent frame => Sys2Proof.Machine.execSend port crc slot recent frame s
  | .fetch port kind session index => Sys2Proof.Machine.execFetch port kind session index s
  | .doorbell port crc kind session value => Sys2Proof.Machine.execDoorbell port crc kind session value s
  | .memRead crc addr count ecc => Sys2Proof.Machine.execMemRead crc addr count ecc s
  | .memWrite crc addr data ecc => Sys2Proof.Machine.execMemWrite crc addr data ecc s
  | .spiAbort port bus => Sys2Proof.Machine.execSpiAbort port bus s
  | .busAccess reqs => Sys2Proof.Machine.execBusAccess reqs s
  | .lockTimeout master addr write => Sys2Proof.Machine.execLockTimeout master addr write s
  | .targetTimeout master addr write => Sys2Proof.Machine.execTargetTimeout master addr write s
  | .busErrClear acc => Sys2Proof.Machine.execBusErrClear acc s
  | .twinCfgWrite acc v => Sys2Proof.Machine.execTwinCfgWrite acc v s
  | .resync acc => Sys2Proof.Machine.execResync acc s
  | .yield acc => Sys2Proof.Machine.execYield acc s
  | .resume acc => Sys2Proof.Machine.execResume acc s
  | .clearPartial acc => Sys2Proof.Machine.execClearPartial acc s
  | .helloSend => Sys2Proof.Machine.execHelloSend s
  | .hello m round => Sys2Proof.Machine.execHello m round s
  | .beacon m alt good arrival => Sys2Proof.Machine.execBeacon m alt good arrival s
  | .beaconDeadlineMiss pos0 => Sys2Proof.Machine.execBeaconDeadlineMiss pos0 s
  | .altWaitExpire => Sys2Proof.Machine.execAltWaitExpire s
  | .switchover gap => Sys2Proof.Machine.execSwitchover gap s
  | .peerAbsent => Sys2Proof.Machine.execPeerAbsent s
  | .startupShareHoldEnd => Sys2Proof.Machine.execStartupShareHoldEnd s
  | .copy data last crc len => Sys2Proof.Machine.execCopy data last crc len s
  | .copyAck pending ok => Sys2Proof.Machine.execCopyAck pending ok s
  | .copySent sAt => Sys2Proof.Machine.execCopySent sAt s
  | .copyApply => Sys2Proof.Machine.execCopyApply s
  | .mirror seq rec => Sys2Proof.Machine.execMirror seq rec s
  | .mirrorApply => Sys2Proof.Machine.execMirrorApply s
  | .handoverBoundary => Sys2Proof.Machine.execHandoverBoundary s
  | .twinWtrExpire => Sys2Proof.Machine.execTwinWtrExpire s
  | .twinConvTimeout => Sys2Proof.Machine.execTwinConvTimeout s
  | .guardSample g seq fa fb => Sys2Proof.Machine.execGuardSample g seq fa fb s
  | .guardHoldExpire g => Sys2Proof.Machine.execGuardHoldExpire g s
  | .guardUnlockWrite acc v => Sys2Proof.Machine.execGuardUnlockWrite acc v s
  | .guardUnlockExpire second => Sys2Proof.Machine.execGuardUnlockExpire second s
  | .guardCeilWrite acc g v => Sys2Proof.Machine.execGuardCeilWrite acc g v s
  | .guardCfgWrite acc g v => Sys2Proof.Machine.execGuardCfgWrite acc g v s
  | .releaseSafe acc => Sys2Proof.Machine.execReleaseSafe acc s
  | .releaseCh acc ch => Sys2Proof.Machine.execReleaseCh acc ch s
  | .releaseAll acc => Sys2Proof.Machine.execReleaseAll acc s
  | .fuse acc entry => Sys2Proof.Machine.execFuse acc entry s
  | .guardOscFault net b out => Sys2Proof.Machine.execGuardOscFault net b out s
  | .guardCfgScrub ce ue => Sys2Proof.Machine.execGuardCfgScrub ce ue s
  | .safeOkEdge => Sys2Proof.Machine.execSafeOkEdge s
  | .faultLogClear acc => Sys2Proof.Machine.execFaultLogClear acc s
  | .vaonOn => Sys2Proof.Machine.execVaonOn s
  | .vaonLoss => Sys2Proof.Machine.execVaonLoss s
  | .wakePin => Sys2Proof.Machine.execWakePin s
  | .rtcAlarm => Sys2Proof.Machine.execRtcAlarm s
  | .resetPin => Sys2Proof.Machine.execResetPin s
  | .railGood => Sys2Proof.Machine.execRailGood s
  | .railTimeout => Sys2Proof.Machine.execRailTimeout s
  | .fwVerifyDone slot => Sys2Proof.Machine.execFwVerifyDone slot s
  | .bootXoTimeout => Sys2Proof.Machine.execBootXoTimeout s
  | .stateRestoreDone torn badA badB badRec => Sys2Proof.Machine.execStateRestoreDone torn badA badB badRec s
  | .bootClockReady expired => Sys2Proof.Machine.execBootClockReady expired s
  | .eclosionComplete ms => Sys2Proof.Machine.execEclosionComplete ms s
  | .standby acc => Sys2Proof.Machine.execStandby acc s
  | .reset acc => Sys2Proof.Machine.execReset acc s
  | .qreset acc q => Sys2Proof.Machine.execQreset acc q s
  | .mgmtWatchdog m0 m1 => Sys2Proof.Machine.execMgmtWatchdog m0 m1 s
  | .pdSwitch pd on m5 m8 => Sys2Proof.Machine.execPdSwitch pd on m5 m8 s
  | .quadWakeReady q => Sys2Proof.Machine.execQuadWakeReady q s
  | .chrRtcLoWrite acc v => Sys2Proof.Machine.execChrRtcLoWrite acc v s
  | .chrWakeCfgWrite acc v => Sys2Proof.Machine.execChrWakeCfgWrite acc v s
  | .jnlPageProgramDone ok => Sys2Proof.Machine.execJnlPageProgramDone ok s
  | .jnlPageFillTimeout => Sys2Proof.Machine.execJnlPageFillTimeout s
  | .jnlEraseDone ok => Sys2Proof.Machine.execJnlEraseDone ok s
  | .compact acc => Sys2Proof.Machine.execCompact acc s
  | .clearState acc => Sys2Proof.Machine.execClearState acc s
  | .compactionBegin => Sys2Proof.Machine.execCompactionBegin s
  | .snapshotBodyDone => Sys2Proof.Machine.execSnapshotBodyDone s
  | .snapshotSeal ok => Sys2Proof.Machine.execSnapshotSeal ok s
  | .pfail bus => Sys2Proof.Machine.execPfail bus s
  | .jnlResume => Sys2Proof.Machine.execJnlResume s
  | .dieTempUpdate v => Sys2Proof.Machine.execDieTempUpdate v s
  | .dieTempMaxWrite acc v => Sys2Proof.Machine.execDieTempMaxWrite acc v s
  | .perstRelease => Sys2Proof.Machine.execPerstRelease s
  | .d3hotExit => Sys2Proof.Machine.execD3hotExit s
  | .spiProtocolError port => Sys2Proof.Machine.execSpiProtocolError port s
  | .bootXoRunning => Sys2Proof.Machine.execBootXoRunning s
  | .mgmtRestartDone sha => Sys2Proof.Machine.execMgmtRestartDone sha s

end Sys2Proof.Machine
end

