-- ==== Sys2Proof/Machine/Issue.lean ====
section
/-!
DEFINITION. The engine clock: what one ecyc does in every running tile when no command waits. The tile issues the word at its
IP, a window cycle serves what waits for it, and the next ecyc begins (R40, R59, R84, R121, R133).
-/

namespace Sys2Proof.Machine

/-- A command acts, where its meaning answers a next state. -/
def State.act (s : State) (c : Instr) : State := match exec c s with | .next t => t | _ => s

/-- A tile issues the word at its IP: every slot operation that the word carries acts (R40, R84). -/
def State.issueWord (s : State) (n : Fin 36) : State :=
  (Sys2Proof.wordOps n (mapGet (fun _ => 0) (s.tile n).pm (s.tile n).ip)).foldl (fun t c => t.act c) s

/-- One ecyc of a tile: its word issues, a window cycle is served, first what the T3 window and the FIR loader have, and the next
ecyc begins. A tile that may not issue stays (R40, R41, R121, R136). -/
def State.tileCycle (s : State) (n : Fin 36) : State :=
  if s.canIssue ⟨n, 0, ⟨0, false⟩⟩ then
    let t := ((s.issueWord n).act (.checkpointCycle n 0)).act (.t3WindowService n 0)
    (t.setTile n (t.tile n).tick).pmReport n
  else s

/-- One ecyc of the engine: every running tile's, in tile order. -/
def State.engineCycle (s : State) : State := (List.finRange 36).foldl (fun t n => t.tileCycle n) s

end Sys2Proof.Machine
end

