-- ==== Sys2Proof/Safety.lean ====
section
/-!
DEFINITION. The terms in which claims about the block are stated: the canonical form of the state's maps, what an event may
change, what a command leaves as it was.
-/

namespace Sys2Proof.Machine

/-- The registers, tiles, sessions and ports are held in their one canonical form: equal contents are equal data. -/
def Canonical (s : State) : Prop :=
  mapWf oidDflt s.obj = true ∧ mapWf (fun _ => ({} : Tile)) s.tiles = true ∧
  mapWf (fun _ => ({} : Session)) s.sess = true ∧ mapWf (fun _ => ({} : Port)) s.ports = true

/-- The objects that raising an event may change: FCP_STICKY and FCP_CNT 5 (EVQ_OVERFLOW), INT_PENDING_k, INT_EVT_CNT_g
(R438, R439). -/
def eventOid (o : Nat) : Bool :=
  decide (o = 0xF0009 ∨ o = 0xF0015 ∨ (0xF0024 ≤ o ∧ o < 0xF0028) ∨ (0xF0040 ≤ o ∧ o < 0xF0060))

/-- The objects that a journal record may change beside those of an event: JNL_STATE, JNL_STICKY and FULL's counter
(R569, R574). -/
def journalOid (o : Nat) : Bool := decide (o = 0xFF400 ∨ o = 0xFF40D ∨ o = 0xFF414)

/-- The objects of the fault log (R529, R535). -/
def faultOid (o : Nat) : Bool := decide (o = 0xF0900 ∨ o = 0xF0901 ∨ (0xF0A00 ≤ o ∧ o < 0xF0B00))

/-- The objects of the bus error log (R474). -/
def busErrOid (o : Nat) : Bool := decide (o = 0xFE81B ∨ o = 0xFE81C ∨ (0xFE820 ≤ o ∧ o < 0xFE860))

/-- One of the objects of a list. -/
def among (l : List Nat) (o : Nat) : Bool := l.contains o

/-- `t` is `s` but for the objects of `p`, and for what raising events changes: the events' own objects, the sessions'
queues, the message counts of the host block and the marks of a grain's first events (R436–R439, R456). The objects' frame
is read in the canonical form. -/
structure Leaves (p : Nat → Bool) (s t : State) : Prop where
  rest : t = { s with obj := t.obj, sess := t.sess, host := t.host, marks := t.marks }
  objs : mapWf oidDflt s.obj = true →
    mapWf oidDflt t.obj = true ∧ ∀ o, p o = false → eventOid o = false → t.ob o = s.ob o

/-- `t` is `s` but for tile `n`. -/
def OnlyTile (n : Nat) (s t : State) : Prop :=
  t = { s with tiles := t.tiles } ∧ ∀ m, m ≠ n → t.tile m = s.tile m

/-- The tile of a slot operation as the operation finds it: `adv` ecyc after the tile's previous operation, with the slot of its
word taken (R40, R73, R108). -/
def opTile (s : State) (p : Slot) (k : SlotKind) : Tile :=
  { (s.toWord p).tile p.tile with used := k :: ((s.toWord p).tile p.tile).used }

/-- `u` is `t` with one more result in flight, which the word at cycle `at'` is the first to see (R73). -/
def InFlight (at' : Nat) (op : LandOp) (t u : Tile) : Prop :=
  u = { t with lands := u.lands, seq := u.seq } ∧
  ∃ x : Land, x.at' = at' ∧ x.op = op ∧ ∀ y, y ∈ u.lands ↔ y = x ∨ y ∈ t.lands

/-- A write of object `oid` by `acc` passes the checks that precede the object's own (R422, R487): the object is there and
writable by the port class and mode, no other ground refuses it, the word has the encoding of its type, a standby refuses
no shared state, and no mirrored object waits for its boundary (R493). -/
def State.admits (s : State) (acc : Access) (oid : Nat) (v : Word) : Bool :=
  match checkWrite acc oid with
  | .error _ => false
  | .ok c => !s.setDenied acc oid v && !encBad c v && !(s.isStandby && decide (acc.pc.val < 6) && pcIn c.wr 6) &&
      !(s.mirrors && (decide (c.base = 0xEC000) || decide (c.base = oidFirSetLen 0)))

/-- A write completes with the answer OK and leaves `u`, but for its journal record (R195, R434, R564): the journal's queue
and flags, and what an event changes. -/
def Stored (u t : State) : Prop :=
  t = { u with answer := {}, jnl := t.jnl, obj := t.obj, sess := t.sess, host := t.host, marks := t.marks } ∧
  ∀ o, journalOid o = false → eventOid o = false → t.ob o = u.ob o

/-- A write that its object's own rule refuses changes nothing but the answer (R422, R434). -/
def TurnedAway (s : State) (oid st : Nat) (t : State) : Prop := t = { s with answer := { status := st, oid := oid } }

/-- Of the objects, `t` differs from `s` at most in those of `l`, in those of a journal record and in those of an event. -/
def Touches (l : List Nat) (s t : State) : Prop :=
  ∀ o, l.contains o = false → journalOid o = false → eventOid o = false → t.ob o = s.ob o

/-- A sticky flag is set and the counter beside it has counted one more, saturating (R11). -/
def Flagged (flags n cnt : Nat) (s t : State) : Prop := bit (t.ob flags) n = true ∧ t.ob cnt = satInc (s.ob cnt)

/-- A command completes: `exec` answers a next state, of which `P` holds. -/
def Completes (c : Instr) (s : State) (P : State → Prop) : Prop := ∃ t, exec c s = .next t ∧ P t

/-- A slot operation completes, changes its tile alone, and puts one result in flight: a data register in the lanes where the
slot takes effect, lane `l` with `f` of the tile it finds, seen `lat` ecyc after its issue. -/
def WritesReg (c : Instr) (s : State) (p : Slot) (k : SlotKind) (d lat : Nat) (f : Tile → Nat → Word) : Prop :=
  let u := opTile s p k
  Completes c s (fun t => OnlyTile p.tile (s.toWord p) t ∧
    InFlight (u.cyc + lat) (.reg d (u.mask p.pred) (lanes (f u))) u (t.tile p.tile))

/-- The same for a predicate, which the ALU slot writes, seen at t + 2; K0 as the target writes none (R69, R100). -/
def WritesPred (c : Instr) (s : State) (p : Slot) (kt : Nat) (f : Tile → Nat → Bool) : Prop :=
  let u := opTile s p .alu
  Completes c s (fun t => OnlyTile p.tile (s.toWord p) t ∧
    if kt = 0 then t.tile p.tile = u
    else InFlight (u.cyc + 2) (.pred kt (u.mask p.pred) (laneMask (f u))) u (t.tile p.tile))

/-- An exact result outside the range of a signed 32-bit word. -/
abbrev Outside (x : Int) : Prop := x < -2 ^ 31 ∨ 2 ^ 31 ≤ x

/-- In every lane where `hit` holds SAT_LANES of a tile gains the lane's bit and its counter one more; in the others both stay
(R48). -/
def SatLanes (n : Nat) (hit : Nat → Prop) (b t : State) : Prop := ∀ l, l < 8 →
  (hit l → bit (t.ob (oidTileSticky n)) (8 + l) = true ∧ t.ob (oidSatCnt n l) = satInc (b.ob (oidSatCnt n l))) ∧
  (¬hit l → bit (t.ob (oidTileSticky n)) (8 + l) = bit (b.ob (oidTileSticky n)) (8 + l) ∧
    t.ob (oidSatCnt n l) = b.ob (oidSatCnt n l))

/-- An ALU slot operation whose exact lane result `x` saturates (R48, R53): the register takes the nearest word, and the lanes
that take effect with a result outside the range are counted. Nothing else changes. -/
def WritesSat (c : Instr) (s : State) (p : Slot) (d lat : Nat) (x : Tile → Nat → Int) : Prop :=
  let b := s.toWord p
  let u := opTile s p .alu
  Completes c s (fun t =>
    InFlight (u.cyc + lat)
      (.reg d (u.mask p.pred) (lanes (fun l => BitVec.ofInt 32 (max (-2 ^ 31) (min (2 ^ 31 - 1) (x u l)))))) u (t.tile p.tile) ∧
    t = { b with tiles := t.tiles, obj := t.obj } ∧ (∀ m, m ≠ p.tile.val → t.tile m = b.tile m) ∧
    SatLanes p.tile (fun l => (u.mask p.pred).getLsbD l = true ∧ Outside (x u l)) b t ∧
    (∀ o, o ≠ oidTileSticky p.tile → (∀ l, l < 8 → o ≠ oidSatCnt p.tile l) → t.ob o = b.ob o) ∧
    (∀ i, i < 8 → bit (t.ob (oidTileSticky p.tile)) i = bit (b.ob (oidTileSticky p.tile)) i))

/-- An object of a tile's block of flags, counters and overflow records (R78). -/
def tileFlagOid (n o : Nat) : Bool := decide (0xF4002 + 0x40 * n ≤ o ∧ o < 0xF4018 + 0x40 * n)

/-- `t` is `b` but for tile `n`, its flags and counters, the faults noted for the log and what an event changes. -/
structure TileErrs (n : Nat) (b t : State) : Prop where
  rest : t = { b with tiles := t.tiles, obj := t.obj, sess := t.sess, host := t.host, marks := t.marks, faultQ := t.faultQ }
  others : ∀ m, m ≠ n → t.tile m = b.tile m
  objs : ∀ o, tileFlagOid n o = false → eventOid o = false → t.ob o = b.ob o

/-- A flag of TILE_STICKY and the counter beside it: set and counted `k` times, or as they were where `k` is 0 (R48, R60). -/
def TileFlag (n i cnt k : Nat) (b t : State) : Prop :=
  bit (t.ob (oidTileSticky n)) i = (bit (b.ob (oidTileSticky n)) i || decide (k ≠ 0)) ∧
  t.ob cnt = (List.range k).foldl (fun v _ => satInc v) (b.ob cnt)

/-- A tile's grain fails for a reason of class `cls` at `loc` (R60, R526): the tile is marked, GRAIN_FAILED is set and counted once
in the grain, and the first failure of its class is noted for the log. -/
def Fails (n cls loc : Nat) (b t : State) : Prop :=
  (t.tile n).failed = true ∧ (t.tile n).fails.contains cls = true ∧
  TileFlag n 6 (oidGrainFailCnt n) (if (b.tile n).failed = true then 0 else 1) b t ∧
  ((b.tile n).fails.contains cls = false → (cls, n * 2 ^ 21 + loc) ∈ t.faultQ)

/-- The results in flight of `u` are those of `t` and the list `l`, each with the cycle of the first word that sees it. -/
def Adds (l : List (Nat × LandOp)) (t u : Tile) : Prop :=
  (∀ y ∈ u.lands, y ∈ t.lands ∨ (y.at', y.op) ∈ l) ∧ (∀ y ∈ t.lands, y ∈ u.lands) ∧
  ∀ e ∈ l, ∃ y ∈ u.lands, (y.at', y.op) = e

/-- A MAC slot operation completes (R45, R73): lane `l` of accumulator `i` takes `f` of the tile it finds where the slot takes
effect, at once for a further operation on that accumulator and from t + 4 for stores and other accumulators. -/
def WritesAcc (c : Instr) (s : State) (p : Slot) (i : Nat) (f : Tile → Nat → AccVal) : Prop :=
  let u := opTile s p .mac
  Completes c s (fun t => OnlyTile p.tile (s.toWord p) t ∧
    InFlight (u.cyc + 4) (.acc i (u.mask p.pred) (lanes (f u))) (u.setA i (u.mask p.pred) (lanes (f u))) (t.tile p.tile))

/-- The slot operation that a command is: its place and the slot of the word that it takes (R84, R108). -/
def slotOf : Instr → Option (Slot × SlotKind)
  | .mac p .. | .msu p .. | .mpy p .. | .accld p .. | .accclr p .. | .accshf p .. | .accadd p .. => some (p, .mac)
  | .st p .. | .rst p .. => some (p, .store)
  | .mov p .. | .add p .. | .sub p .. | .adds p .. | .subs p .. | .negs p .. | .abss p .. | .min p .. | .max p .. | .and p ..
  | .or p .. | .xor p .. | .not p .. | .ldil p .. | .ldih p .. | .shl p .. | .shls p .. | .shr p .. | .asr p .. | .asrn p ..
  | .lsc p .. | .bexprd p .. | .ashv p .. | .shlv p .. | .shlsv p .. | .shrv p .. | .asrv p .. | .asrnv p .. | .cmp p ..
  | .csel p .. | .kand p .. | .kor p .. | .kxor p .. | .knot p .. | .kset p .. | .kbit p .. => some (p, .alu)
  | .rd p m1 .. => some (p, if m1 then .mem1 else .mem0)
  | .rdb p .. => some (p, .mem0)
  | .wr p .. | .wrt p .. => some (p, .mem1)
  | .aguPlusStep p n .. | .aguMinusStep p n .. | .aguImmediate p n .. => some (p, .agu n)
  | .txbSend p ch .. => some (p, .send ch)
  | .txbReceive p ch .. => some (p, .recv ch)
  | .loop p .. => some (p, .loop)
  | _ => none

/-- A slot operation completes and changes its tile alone, which then is `f` of the tile it finds. -/
def TileBecomes (c : Instr) (s : State) (p : Slot) (k : SlotKind) (f : Tile → Tile) : Prop :=
  Completes c s (fun t => OnlyTile p.tile (s.toWord p) t ∧ t.tile p.tile = f (opTile s p k))

/-! ### Commands of FCP (R420, R430–R433) -/

/-- The state of which an FCP command's checks are made: the head and the acknowledgement of its header have acted (R432,
R438). -/
def State.acked (s : State) (h : Hdr) : State :=
  let n := h.session.toNat
  let t := match h.cqHead with | some v => s.cqHead n (v.toNat % 128) | none => s
  match h.evqAck with | some a => t.evqAck n a.toNat | none => t

/-- A frame belongs to an OPEN session of an enabled class, from the source to which the session is bound (R411, R414). -/
def State.ownFrame (s : State) (h : Hdr) : Bool :=
  s.classOpen h.src.pc && decide (1 ≤ h.session.toNat ∧ h.session.toNat ≤ 63) &&
  decide ((s.ses h.session.toNat).st = 1) && (s.ses h.session.toNat).boundTo h.src

/-- An FCP command executes: its frame is the session's own, its tag is free, and credit and pool have room (R433). -/
def State.fcpRuns (s : State) (h : Hdr) : Bool :=
  let t := s.acked h
  let q := t.ses h.session.toNat
  s.ownFrame h && decide (h.tag.toNat ≤ 63) && decide (q.tagUse h.tag.toNat = 0) && decide (q.executing < q.credit) &&
  decide (t.poolUsed < 256)

/-- A command finishes on `u`: its completion stands at the tail of its session's queue, its tag holds it, and nothing else of
`u` changes (R430, R431). -/
def Finishes (c : Instr) (s : State) (h : Hdr) (op status : Nat) (instar : Word) (body : List Byte) (u : State) : Prop :=
  exec c s = .next (u.complete h.session.toNat
    { opcode := op, tag := h.tag.toNat, status := status, instar := instar, body := body })

end Sys2Proof.Machine
end

