-- ==== Sys2Proof/Certificates/Slice0/Obligations.lean ====
section
/-!
DEFINITION. The statements about the block: its words, tiles, image, patch and scenes, its converters, ports, clocks, time and
network, its sessions, hosts and matrix, the twin, the Sluice, power and the journal, and the invariants of every step.
-/

open Sys2Proof Sys2Proof.Machine

/-- R53, R73, R91, R96, R97: every ALU operation without saturation and with a fixed shift completes where the slot is in
the word that its tile issues, whatever its operands; its result is seen at t + 1, that of a shift or of LSC at t + 2;
nothing but the tile's results in flight changes. -/
def Obligations.AluRegister : Prop :=
  ∀ (s : State) (p : Slot) (d a b n : Fin 32) (imm : BitVec 16),
  Canonical s → s.issues p .alu = true →
  WritesReg (.mov p d a) s p .alu d 1 (fun u l => u.dr a l) ∧
  WritesReg (.add p d a b) s p .alu d 1 (fun u l => BitVec.ofInt 32 ((u.dr a l).toInt + (u.dr b l).toInt)) ∧
  WritesReg (.sub p d a b) s p .alu d 1 (fun u l => BitVec.ofInt 32 ((u.dr a l).toInt - (u.dr b l).toInt)) ∧
  WritesReg (.min p d a b) s p .alu d 1 (fun u l => BitVec.ofInt 32 (min (u.dr a l).toInt (u.dr b l).toInt)) ∧
  WritesReg (.max p d a b) s p .alu d 1 (fun u l => BitVec.ofInt 32 (max (u.dr a l).toInt (u.dr b l).toInt)) ∧
  WritesReg (.and p d a b) s p .alu d 1 (fun u l => u.dr a l &&& u.dr b l) ∧
  WritesReg (.or p d a b) s p .alu d 1 (fun u l => u.dr a l ||| u.dr b l) ∧
  WritesReg (.xor p d a b) s p .alu d 1 (fun u l => u.dr a l ^^^ u.dr b l) ∧
  WritesReg (.not p d a) s p .alu d 1 (fun u l => BitVec.ofInt 32 (-1 - (u.dr a l).toInt)) ∧
  WritesReg (.ldil p d imm) s p .alu d 1 (fun _ _ => BitVec.ofInt 32 imm.toInt) ∧
  WritesReg (.ldih p d imm) s p .alu d 1 (fun u l => BitVec.ofNat 32 (imm.toNat * 2 ^ 16 + (u.dr d l).toNat % 2 ^ 16)) ∧
  WritesReg (.shl p d a n) s p .alu d 2 (fun u l => BitVec.ofNat 32 ((u.dr a l).toNat * 2 ^ n.val)) ∧
  WritesReg (.shr p d a n) s p .alu d 2 (fun u l => BitVec.ofNat 32 ((u.dr a l).toNat / 2 ^ n.val)) ∧
  WritesReg (.asr p d a n) s p .alu d 2 (fun u l => BitVec.ofInt 32 ((u.dr a l).toInt / 2 ^ n.val)) ∧
  WritesReg (.asrn p d a n) s p .alu d 2 (fun u l => BitVec.ofInt 32 (rneShift (u.dr a l).toInt n)) ∧
  WritesReg (.lsc p d a) s p .alu d 2 (fun u l => BitVec.ofNat 32 (leadSign (u.dr a l)))

/-- R46, R47, R50, R53: RNE is rounding to nearest with ties to even, and LSC counts the bits below the sign bit that equal
it. The rounding modes of a store: RNE goes to the nearest value and from a tie to the even one, RNA to the nearest and from
a tie away from zero, FLR toward −∞. Over any sequence of accumulations the accumulator holds the low 80 bits of the exact
sum; AOV is set exactly when some partial result left the range, and OSGN is then the sign of the exact result of the first
that did. -/
def Obligations.RoundingAndOverflow : Prop :=

  ((∀ (a : Int) (n : Nat), let q := rneShift a n
    2 * (q * 2 ^ n - a) ≤ 2 ^ n ∧ 2 * (a - q * 2 ^ n) ≤ 2 ^ n ∧
    (n ≠ 0 → (2 * (q * 2 ^ n - a) = 2 ^ n ∨ 2 * (a - q * 2 ^ n) = 2 ^ n) → q % 2 = 0)) ∧
  (∀ w : Word, leadSign w ≤ 31 ∧ (∀ i, i < leadSign w → w.getLsbD (30 - i) = w.getLsbD 31) ∧
    (leadSign w < 31 → w.getLsbD (30 - leadSign w) ≠ w.getLsbD 31))) ∧
  (∀ (a : Int) (n : Nat),
  (let q := roundMode 0 a n;
    2 * (q * 2 ^ n - a) ≤ 2 ^ n ∧ 2 * (a - q * 2 ^ n) ≤ 2 ^ n ∧
    (n ≠ 0 → (2 * (q * 2 ^ n - a) = 2 ^ n ∨ 2 * (a - q * 2 ^ n) = 2 ^ n) → q % 2 = 0)) ∧
  (let q := roundMode 1 a n;
    2 * (q * 2 ^ n - a) ≤ 2 ^ n ∧ 2 * (a - q * 2 ^ n) ≤ 2 ^ n ∧
    (n ≠ 0 → (2 * (q * 2 ^ n - a) = 2 ^ n ∨ 2 * (a - q * 2 ^ n) = 2 ^ n) → a.natAbs ≤ (q * 2 ^ n).natAbs)) ∧
  (let q := roundMode 2 a n;
    q * 2 ^ n ≤ a ∧ a < (q + 1) * 2 ^ n)) ∧
  (∀ (xs : List Int) (a : AccVal), a.aov = false →
  let r := xs.foldl (fun b x => accResult b (b.v.toInt + x)) a
  r.v = BitVec.ofInt 80 (a.v.toInt + xs.sum) ∧
  (r.aov = false → r.v.toInt = a.v.toInt + xs.sum) ∧
  (r.aov = true → ∃ n, n < xs.length ∧
    let b := (xs.take n).foldl (fun b x => accResult b (b.v.toInt + x)) a
    let e := b.v.toInt + xs.getD n 0
    b.aov = false ∧ (e < -2 ^ 79 ∨ 2 ^ 79 ≤ e) ∧ r.osgn = decide (e < 0)))

/-- R48, R53, R96, R98: the saturating ALU operations complete where the slot is in the word that its tile issues; each
lane's SAT bit and counter follow the exact result. -/
def Obligations.AluSaturating : Prop :=
  ∀ (s : State) (p : Slot) (d a b n : Fin 32),
  Canonical s → s.issues p .alu = true →
  WritesSat (.adds p d a b) s p d 1 (fun u l => (u.dr a l).toInt + (u.dr b l).toInt) ∧
  WritesSat (.subs p d a b) s p d 1 (fun u l => (u.dr a l).toInt - (u.dr b l).toInt) ∧
  WritesSat (.negs p d a) s p d 1 (fun u l => -(u.dr a l).toInt) ∧
  WritesSat (.abss p d a) s p d 1 (fun u l => max (u.dr a l).toInt (-(u.dr a l).toInt)) ∧
  WritesSat (.shls p d a n) s p d 2 (fun u l => (u.dr a l).toInt * 2 ^ n.val)

/-- R98: the shifts by a register complete where the slot is in the word that its tile issues. ASHV shifts left by 0 to 31
with saturation, or right by 1 to 31 with RNE, as the low six bits of Db say; −32 acts as −31; the others take Db modulo 32. -/
def Obligations.VariableShifts : Prop :=
  ∀ (s : State) (p : Slot) (d a b : Fin 32), Canonical s → s.issues p .alu = true →
  WritesReg (.shlv p d a b) s p .alu d 2 (fun u l => BitVec.ofNat 32 ((u.dr a l).toNat * 2 ^ ((u.dr b l).toNat % 32))) ∧
  WritesReg (.shrv p d a b) s p .alu d 2 (fun u l => BitVec.ofNat 32 ((u.dr a l).toNat / 2 ^ ((u.dr b l).toNat % 32))) ∧
  WritesReg (.asrv p d a b) s p .alu d 2 (fun u l => BitVec.ofInt 32 ((u.dr a l).toInt / 2 ^ ((u.dr b l).toNat % 32))) ∧
  WritesReg (.asrnv p d a b) s p .alu d 2 (fun u l => BitVec.ofInt 32 (rneShift (u.dr a l).toInt ((u.dr b l).toNat % 32))) ∧
  WritesSat (.shlsv p d a b) s p d 2 (fun u l => (u.dr a l).toInt * 2 ^ ((u.dr b l).toNat % 32)) ∧
  WritesSat (.ashv p d a b) s p d 2 (fun u l =>
    let k := ((u.dr b l).setWidth 6).toInt
    if 0 ≤ k then (u.dr a l).toInt * 2 ^ k.toNat else rneShift (u.dr a l).toInt (min 31 (-k).toNat))

/-- R54, R99: CMP and CSEL complete where the slot is in the word that its tile issues. The condition of each lane goes to
the named predicate, unless it is K0; CSEL also selects the register's word by it. The reserved codes 6 and 7 leave the tile
as the cycle finds it. -/
def Obligations.Compares : Prop :=
  ∀ (s : State) (p : Slot) (d a b : Fin 32) (c kt : Fin 8), Canonical s → s.issues p .alu = true →
  let u := opTile s p .alu
  let holds (x y : Word) : Bool := decide (c = 0 ∧ x = y ∨ c = 1 ∧ x ≠ y ∨ c = 2 ∧ x.toInt < y.toInt ∨ c = 3 ∧ x.toInt ≤ y.toInt ∨
    c = 4 ∧ y.toInt < x.toInt ∨ c = 5 ∧ y.toInt ≤ x.toInt)
  let picked : List Word := lanes (fun l => if holds (u.dr a l) (u.dr b l) = true then u.dr a l else u.dr b l)
  (c.val < 6 → WritesPred (.cmp p c a b kt) s p kt (fun v l => holds (v.dr a l) (v.dr b l))) ∧
  (c.val < 6 → Completes (.csel p c d a b kt) s (fun t => OnlyTile p.tile (s.toWord p) t ∧
    if kt = 0 then InFlight (u.cyc + 1) (.reg d (u.mask p.pred) picked) u (t.tile p.tile)
    else ∃ v, InFlight (u.cyc + 1) (.reg d (u.mask p.pred) picked) u v ∧
      InFlight (u.cyc + 2) (.pred kt (u.mask p.pred) (laneMask (fun l => holds (u.dr a l) (u.dr b l)))) v (t.tile p.tile))) ∧
  (6 ≤ c.val → TileBecomes (.cmp p c a b kt) s p .alu id ∧ TileBecomes (.csel p c d a b kt) s p .alu id)

/-- R67, R69, R96, R100: the predicate operations and BEXPRD complete where the slot is in the word that its tile issues. -/
def Obligations.AluPredicates : Prop :=
  ∀ (s : State) (p : Slot) (d a n : Fin 32) (ka kb kt : Fin 8) (v : Bool),
  Canonical s → s.issues p .alu = true →
  WritesPred (.kand p ka kb kt) s p kt (fun u l => u.pr ka l && u.pr kb l) ∧
  WritesPred (.kor p ka kb kt) s p kt (fun u l => u.pr ka l || u.pr kb l) ∧
  WritesPred (.kxor p ka kb kt) s p kt (fun u l => xor (u.pr ka l) (u.pr kb l)) ∧
  WritesPred (.knot p ka kt) s p kt (fun u l => !u.pr ka l) ∧
  WritesPred (.kset p v kt) s p kt (fun _ _ => v) ∧
  WritesPred (.kbit p a n kt) s p kt (fun u l => (u.dr a l).getLsbD n) ∧
  Completes (.bexprd p d) s (fun t => OnlyTile p.tile (s.toWord p) t ∧
    InFlight ((opTile s p .alu).cyc + 2)
      (.reg d ((opTile s p .alu).mask p.pred) (lanes (fun _ => BitVec.ofNat 32 (opTile s p .alu).bexp)))
      { opTile s p .alu with bexp := 31 } (t.tile p.tile))

/-- R43–R46, R73, R92, R93, R109: the MAC slot operations complete where the slot is in the word that its tile issues. A
product is aligned to 62 fraction bits; MAC, MSU, ACCSHF and ACCADD keep AOV and OSGN by R46, the others clear them. -/
def Obligations.MacSlot : Prop :=
  ∀ (s : State) (p : Slot) (i j fx fy : Fin 4) (x y : Fin 32) (k : BitVec 6),
  Canonical s → s.issues p .mac = true →
  let prod (u : Tile) (l : Nat) : Int := (u.dr x l).toInt * (u.dr y l).toInt * 2 ^ (62 - fmtFrac fx - fmtFrac fy)
  WritesAcc (.mac p i x y fx fy) s p i (fun u l => accResult (u.ac i l) ((u.ac i l).v.toInt + prod u l)) ∧
  WritesAcc (.msu p i x y fx fy) s p i (fun u l => accResult (u.ac i l) ((u.ac i l).v.toInt - prod u l)) ∧
  WritesAcc (.mpy p i x y fx fy) s p i (fun u l => { v := BitVec.ofInt 80 (prod u l), aov := false, osgn := false }) ∧
  WritesAcc (.accld p i x fx) s p i (fun u l =>
    { v := BitVec.ofInt 80 ((u.dr x l).toInt * 2 ^ (62 - fmtFrac fx)), aov := false, osgn := false }) ∧
  WritesAcc (.accclr p i) s p i (fun _ _ => { v := 0, aov := false, osgn := false }) ∧
  WritesAcc (.accshf p i k) s p i (fun u l => accResult (u.ac i l)
    (if 0 ≤ k.toInt then (u.ac i l).v.toInt * 2 ^ k.toInt.toNat else (u.ac i l).v.toInt / 2 ^ min 31 (-k.toInt).toNat)) ∧
  WritesAcc (.accadd p i j) s p i (fun u l => accResult (u.ac i l)
    ((u.ac i l).v.toInt + (if j = i then u.ac i l else u.acSeen j l).v.toInt))

/-- R47–R52, R66, R73, R94, R95, R109: the accumulator stores complete where the slot is in the word that its tile issues.
ST writes the accumulator rounded to its format and saturated, or where AOV is set the largest value of its sign, and counts
the lanes that saturate; a lane that a HEADROOM record declares and that meets AOV is scaled by (G − 1 − j)/(G − j) at its
position j. RST writes the residue and counts nothing. The result is seen at t + 2, a tagged store contributes to BEXP at t
+ 3. A lane with AOV sets GUARD_OVF, and the first of the grain is recorded. A reserved rounding mode has no effect. The
overflow mute of a declared lane: from the position p of an overflow it scales the grain's values by (G − 1 − j)/(G − p),
each rounded RNE; then the 32 samples after it by (k + 1)/32; a fresh overflow starts it again. Of the model's own choices
this rests on log 50 (the positions that the overflow mute counts). -/
def Obligations.AccumulatorStores : Prop :=

  (∀ (s : State) (p : Slot) (d : Fin 32) (a f rm : Fin 4) (tag : Bool),
  Canonical s → s.issues p .store = true →
  let b := s.toWord p
  let n : Nat := p.tile
  let u := opTile s p .store
  let m := u.mask p.pred
  let acc (l : Nat) : AccVal := u.acSeen a l
  let w := 62 - fmtFrac f
  let q (l : Nat) : Int := roundMode rm (acc l).v.toInt w
  let value (l : Nat) : Word := if (acc l).aov = true then (if (acc l).osgn = true then 0x80000000 else 0x7FFFFFFF)
    else BitVec.ofInt 32 (max (-2 ^ 31) (min (2 ^ 31 - 1) (q l)))
  let declared (l : Nat) : Bool := (b.img.active.muteLanes (b.workOf n) u.ip).getLsbD l
  let residue (l : Nat) : Word := if (acc l).aov = true ∨ Outside (q l) then 0
    else BitVec.ofInt 32 (Int.tdiv (((acc l).v.toInt - q l * 2 ^ w) * 2 ^ 31) (2 ^ w))
  let ovf : Byte := laneMask (fun l => m.getLsbD l && (acc l).aov)
  let inFlight (vals : List Word) (t : State) : Prop :=
    (tag = false ∨ m = 0 → Adds [(u.cyc + 2, .reg d m vals)] u (t.tile n)) ∧
    (tag = true → m ≠ 0 → ∃ e : Nat, Adds [(u.cyc + 2, .reg d m vals), (u.cyc + 3, .bexp e)] u (t.tile n) ∧
      (∀ l, l < 8 → m.getLsbD l = true → e ≤ leadSign (nth 0 vals l)) ∧
      ∃ l, l < 8 ∧ m.getLsbD l = true ∧ e = leadSign (nth 0 vals l))
  (rm = 3 → TileBecomes (.st p d a f rm tag) s p .store id ∧ TileBecomes (.rst p d a f rm tag) s p .store id) ∧
  (rm ≠ 3 → Completes (.st p d a f rm tag) s (fun t =>
    TileErrs n b t ∧ SatLanes n (fun l => m.getLsbD l = true ∧ ((acc l).aov = true ∨ Outside (q l))) b t ∧
    TileFlag n 0 (oidGuardOvfCnt n) (if ovf = 0 then 0 else 1) b t ∧
    (∀ i, 1 ≤ i ∧ i < 8 ∨ 16 ≤ i → bit (t.ob (oidTileSticky n)) i = bit (b.ob (oidTileSticky n)) i) ∧
    (∃ vals, inFlight vals t ∧ ∀ l, l < 8 →
      (declared l = false → nth 0 vals l = value l) ∧
      (declared l = true → (acc l).aov = true → nth 0 vals l = BitVec.ofInt 32
        (rneDiv ((value l).toInt * (b.gsize - 1 - u.stPos u.ip : Nat)) (b.gsize - u.stPos u.ip : Nat)))) ∧
    (let v := t.tile n;
      v = { u with lands := v.lands, seq := v.seq, stCount := v.stCount, mutes := v.mutes, ovfLogged := u.ovfLogged || decide (ovf ≠ 0) }) ∧
    (if ovf = 0 ∨ u.ovfLogged = true then t.faultQ = b.faultQ ∧ t.ob (oidOvfPmAddr n) = b.ob (oidOvfPmAddr n) ∧
        t.ob (oidOvfLanes n) = b.ob (oidOvfLanes n) ∧ t.ob (oidOvfInstar n) = b.ob (oidOvfInstar n)
      else (1, n * 2 ^ 21 + ovf.toNat * 2 ^ 13 + u.ip) ∈ t.faultQ ∧ t.ob (oidOvfPmAddr n) = wd u.ip ∧
        t.ob (oidOvfLanes n) = wd ovf.toNat ∧ t.ob (oidOvfInstar n) = b.ob oidInstar))) ∧
  (rm ≠ 3 → Completes (.rst p d a f rm tag) s (fun t => OnlyTile n b t ∧
    t.tile n = { u with lands := (t.tile n).lands, seq := (t.tile n).seq } ∧ inFlight (lanes residue) t))) ∧
  (∀ (g p j k : Nat) (v : Word) (o : OvfMute),
  p < g → j < g → k < 32 →
  (muteStep o true g p v = (BitVec.ofInt 32 (rneDiv (v.toInt * (g - 1 - p : Nat)) (g - p : Nat)), ⟨1, p, 0⟩)) ∧
  (muteStep ⟨1, p, 0⟩ false g j v = (BitVec.ofInt 32 (rneDiv (v.toInt * (g - 1 - j : Nat)) (g - p : Nat)), ⟨1, p, 0⟩)) ∧
  (muteStep ⟨2, p, k⟩ false g j v = (BitVec.ofInt 32 (rneDiv (v.toInt * (k + 1 : Nat)) 32), if k = 31 then ⟨0, 0, 0⟩ else ⟨2, p, k + 1⟩)) ∧
  (muteStep ⟨0, 0, 0⟩ false g j v = (v, ⟨0, 0, 0⟩)))

/-- R55–R57, R60, R66, R73, R83, R102: the memory slots complete where the slot is in the word that its tile issues. A read
delivers the words of its address, in broadcast the named lane's word to every lane, an uncorrectable word as the array
gives it; it is seen at t + 3. Its corrected and uncorrectable lanes are flagged and counted, an uncorrectable one fails the
grain. A write stores in the lanes where it takes effect, seen by a read issued at t + 1; a tagged write contributes to BEXP
at t + 3. A word written to DM is what a read of that word gives once the write has landed, in the lanes of the write; every
other word and lane reads as before, and DM keeps its canonical form. -/
def Obligations.MemorySlots : Prop :=

  (∀ (s : State) (p : Slot) (m1 : Bool) (k : Fin 16) (d : Fin 32) (lane : Fin 8) (e : Ecc),
  Canonical s →
  let b := s.toWord p
  let n : Nat := p.tile
  let addr (u : Tile) : Nat := ((u.as' k).base + (u.as' k).ptr) % 16384
  let word (u : Tile) (l : Nat) : Word := if e.ue.getLsbD l = true then nth (u.dmw (addr u) l) e.raw l else u.dmw (addr u) l
  let reads (c : Instr) (u : Tile) (f : Nat → Word) (taken : Byte) : Prop := Completes c s (fun t =>
    TileErrs n b t ∧ TileFlag n 1 (oidDmCeCnt n) (laneCount (e.ce &&& taken)) b t ∧
    TileFlag n 2 (oidDmUeCnt n) (laneCount (e.ue &&& taken)) b t ∧
    (∀ i, i = 0 ∨ 3 ≤ i ∧ i < 6 ∨ 7 ≤ i → bit (t.ob (oidTileSticky n)) i = bit (b.ob (oidTileSticky n)) i) ∧
    Adds [(u.cyc + 3, .reg d (u.mask p.pred) (lanes f))] u (t.tile n) ∧
    if e.ue &&& taken = 0 then t.tile n = { u with lands := (t.tile n).lands, seq := (t.tile n).seq } ∧ t.faultQ = b.faultQ ∧
        bit (t.ob (oidTileSticky n)) 6 = bit (b.ob (oidTileSticky n)) 6
      else Fails n 2 (addr u) b t ∧
        t.tile n = { u with lands := (t.tile n).lands, seq := (t.tile n).seq, failed := true, fails := (t.tile n).fails })
  (∀ κ, κ = (if m1 = true then SlotKind.mem1 else .mem0) → s.issues p κ = true → let u := opTile s p κ
    reads (.rd p m1 k d e) u (word u) (u.mask p.pred)) ∧
  (s.issues p .mem0 = true → let u := opTile s p .mem0
    reads (.rdb p lane k d e) u (fun _ => word u lane) (if u.mask p.pred = 0 then 0 else BitVec.ofNat 8 (2 ^ lane.val))) ∧
  (s.issues p .mem1 = true → let u := opTile s p .mem1
    let m := u.mask p.pred
    Completes (.wr p k d) s (fun t => OnlyTile n b t ∧
      InFlight (u.cyc + 1) (.mem (addr u) m (lanes (u.dr d))) u (t.tile n)) ∧
    Completes (.wrt p k d) s (fun t => OnlyTile n b t ∧
      t.tile n = { u with lands := (t.tile n).lands, seq := (t.tile n).seq } ∧
      if m = 0 then Adds [(u.cyc + 1, .mem (addr u) m (lanes (u.dr d)))] u (t.tile n)
      else ∃ x : Nat, Adds [(u.cyc + 1, .mem (addr u) m (lanes (u.dr d))), (u.cyc + 3, .bexp x)] u (t.tile n) ∧
        (∀ l, l < 8 → m.getLsbD l = true → x ≤ leadSign (u.dr d l)) ∧
        ∃ l, l < 8 ∧ m.getLsbD l = true ∧ x = leadSign (u.dr d l)))) ∧
  (∀ (t : Tile) (a : Nat) (m : Byte) (vals : List Word),
  mapWf (fun _ => (0 : Word)) t.dm = true → a < 16384 →
  let u := t.setDm a m vals
  mapWf (fun _ => (0 : Word)) u.dm = true ∧
  ∀ b l : Nat, b < 16384 → l < 8 → u.dmw b l = if b = a ∧ m.getLsbD l = true then nth 0 vals l else t.dmw b l)

/-- R61–R64, R71, R72, R103, R104: the pointer updates complete where the slot is in the word that its tile issues; the new
pointer is seen at t + 1: modulo 16,384 when linear, modulo LEN when circular, in reversed bit order of BRW bits when
bit-reversed. A send leaves the register's lanes on the crossbar, never predicated; a receive field takes the word that
arrives in its cycle, seen at t + 1: what the channel's owner sent four ecyc before in the same quadrant or six in another,
zero where no source owns the channel. A lane whose parity fails receives zero, is flagged and counted, and fails the grain. -/
def Obligations.PointersAndCrossbar : Prop :=

  (∀ (s : State) (p : Slot) (n : Fin 4) (k : Fin 16) (imm : BitVec 4),
  Canonical s → s.issues p (.agu n) = true →
  let u := opTile s p (.agu n)
  let a := u.as' k
  let next (d : Int) : Nat :=
    if a.mode = 1 then (((a.ptr : Int) + d) % (a.len : Int)).toNat
    else if a.mode = 2 then bitRev a.brw (((bitRev a.brw (a.ptr % 2 ^ a.brw) : Int) + d) % (2 ^ a.brw : Int)).toNat
    else (((a.ptr : Int) + d) % 16384).toNat
  let moves (c : Instr) (d : Int) : Prop := Completes c s (fun t => OnlyTile p.tile (s.toWord p) t ∧
    InFlight (u.cyc + 1) (.ptr k (next d)) u (t.tile p.tile))
  moves (.aguPlusStep p n k) a.step ∧ moves (.aguMinusStep p n k) (-a.step) ∧ moves (.aguImmediate p n k imm) imm.toInt) ∧
  (∀ (s : State) (p : Slot) (ch : Fin 2) (d : Fin 32) (perr : Byte),
  Canonical s →
  let b := s.toWord p
  let n : Nat := p.tile
  (s.issues p (.send ch) = true →
    TileBecomes (.txbSend p ch d) s p (.send ch) (fun v => { v with sends := v.sends ++ [⟨v.cyc, ch, lanes (v.dr d)⟩] })) ∧
  (s.issues p (.recv ch) = true →
    let u := opTile s p (.recv ch)
    let w := (b.setTile n u).arrival n u.cyc ch
    let owner := b.img.active.txbOwner (b.workOf n) u.cyc ch
    let got : LandOp := .reg d (u.mask p.pred) (lanes (fun l => if perr.getLsbD l = true then 0 else nth 0 w l))
    (owner = none → w = lanes (fun _ => 0)) ∧
    (∀ src sch x, owner = some (src, sch) → let q := b.carrierOf src
      b.tileState q = 2 → q ≠ n → x ∈ (b.tile q).sends → x.cyc + (if q / 9 = n / 9 then 4 else 6) = u.cyc → x.ch = sch →
      (∀ y ∈ (b.tile q).sends, y.cyc = x.cyc → y.ch = x.ch → y = x) → w = x.vals) ∧
    (perr &&& u.mask p.pred = 0 → Completes (.txbReceive p ch d perr) s (fun t => OnlyTile n b t ∧
      InFlight (u.cyc + 1) got u (t.tile n))) ∧
    (perr &&& u.mask p.pred ≠ 0 → Completes (.txbReceive p ch d perr) s (fun t => TileErrs n b t ∧
      Adds [(u.cyc + 1, got)] u (t.tile n) ∧
      TileFlag n 5 (oidTxbErrCnt n) (laneCount (perr &&& u.mask p.pred)) b t ∧
      Fails n 4 ((perr &&& u.mask p.pred).toNat * 2 ^ 13 + ch) b t ∧
      t.tile n = { u with lands := (t.tile n).lands, seq := (t.tile n).seq, failed := true, fails := (t.tile n).fails }))))

/-- R40, R41, R60, R84, R105, R106, R108, R109: LOOP completes where the slot is in the word that its tile issues: with a
pass to make, an END inside the program beyond its own word and a nesting that R106 allows its level is active from the next
word to END; else it has no effect. After the word at IP the levels that end there are evaluated from the highest down: one
with passes left goes back to its first word with one pass less, one at its last pass becomes inactive; else IP goes on by
one. A slot operation that its tile does not issue has no effect of its own: the tile is not RUNNING, before ecyc 96 or past
the grain's last ecyc, its IP is beyond the program, its word is uncorrectable, or the word has no room for the slot. A tile
that may issue comes to the operation's word; without a reported PM error only its own cycles pass. The word it issues then
reports a corrected error once, an uncorrectable one fails the grain. Of the model's own choices this rests on log 2 (IP
after address 8,191) and log 86 (a slot that no word could carry). -/
def Obligations.LoopsAndIssue : Prop :=

  (∀ (s : State) (p : Slot) (lv : Fin 4) (n : BitVec 16) (e : BitVec 13),
  Canonical s → s.issues p .loop = true →
  let u := opTile s p .loop
  let inside (v : Nat) : Prop := (u.loop v).left ≠ 0 ∧ (u.loop v).first ≤ u.ip ∧ u.ip ≤ (u.loop v).last ∧ e.toNat ≤ (u.loop v).last
  let good : Prop := n ≠ 0 ∧ u.ip < e.toNat ∧ e.toNat < s.img.active.progLen (s.workOf p.tile) ∧
    (∀ v, lv.val ≤ v → v < 4 → (u.loop v).left = 0) ∧ (lv = 0 ∨ inside (lv - 1))
  (good → TileBecomes (.loop p lv n e) s p .loop (fun v => v.setLoop lv ⟨v.ip + 1, e.toNat, n.toNat⟩)) ∧
  (¬good → TileBecomes (.loop p lv n e) s p .loop id)) ∧
  (∀ (t : Tile) (v : Nat), v < 4 → mapWf (fun _ => ({} : LoopLevel)) t.loops = true →
  let ends (k : Nat) : Prop := (t.loop k).left ≠ 0 ∧ (t.loop k).last = t.ip
  ((∀ k, k < 4 → ¬ends k) → t.tick.ip = (t.ip + 1) % 8192 ∧ t.tick.loops = t.loops) ∧
  (ends v → (∀ k, k < 4 → v < k → ¬ends k) → 1 < (t.loop v).left →
    t.tick.ip = (t.loop v).first ∧ t.tick.loop v = { t.loop v with left := (t.loop v).left - 1 } ∧
    ∀ k, k ≠ v → t.tick.loop k = t.loop k) ∧
  (ends v → (∀ k, k < 4 → k ≠ v → ¬ends k) → (t.loop v).left = 1 →
    t.tick.ip = (t.ip + 1) % 8192 ∧ t.tick.loop v = {} ∧ ∀ k, k ≠ v → t.tick.loop k = t.loop k)) ∧
  (∀ (s : State) (c : Instr) (p : Slot) (k : SlotKind), slotOf c = some (p, k) →
  let n : Nat := p.tile
  let x := s.tile n
  let y := x.ticks p.adv
  let may : Prop := s.tileState n = 2 ∧ 96 ≤ x.cyc ∧ x.cyc + p.adv < s.cs * s.gsize
  (s.issues p k = false → exec c s = .next (s.toWord p)) ∧
  (¬may → s.issues p k = false ∧ s.toWord p = s) ∧
  (may → Canonical s → x.pmErr = [] → x.pmHits = [] → s.toWord p = s.setTile n y ∧ y.cyc = x.cyc + p.adv ∧
    (s.issues p k = true ↔ y.ip < s.img.active.progLen (s.workOf n) ∧ fitsWord (k :: y.used) = true)) ∧
  (may → Canonical s → p.adv = 0 → x.pmHits = [] → x.pmErr.contains (x.ip, true) = true → s.issues p k = false) ∧
  (may → Canonical s → p.adv = 1 → x.pmHits = [] → ∀ ue, x.pmErr = [(x.ip, ue)] → let t := s.toWord p
    TileErrs n s t ∧ (ue = false → TileFlag n 3 (oidPmCeCnt n) 1 s t ∧ t.tile n = { y with pmHits := [] }) ∧
    (ue = true → TileFlag n 4 (oidPmUeCnt n) 1 s t ∧ Fails n 3 x.ip s t)))

/-- R69, R73, R74, R91: results land in the order of their cycles and, in one cycle, of their priorities: after `settle c`
no result that cycle `c` sees is in flight, and a register result alone in flight is read from its cycle on, in its lanes,
and from no other register or lane. K0 reads 1 in every lane whatever lands, and a write to K0 changes no predicate. Of the
model's own choices this rests on log 41 (the cycle in which a result has landed). -/
def Obligations.Landing : Prop :=

  (∀ (t : Tile) (d : Fin 32) (m : Byte) (vals : List Word) (at' prio seq c : Nat),
  mapWf (fun _ => (0 : Word)) t.d = true → t.lands = [⟨at', prio, seq, .reg d m vals⟩] →
  let u := t.settle c
  (c < at' → u = t) ∧
  (at' ≤ c → u.lands = [] ∧ ∀ r l : Nat, r < 32 → l < 8 →
    u.dr r l = if r = d ∧ m.getLsbD l = true then nth 0 vals l else t.dr r l)) ∧
  (∀ (t : Tile) (m v : Byte) (l : Nat),
  t.pr 0 l = true ∧ t.setK 0 m v = t ∧ (t.landOp (.pred 0 m v)).pr 0 l = true)

/-- R22, R40, R59, R65, R79–R81, R121, R134, R136: a write of AS_GEOM_k or AS_STEPMOD_k of a set that the image declares
tunable completes: it reads back at once, from the shadow, the set in force stays, and nothing of the state but the tile's
shadows changes. A geometry outside the declared region, a length outside 1–16,384, MOD 3 and a BRW of 0 or 15 beside MOD 2
are refused with RANGE. At the boundary that applies them, a pending field of a set takes effect, a field without a pending
write keeps its value unless a set sharing the buffer has one, and a pointer that a new length leaves outside is reduced
modulo it; no write stays pending. A SERVICE cycle of a tile that may issue, which neither T3 nor the FIR loader takes,
reads the next persistent word into the pass; the last word of the pass makes the pass the tile's checkpoint, of age 0. In a
failed grain, or without persistent words, the cycle alone is taken; in any other cycle nothing acts. A window cycle of a
tile that may issue. A PARAM cycle writes the next bound word of its own range that does not hold its value for the grain to
come. A SERVICE cycle, of at most 32 in a grain, gives the FIR loader its word, else serves the oldest waiting access: a
write lands in the bytes that it names, a read answers the word. Outside the tile's ranges, beside an access of slot 1 and
in a tile that may not issue nothing acts. -/
def Obligations.TileDataOutsideWords : Prop :=

  (∀ (s : State) (acc : Access) (n : Fin 36) (k : Fin 16) (v : Word),
  Canonical s →
  let p := (s.asTile n).1
  let base := v.toNat % 2 ^ 14
  let len := v.toNat / 2 ^ 14 % 2 ^ 15
  let md := v.toNat / 2 ^ 16 % 4
  let brw := v.toNat / 2 ^ 18 % 16
  mapWf (fun _ => ({} : AsShadow)) (s.tile p).shadows = true →
  (∀ r, s.admits acc (oidAsGeom n k) v = true → s.img.active.tunable (s.asTile n).2 k = some r →
    (v.toNat < 2 ^ 29 ∧ 1 ≤ len ∧ len ≤ 16384 ∧ r.1 ≤ base ∧ base + len ≤ r.1 + r.2 →
      Completes (.asGeomWrite acc n k v) s (fun t => t.readAsGeom n k = v ∧
        ∃ x, Stored (s.setTile p x) t ∧ x = { s.tile p with shadows := x.shadows } ∧
          ∀ j, j ≠ k.val → x.shadow j = (s.tile p).shadow j)) ∧
    (len = 0 ∨ 16384 < len ∨ base < r.1 ∨ r.1 + r.2 < base + len →
      Completes (.asGeomWrite acc n k v) s (TurnedAway s (oidAsGeom n k) stRange))) ∧
  (s.admits acc (oidAsStepmod n k) v = true →
    (v.toNat < 2 ^ 22 ∧ v.getLsbD 15 = false ∧ md ≠ 3 ∧ (md = 2 → 1 ≤ brw ∧ brw ≤ 14) →
      Completes (.asStepmodWrite acc n k v) s (fun t => t.readAsStepmod n k = v ∧
        ∃ x, Stored (s.setTile p x) t ∧ x = { s.tile p with shadows := x.shadows } ∧
          ∀ j, j ≠ k.val → x.shadow j = (s.tile p).shadow j)) ∧
    (md = 3 ∨ md = 2 ∧ (brw = 0 ∨ brw = 15) →
      Completes (.asStepmodWrite acc n k v) s (TurnedAway s (oidAsStepmod n k) stRange)))) ∧
  (∀ (t : Tile) (k : Nat), k < 16 → mapWf (fun _ => ({} : AddrSet)) t.sets = true →
  let u := t.applyShadows
  u.shadows = [] ∧ u = { t with sets := u.sets, shadows := [] } ∧
  (∀ b, (t.shadow k).base = some b → (u.as' k).base = b) ∧
  (∀ l, (t.shadow k).len = some l → (u.as' k).len = l) ∧
  (∀ d, (t.shadow k).step = some d → (u.as' k).step = d) ∧
  (∀ m, (t.shadow k).md = some m → (u.as' k).mode = m.1 ∧ (u.as' k).brw = m.2) ∧
  ((t.shadow k).step = none → (u.as' k).step = (t.as' k).step) ∧
  ((∀ j, j < 16 → (t.shadow j).len = none) → (u.as' k).len = (t.as' k).len ∧ (u.as' k).ptr = (t.as' k).ptr) ∧
  ((u.as' k).len ≠ (t.as' k).len → 0 < (u.as' k).len → (u.as' k).ptr < (u.as' k).len)) ∧
  (∀ (s : State) (n : Fin 36) (adv : Nat), Canonical s →
  let p : Slot := ⟨n, adv, ⟨0, false⟩⟩
  let b := s.toWord p
  let x := opTile s p .window
  let v := b.setTile n x
  let ws := b.img.active.persistWords (b.workOf n)
  let mine : Prop := s.canIssue p = true ∧ fitsWord x.used = true ∧ v.serviceWaits n = false ∧
    (b.img.active.windowAt (b.workOf n) x.cyc).map Prod.snd = some 1
  mapWf (fun _ => (0 : Word)) x.ckpt.pass = true →
  (mine → x.failed = false → ws ≠ [] → Completes (.checkpointCycle n adv) s (fun t =>
    t = { b with tiles := t.tiles, dmem := t.dmem } ∧ (∀ m, m ≠ n.val → t.tile m = b.tile m) ∧
    t.dmem = { b.dmem with units := t.dmem.units, raw := t.dmem.raw } ∧
    t.tile n = { x with ckpt := (t.tile n).ckpt } ∧
    (x.ckpt.pos + 1 < ws.length → (t.tile n).ckpt = { x.ckpt with pos := x.ckpt.pos + 1, pass := (t.tile n).ckpt.pass } ∧
      ∀ a l, l < 8 → mapGet (fun _ => 0) (t.tile n).ckpt.pass (8 * a + l) =
        if a = nth 0 ws x.ckpt.pos then x.dmw a l else mapGet (fun _ => 0) x.ckpt.pass (8 * a + l)) ∧
    (ws.length ≤ x.ckpt.pos + 1 → (t.tile n).ckpt.pos = 0 ∧ (t.tile n).ckpt.valid = true ∧ (t.tile n).ckpt.age = 0 ∧
      (t.tile n).ckpt.pass = [] ∧ ∀ a l, l < 8 → mapGet (fun _ => 0) (t.tile n).ckpt.area (8 * a + l) =
        if a = nth 0 ws x.ckpt.pos then x.dmw a l else mapGet (fun _ => 0) x.ckpt.pass (8 * a + l)))) ∧
  (mine → x.failed = true ∨ ws = [] → exec (.checkpointCycle n adv) s = .next v) ∧
  (¬mine → exec (.checkpointCycle n adv) s = .next b)) ∧
  (∀ (s : State) (n : Fin 36) (adv : Nat), Canonical s →
  let p : Slot := ⟨n, adv, ⟨0, false⟩⟩
  let b := s.toWord p
  let x := opTile s p .window
  let v := b.setTile n x
  let free : Prop := s.canIssue p = true ∧ fitsWord x.used = true
  let range := b.img.active.windowAt (b.workOf n) x.cyc
  let c : Instr := .t3WindowService n adv
  let one (a : T3Acc) (w : Word) (i : Nat) : Byte :=
    if a.bytes.getLsbD i = true then a.data.extractLsb' (8 * i) 8 else w.extractLsb' (8 * i) 8
  (free → ∀ i, range = some (i, 0) →
    (∀ w, v.nextBound n i (v.gn + 1) = some w → w.win = i ∧ w.tile = b.workOf n ∧ x.dmKey w.key ≠ w.value ∧
      Completes c s (fun t => OnlyTile n b t ∧ t.tile n = x.setDmKey w.key w.value)) ∧
    (v.nextBound n i (v.gn + 1) = none → exec c s = .next b)) ∧
  (free → ∀ i, range = some (i, 1) →
    (v.serviceWaits n = false → exec c s = .next b) ∧
    (x.t3used < 32 → ∀ m, v.firNext (v.workOf n) = some m → let f := v.firStep m
      exec c s = .next (f.setTile n { f.tile n with t3used := x.t3used + 1 })) ∧
    (x.t3used < 32 → v.firNext (v.workOf n) = none → ∀ a r, x.t3q = a :: r →
      (a.write = true → Completes c s (fun t => OnlyTile n b t ∧
        t.tile n = { x with t3q := r, t3used := x.t3used + 1, dm := (t.tile n).dm } ∧
        ∀ k, (mapWf (fun _ => (0 : Word)) x.dm = true) → (t.tile n).dmKey k = if k = a.addr then
          one a (x.dmKey k) 3 ++ one a (x.dmKey k) 2 ++ one a (x.dmKey k) 1 ++ one a (x.dmKey k) 0 else x.dmKey k)) ∧
      (a.write = false → Completes c s (fun t => t.answer.body = leBytes 4 (x.dmKey a.addr).toNat ∧
        t = { b with tiles := t.tiles, answer := t.answer } ∧ (∀ m, m ≠ n.val → t.tile m = b.tile m) ∧
        t.tile n = { x with t3q := r, t3used := x.t3used + 1 })))) ∧
  (¬free ∨ range = none → exec c s = .next b))

/-- R111, R112, R137, R148, R149: a write of IMG_WR_OFFSET or IMG_WR_DATA enters RECEIVING with an empty buffer unless it is
receiving, stores the offset, or the word's four bytes, least significant first, with the offset advanced by 4; a misaligned
offset and data at 16 MiB or more give RANGE, a buffer that verifies or activates BUSY, and store nothing. The actions of
IMG_CTRL by the state of PENDING. VERIFY goes from RECEIVING to VERIFYING; ACTIVATE from VERIFIED to ACTIVATING, where
AT_TIME needs an enabled time action; DISCARD to EMPTY; LOAD_NOR copies a slot and verifies; STORE_NOR writes the VERIFIED
image to the slot and leaves PENDING; CANCEL before b0 returns to VERIFIED. What the state does not allow is NOT_READY;
VERIFYING and ACTIVATING answer BUSY to all but CANCEL. -/
def Obligations.ImageBuffer : Prop :=

  (∀ (s : State) (acc : Access) (v : Word), Canonical s →
  let o := (s.ob oidImgWrOffset).toNat
  let st := (s.ob oidImgPendState).toNat
  let empty : State := { s with img := { s.img with pend := {}, norBad := false, fromNor := false } }
  let fresh : State := if st = 1 then s else (empty.put oidImgPendState 1).put oidImgPendId 0
  (s.admits acc oidImgWrOffset v = true →
    (v.toNat % 4 ≠ 0 → Completes (.imgWrOffsetWrite acc v) s (TurnedAway s oidImgWrOffset stRange)) ∧
    (v.toNat % 4 = 0 → st = 2 ∨ st = 5 → Completes (.imgWrOffsetWrite acc v) s (TurnedAway s oidImgWrOffset stBusy)) ∧
    (v.toNat % 4 = 0 → st ≠ 2 → st ≠ 5 → Completes (.imgWrOffsetWrite acc v) s (fun t =>
      Stored (fresh.put oidImgWrOffset v) t))) ∧
  (s.admits acc oidImgWrData v = true →
    (0x1000000 ≤ o → Completes (.imgWrDataWrite acc v) s (TurnedAway s oidImgWrData stRange)) ∧
    (o < 0x1000000 → st = 2 ∨ st = 5 → Completes (.imgWrDataWrite acc v) s (TurnedAway s oidImgWrData stBusy)) ∧
    (o < 0x1000000 → st ≠ 2 → st ≠ 5 → mapWf (fun _ => (0 : Byte)) s.img.pend.bytes = true →
      Completes (.imgWrDataWrite acc v) s (fun t => ∃ x : ImgBuf,
        Stored ({ fresh with img := { fresh.img with pend := x } }.put oidImgWrOffset (BitVec.ofNat 32 (o + 4))) t ∧
        x.recv = max fresh.img.pend.recv (o + 4) ∧
        ∀ a, x.byte a = if o ≤ a ∧ a < o + 4 then v.extractLsb' (8 * (a - o)) 8 else fresh.img.pend.byte a)))) ∧
  (∀ (s : State) (acc : Access) (part time slot boot : Bool), Canonical s →
  let st := (s.ob oidImgPendState).toNat
  let code (n : Nat) : Word := BitVec.ofNat 32 n
  let act : Activation := { phase := 1, partial' := part, atTime := time, peerWait := s.mirrors }
  let ta := 2 + (if part then 64 else 0) + (if time then 128 else 0)
  let tl := 4 + (if slot then 16 else 0)
  let ts := 5 + (if slot then 16 else 0) + (if boot then 32 else 0)
  (st ≠ 2 → st ≠ 5 →
    (s.admits acc oidImgCtrl 1 = true →
      (st = 1 → Completes (.verify acc) s (Stored ((s.put oidImgPendState 2).put oidImgPendId 0))) ∧
      (st ≠ 1 → Completes (.verify acc) s (TurnedAway s oidImgCtrl stNotReady))) ∧
    (s.admits acc oidImgCtrl (code ta) = true →
      (st = 3 → (time = true → (s.taEnabled 8).isSome = true) → Completes (.activate acc part time) s
        (Stored ((({ s with img := { s.img with act := act, autoAct := false } } : State).put oidImgPendState 5).put oidImgPendId
          (wd s.img.pend.id)))) ∧
      (st ≠ 3 ∨ time = true ∧ s.taEnabled 8 = none → Completes (.activate acc part time) s (TurnedAway s oidImgCtrl stNotReady))) ∧
    (s.admits acc oidImgCtrl 3 = true → Completes (.discard acc) s (Stored ((s.put oidImgPendState 0).put oidImgPendId 0))) ∧
    (s.admits acc oidImgCtrl (code tl) = true → Completes (.loadNor acc slot) s (fun t => ∃ x : ImgSt,
      Stored ((({ s with img := x } : State).put oidImgPendState 2).put oidImgPendId 0) t ∧
      x = { s.img with pend := x.pend, norBad := x.norBad, fromNor := true } ∧ x.pend.recv = 0x1000000 ∧
      ∀ b, (if slot then s.img.nor1 else s.img.nor0) = some b → x.norBad = false ∧ x.pend.bytes = b.bytes)) ∧
    (s.admits acc oidImgCtrl (code ts) = true →
      (st = 3 → Completes (.storeNor acc slot boot) s (fun t => ∃ x : ImgSt, Stored { s with img := x } t ∧
        x = { s.img with nor0 := x.nor0, nor1 := x.nor1, bootSlot := if boot then slot else s.img.bootSlot } ∧
        (if slot then x.nor1 else x.nor0) = some { s.img.pend with recv := 0x1000000 } ∧
        (if slot then x.nor0 = s.img.nor0 else x.nor1 = s.img.nor1))) ∧
      (st ≠ 3 → Completes (.storeNor acc slot boot) s (TurnedAway s oidImgCtrl stNotReady)))) ∧
  (st = 2 ∨ st = 5 →
    (s.admits acc oidImgCtrl 1 = true → Completes (.verify acc) s (TurnedAway s oidImgCtrl stBusy)) ∧
    (s.admits acc oidImgCtrl (code ta) = true → Completes (.activate acc part time) s (TurnedAway s oidImgCtrl stBusy)) ∧
    (s.admits acc oidImgCtrl 3 = true → Completes (.discard acc) s (TurnedAway s oidImgCtrl stBusy)) ∧
    (s.admits acc oidImgCtrl (code tl) = true → Completes (.loadNor acc slot) s (TurnedAway s oidImgCtrl stBusy)) ∧
    (s.admits acc oidImgCtrl (code ts) = true → Completes (.storeNor acc slot boot) s (TurnedAway s oidImgCtrl stBusy))) ∧
  (s.admits acc oidImgCtrl 6 = true →
    (st ≠ 5 → Completes (.cancel acc) s (TurnedAway s oidImgCtrl stNotReady)) ∧
    (st = 5 → s.img.act.phase = 1 → Completes (.cancel acc) s (fun t =>
      Stored ((({ s.disableTa 8 with img := { s.img with act := {} } } : State).put oidImgPendState 3).put oidImgPendId
        (wd s.img.pend.id)) t ∧ ∀ e, s.taEnabled 8 = some e → bit (t.ob (oidTaCfg e)) 0 = false)) ∧
    (st = 5 → s.img.act.phase ≠ 1 → Completes (.cancel acc) s (TurnedAway s oidImgCtrl stBusy))))

/-- R75, R111, R113, R130, R131, R137–R142, R144, R231, R526: the events of verification and activation. A verification ends
in VERIFIED, or in REFUSED with the first code of R131; b0 begins the fade, or refuses with CS_MISMATCH or the partial-swap
code and returns to VERIFIED; the tiles stop once L samples have been faded; the load completes; the start exchanges ACTIVE
and PENDING; an image for the rate in force is activated while the tiles stand stopped for one. A load onto a spare, or back
onto its own tile, leaves program, data and checkpoint in the tile, ready to start; its start sets the tile RUNNING and
reports it; an image word that fails twice ends the takeover; without a load in progress the commands have no effect. Of the
model's own choices this rests on log 4 (which IMG_FADE_LEN counts) and log 52 (the checks at b0). -/
def Obligations.ImageEventsAndTakeover : Prop :=

  (∀ (s : State) (ue : Nat) (unread : Bool), Canonical s →
  let st := (s.ob oidImgPendState).toNat
  let a := s.img.act
  let errs := [oidImgPendState, oidImgPendId, oidImgErrCode, oidImgErrTile, oidImgErrLoc]
  let refused (e : ImgErr) (t : State) : Prop := t.ob oidImgErrCode = wd e.1 ∧ t.ob oidImgErrTile = wd e.2.1 ∧
    t.ob oidImgErrLoc = wd e.2.2
  let lost : Prop := s.img.norBad = true ∨ unread = true ∧ s.img.fromNor = true
  (st = 2 → Completes (.imgVerifyDone unread) s (fun t => Leaves (among errs) s t ∧
    (lost → t.ob oidImgPendState = 4 ∧ refused (0x14, 0xFF, 0) t) ∧
    (¬lost → s.img.pend.verify = none → t.ob oidImgPendState = 3 ∧ t.ob oidImgPendId = wd s.img.pend.id) ∧
    (∀ e : ImgErr, ¬lost → s.img.pend.verify = some e → t.ob oidImgPendState = 4 ∧ refused e t))) ∧
  (st ≠ 2 → exec (.imgVerifyDone unread) s = .next s) ∧
  (a.phase = 1 → a.peerWait = false → (a.atTime = true → a.fired = true) → a.b0.all (fun x => 0 ≤ (s.gn + 1 - x).toInt) = true →
    (∀ e : ImgErr, s.actRefusal = some e → Completes .imgActivationBegin s (fun t => t.ob oidImgPendState = 3 ∧
      refused e t ∧ ∃ u, Leaves (among errs) s u ∧ t = { u with img := { s.img with act := {} } })) ∧
    (s.actRefusal = none → Completes .imgActivationBegin s (fun t => t.img.act.phase = 3 ∧ t.img.act.samples = 0 ∧
      t.img.act.len = (s.ob oidImgFadeLen).toNat ∧ t.tiles = s.tiles ∧ t.img.active = s.img.active ∧ t.img.pend = s.img.pend ∧
      t.mix.silHeld = true ∧ t.ps = s.ps ∧ t.dmem = s.dmem ∧ t.conv = s.conv ∧ t.ports = s.ports ∧ t.guard = s.guard))) ∧
  (a.phase ≠ 1 ∨ a.peerWait = true ∨ a.atTime = true ∧ a.fired = false → exec .imgActivationBegin s = .next s) ∧
  (a.phase = 3 → a.len ≤ a.samples → Completes .imgTilesStop s (fun t => t.img.act.phase = 4 ∧ t.img.active = s.img.active ∧
    t.img.pend = s.img.pend)) ∧
  (a.phase = 3 → a.samples < a.len → exec .imgTilesStop s = .next s) ∧
  (a.phase = 4 → Completes (.imgLoadDone none) s (fun t => t.img.act.phase = 5 ∧ t.img.act.back = a.back ∧
      t.img.active = s.img.active ∧ t.img.pend = s.img.pend) ∧
    Completes (.imgLoadDone (some ue)) s (fun t => t.img.act.phase = 5 ∧ t.img.act.back = true ∧
      t.ob oidImgErrCode = 3 ∧ t.ob oidImgPendState = 3 ∧ t.ob oidDmemUeAddr = BitVec.ofNat 32 ue ∧
      t.img.active = s.img.active ∧ t.img.pend = s.img.pend)) ∧
  (a.phase ≠ 3 → exec .imgTilesStop s = .next s) ∧ (a.phase ≠ 4 → exec (.imgLoadDone none) s = .next s) ∧
  (a.phase = 5 → s.img.relock = false → a.back = false → s.img.pend.cs ≠ rateCs s.conv.rateA →
    Completes .imgTilesStart s (fun t => t.img.act.phase = 0 ∧ t.ob oidImgPendState = 3 ∧ t.img.active = s.img.active ∧
      t.img.pend = s.img.pend ∧ t.ob oidImgErrCode = 0x12)) ∧
  (a.phase ≠ 5 ∨ s.img.relock = true → exec .imgTilesStart s = .next s) ∧
  (a.phase = 5 → s.img.relock = false → a.back = true ∨ s.img.pend.cs = rateCs s.conv.rateA →
    Completes .imgTilesStart s (fun t => t.img.act.phase = 0 ∧ t.img.running = true ∧ t.guard.sys = false ∧
    (a.back = false → t.img.active = s.img.pend ∧ t.img.pend = s.img.active ∧
      t.ob oidImgActiveId = BitVec.ofNat 32 s.img.pend.id ∧
      t.ob oidImgActiveForm = BitVec.ofNat 32 (s.img.pend.cs + 65536 * s.img.pend.g) ∧
      t.ob oidImgPendState = if s.imgActive then 3 else 0))) ∧
  (s.img.relockStop = true → st = 3 → s.img.pend.cs = rateCs s.conv.rateA → s.cs ≠ rateCs s.conv.rateA ∨ s.img.autoAct = true →
    Completes .imgAutoActivate s (fun t => t = { s with img := t.img, obj := t.obj } ∧
      t.img = { s.img with act := { phase := 1, peerWait := s.mirrors }, autoAct := false } ∧
      t.ob oidImgPendState = 5 ∧ t.ob oidImgPendId = wd s.img.pend.id ∧
      ∀ o, o ≠ oidImgPendState → o ≠ oidImgPendId → t.ob o = s.ob o)) ∧
  (s.img.relockStop = false ∨ st ≠ 3 ∨ s.img.pend.cs ≠ rateCs s.conv.rateA → exec .imgAutoActivate s = .next s)) ∧
  (∀ (s : State) (n : Fin 36) (k : Takeover) (a : Nat), Canonical s →
  s.takeover n = some k → k.onto = n.val →
  let p := s.img.active
  let loaded (t : State) : Prop := (t.tile n).pm = p.pmOf k.work ∧ (t.tile n).sets = p.setsOf k.work ∧
    (t.tile n).ip = p.entry k.work ∧ (t.tile n).cyc = 0 ∧ (t.tile n).d = [] ∧ t.obj = s.obj ∧
    (∀ x, t.takeover n = some x → x.phase = 2) ∧ (∀ m, m ≠ n.val → t.tile m = s.tile m)
  (k.work ≠ n.val → k.phase = 1 → Completes (.spareLoadDone n .ok) s loaded ∧
    Completes (.spareLoadDone n (.image a)) s (fun t => t.ob oidDmemUeAddr = BitVec.ofNat 32 a ∧
      ∀ x ∈ t.img.takeovers, x.work ≠ k.work)) ∧
  (k.work ≠ n.val → k.phase = 2 → s.carrierOf k.work = n.val → s.tileState n = 1 →
    Completes (.spareStart n) s (fun t => t.tileState n = 2 ∧ ∀ x ∈ t.img.takeovers, x.work ≠ k.work)) ∧
  (s.workOf n = k.work → s.img.retired.contains k.work = false → k.phase = 1 →
    Completes (.tileReloadDone n .ok) s loaded) ∧
  (s.workOf n = k.work → s.img.retired.contains k.work = false → k.phase = 2 → s.carrierOf k.work = n.val →
    s.tileState n = 1 → Completes (.tileRestart n) s (fun t => t.tileState n = 2 ∧
      ∀ x ∈ t.img.takeovers, x.work ≠ k.work)) ∧
  (k.phase = 0 → exec (.spareLoadDone n .ok) s = .next s ∧ exec (.spareStart n) s = .next s ∧
    exec (.tileReloadDone n .ok) s = .next s ∧ exec (.tileRestart n) s = .next s))

/-- R27, R75, R142, R256, R257, R336, R551: DOM_RATE_A takes a new rate, mutes the outputs and asks for a relock; OFF gives
RANGE and the value in force changes nothing. DOM_RATE_B and DOM_RATE_C take any rate; OFF stops the domain's DPLL. A domain
whose rate is OFF cannot be assigned. At ENGINE_STOP every RUNNING or GATED tile stops and DA takes the rate of DOM_RATE_A;
at ENGINE_RESTART the relock ends, and with an image for the rate the mute of the outputs ends. A lost XO mutes the outputs,
drives SAFE_MUTE_N for its cause and asks for a relock; its return clears XO_STATE. Outside their conditions the four do
nothing. Of the model's own choices this rests on log 52 (what an engine without an image does). -/
def Obligations.DomainsAndRelock : Prop :=

  (∀ (s : State) (acc : Access) (v : Word) (c : Bool) (kind : Fin 3) (n : Fin 128),
  Canonical s →
  let rb := if c then oidDomRateC else oidDomRateB
  let od := if kind.val = 0 then oidPortDomain n else if kind.val = 1 then oidNetRxDomain n else oidNetTxDomain n
  (s.admits acc oidDomRateA v = true →
    (v = 0 → Completes (.domRateAWrite acc v) s (TurnedAway s oidDomRateA stRange)) ∧
    (v ≠ 0 → s.ob oidDomRateA = v → Completes (.domRateAWrite acc v) s (Stored s)) ∧
    (v ≠ 0 → s.ob oidDomRateA ≠ v → Completes (.domRateAWrite acc v) s (fun t =>
      t.answer = {} ∧ t.ob oidDomRateA = v ∧ t.guard = { s.guard with sys := true } ∧ t.img.relock = true ∧ t.img.act.phase = 0 ∧
      t.conv.rateA = s.conv.rateA ∧ t.ps = s.ps ∧ t.moult = s.moult ∧ t.time = s.time ∧ t.pwr = s.pwr))) ∧
  (s.admits acc rb v = true →
    (s.ob rb = v → Completes (.domRateBcWrite acc c v) s (Stored s)) ∧
    (s.ob rb ≠ v → Completes (.domRateBcWrite acc c v) s (fun t => t.answer = {} ∧ t.ob rb = v ∧
      (v = 0 → t.ob (oidDpllState (if c then 2 else 1)) = 0)))) ∧
  (s.admits acc od v = true →
    (v.toNat < 3 → s.domHz v.toNat ≠ 0 → Completes (.domainAssignWrite acc kind n v) s (Stored (s.put od v))) ∧
    (3 ≤ v.toNat ∨ s.domHz v.toNat = 0 → Completes (.domainAssignWrite acc kind n v) s (TurnedAway s od stRange)))) ∧
  (∀ s : State, Canonical s →
  let stop : Prop := s.img.relock = true ∧ ¬(s.img.relockStop = true ∧ (s.ob oidDomRateA).toNat = s.conv.rateA)
  let go : Prop := s.img.relock = true ∧ s.img.relockStop = true ∧ (s.ob oidDomRateA).toNat = s.conv.rateA ∧ s.ob oidXoState = 0
  (stop → Completes .engineStop s (fun t => t.img.relockStop = true ∧ t.conv.rateA = (s.ob oidDomRateA).toNat ∧
    ∀ p, p < 36 → t.tileState p ≠ 2 ∧ t.tileState p ≠ 3 ∧
      (s.tileState p ≠ 2 → s.tileState p ≠ 3 → t.tileState p = s.tileState p))) ∧
  (¬stop → exec .engineStop s = .next s) ∧
  (go → Completes .engineRestart s (fun t => t.img.relock = false ∧
    (s.imgActive = true → s.cs = rateCs s.conv.rateA → s.img.autoAct = false → t.img.relockStop = false ∧ t.guard.sys = false) ∧
    (s.cs ≠ rateCs s.conv.rateA → t.img.relockStop = true ∧ t.guard.sys = s.guard.sys))) ∧
  (¬go → exec .engineRestart s = .next s) ∧
  (s.ob oidXoState = 0 → Completes .xoLost s (fun t => t.ob oidXoState = 1 ∧ t.guard.sys = true ∧ 1 ∈ t.guard.safe ∧
    t.img.relock = true ∧ t.tiles = s.tiles)) ∧
  (s.ob oidXoState ≠ 0 → exec .xoLost s = .next s) ∧
  (s.ob oidXoState ≠ 0 → Completes .xoRestored s (fun t => t.ob oidXoState = 0 ∧ t.img = s.img ∧ t.tiles = s.tiles)) ∧
  (s.ob oidXoState = 0 → exec .xoRestored s = .next s))

/-- R175–R178, R184, R493: a crossfade that has run its length ends; a deferred change then starts with the length and law
of PATCH_XF; a write of 1 clears DEFERRED and the active of a pair queues it for its boundary; a silence detector whose hold
times have passed goes to TAIL or SILENT while the tiles run. Of the model's own choices this rests on log 14 (the level of
a tail) and log 53 (the clock of the detectors). -/
def Obligations.RoutesAndSilence : Prop :=
  ∀ (s : State) (acc : Access) (k src : Nat) (v : Word) (tic : Fin 4096) 
    (reports : List (Nat × Nat × Nat)) (c : ObjClass), Canonical s →
  let p := s.sink k
  let o := oidPatchStatus k
  let xf := s.psWordAt (oidPatchXf k) (s.gn + 1)
  let d := s.tapReports (reports.filter (fun r => stripOfTap r.1 = some tic.val))
  let moves (x : Word) : Prop := Completes (.silHoldExpire tic reports) s (fun t =>
    t.ob (oidSilState tic) = x ∧ (∀ o, o ≠ oidSilState tic → t.ob o = s.ob o) ∧ t = { d with obj := t.obj, mix := t.mix } ∧
    t.mix.dets = d.mix.dets)
  let runs : Prop := s.img.running = true ∧ s.mix.silHeld = false ∧ s.img.relock = false ∧ s.img.relockStop = false
  (p.xfL ≠ 0 → p.xfL ≤ p.xfK →
    exec (.patchXfEnd k) s = .next (s.setSink k { p with xfOld := 0xFFFF, xfK := 0, xfL := 0, xfGain := false })) ∧
  (p.xfL = 0 ∨ p.xfK < p.xfL → exec (.patchXfEnd k) s = .next s) ∧
  (p.waiting = some src → p.xfL = 0 →
    (src = p.src → exec (.patchDeferredStart k) s = .next (s.setSink k { p with waiting := none })) ∧
    (src ≠ p.src → p.vdir = 2 → exec (.patchDeferredStart k) s = .next (s.setSink k { p with src := src, waiting := none })) ∧
    (src ≠ p.src → p.vdir ≠ 2 → exec (.patchDeferredStart k) s = .next (s.setSink k { p with
      xfOld := p.src, src := src, xfK := 0, xfL := xf.toNat % 2 ^ 13, xfGain := xf.getLsbD 16, waiting := none }))) ∧
  (p.waiting = none ∨ p.xfL ≠ 0 → exec (.patchDeferredStart k) s = .next s) ∧
  (s.admits acc o v = true →
    (v.getLsbD 3 = true → Completes (.patchStatusWrite acc k v) s (fun t => bit (t.ob o) 3 = false ∧ t.mix = s.mix ∧
      t.answer = {} ∧ Touches [o] s t)) ∧
    (v.getLsbD 3 = false → Completes (.patchStatusWrite acc k v) s (Stored s))) ∧
  (checkWrite acc o = .ok c → c.base = 0xEC000 → s.setDenied acc o v = false → encBad c v = false → s.mirrors = true →
    let r := MirrorRec.write o v s.nextAct
    exec (.patchStatusWrite acc k v) s = .next
      { ({ s with twin := { s.twin with queue := s.twin.queue ++ [r] } } : State).mirror r with answer := {} }) ∧
  (runs → s.sil tic = 1 → d.inputQuiet tic = true → moves (if d.tailQuiet tic then 3 else 2)) ∧
  (runs → s.sil tic = 2 → d.tailQuiet tic = true → moves 3) ∧
  (¬runs ∨ s.sil tic = 0 ∨ s.sil tic = 3 → exec (.silHoldExpire tic reports) s = .next d) ∧
  (d = { s with conv := d.conv, mix := d.mix } ∧ d.conv = { s.conv with macc := d.conv.macc } ∧
    d.mix = { s.mix with dets := d.mix.dets })

/-- R262–R268, R281, R287: writes of a bridge group and of a channel's far end. An enabled group with PD5 powered acquires
when the rate pair qualifies, else it is UNLOCKED; a cleared ENABLE turns it OFF; the same word again changes nothing. A far
end that is not of the group's far domain and direction, or a far sink already fed, gives RANGE; an accepted end is valid or
shows CH_INVALID. The events of a bridge group. Lock reports ratio and delay and fades in; two seconds without it set
ACQ_SLOW; a ratio out of range unlocks; a position slip resynchronises, and its re-centring locks again. In any other state
the event changes nothing. Of the model's own choices this rests on log 22 (what the tracker reports). -/
def Obligations.BridgeGroups : Prop :=

  (∀ (s : State) (acc : Access) (g : Fin 16) (c : Fin 256) (v : Word), Canonical s →
  let u := s.put (oidBrgGrpCfg g) v
  let starts := if u.domHz (u.brgFarDom g) ≠ 0 ∧ s.obn oidDomRateA = s.conv.rateA ∧ u.brgQualifies g = true then 1 else 3
  let os := [oidBrgGrpCfg g, oidBrgGrpStatus g, oidBrgGrpDelay g, oidBrgGrpRatio g]
  let becomes (x : Nat) (t : State) : Prop := t.answer = {} ∧ t.brg g = x ∧ t.ob (oidBrgGrpCfg g) = v ∧
    (x = 1 → t.ob (oidBrgGrpRatio g) = u.nominalRatio g) ∧ Touches os s t ∧
    t.conv = { s.conv with grpFade := t.conv.grpFade, outCfg := t.conv.outCfg, lockCnt := t.conv.lockCnt }
  let w := s.put (oidBrgFar c) v
  let fed : Prop := s.brgOut c = true ∧ ∃ k, k < 256 ∧ k ≠ c.val ∧ s.brgOut k = true ∧ s.ob (oidBrgFar k) = v
  let named : Prop := v = 0xFFFF ∨ s.farEnd (s.brgOut c) (s.brgFarDom (c / 16)) v.toNat = true ∧ ¬fed
  (s.admits acc (oidBrgGrpCfg g) v = true →
    (v ≠ s.ob (oidBrgGrpCfg g) → v.getLsbD 0 = false → Completes (.brgGrpCfgWrite acc g v) s (becomes 0)) ∧
    (v ≠ s.ob (oidBrgGrpCfg g) → v.getLsbD 0 = true → s.brg g ≠ 0 ∨ s.pd5 = true →
      Completes (.brgGrpCfgWrite acc g v) s (becomes starts)) ∧
    (v ≠ s.ob (oidBrgGrpCfg g) → v.getLsbD 0 = true → s.brg g = 0 → s.pd5 = false →
      Completes (.brgGrpCfgWrite acc g v) s (becomes 0)) ∧
    (v = s.ob (oidBrgGrpCfg g) → Completes (.brgGrpCfgWrite acc g v) s (Stored s))) ∧
  (s.admits acc (oidBrgFar c) v = true →
    (named → Completes (.brgFarWrite acc c v) s (fun t => t.answer = {} ∧ t.ob (oidBrgFar c) = v ∧
      t.chInvalid c = !w.farValid c ∧ Touches [oidBrgFar c, oidBrgGrpStatus (c / 16), oidConvSticky, oidConvCnt 2] s t)) ∧
    (¬named → Completes (.brgFarWrite acc c v) s (TurnedAway s (oidBrgFar c) stRange)))) ∧
  (∀ (s : State) (g : Fin 16), Canonical s →
  let held := mapGet (fun _ => 0) s.conv.lockCnt g
  let fadesIn (t : State) : Prop := t.conv = { s.conv with
    grpFade := mapSet (fun _ => { dir := 2 }) s.conv.grpFade g { dir := 3, len := (s.ob oidBrgFadeLen).toNat }, outCfg := t.conv.outCfg }
  let locks (c : Instr) : Prop := Completes c s (fun t => t.brg g = 2 ∧ t.ob (oidBrgGrpDelay g) = BitVec.ofNat 32 (s.brgDelay g) ∧
    fadesIn t ∧ (∃ x, Leaves (among [oidBrgGrpStatus g, oidBrgGrpDelay g]) s x ∧ t = { x with conv := t.conv }))
  let fadesOut (t : State) : Prop := t.conv = { s.conv with grpFade := t.conv.grpFade, outCfg := t.conv.outCfg } ∧
    (t.grpFade g).dir = (if (s.grpFade g).dir = 2 then 2 else 1)
  (s.brg g = 1 → s.fsA ≤ held * 20 → locks (.brgLock g)) ∧
  (s.brg g ≠ 1 ∨ held * 20 < s.fsA → exec (.brgLock g) s = .next s) ∧
  (s.brg g = 1 → Completes (.brgAcqTimeout g) s (fun t => t.brg g = 1 ∧ bit (t.ob (oidBrgGrpStatus g)) 4 = true ∧
    Flagged oidConvSticky 3 (oidConvCnt 3) s t ∧
    Leaves (among [oidBrgGrpStatus g, oidConvSticky, oidConvCnt 3]) s t)) ∧
  (s.brg g ≠ 1 → exec (.brgAcqTimeout g) s = .next s) ∧
  (s.brg g = 2 → s.ratioNear g = false → Completes (.brgRatioOut g) s (fun t => t.brg g = 3 ∧ t.ob (oidBrgGrpDelay g) = 0 ∧
    Flagged oidConvSticky 0 (oidConvCnt 0) s t ∧ fadesOut t ∧
    Touches [oidBrgGrpStatus g, oidBrgGrpDelay g, oidConvSticky, oidConvCnt 0] s t)) ∧
  (s.brg g ≠ 2 ∨ s.ratioNear g = true → exec (.brgRatioOut g) s = .next s) ∧
  (s.brg g = 2 → Completes (.brgPositionSlip g) s (fun t => t.brg g = 4 ∧ t.ob (oidBrgGrpDelay g) = 0 ∧
    Flagged oidConvSticky 1 (oidConvCnt 1) s t ∧ fadesOut t ∧
    Touches [oidBrgGrpStatus g, oidBrgGrpDelay g, oidConvSticky, oidConvCnt 1] s t)) ∧
  (s.brg g ≠ 2 → exec (.brgPositionSlip g) s = .next s) ∧
  (s.brg g = 4 → locks (.brgRecentred g)) ∧
  (s.brg g ≠ 4 → exec (.brgRecentred g) s = .next s))

/-- R257, R273, R275–R284, R286: the configuration writes of the decimation chains. STAGES outside 1–5, a set reserved
field, an R outside its range and a clock of a domain that is OFF give RANGE; an accepted ENABLE requests the chain's reset
while PD5 is powered; a cleared ENABLE turns the chain OFF. Synchronising resets. A pin edge of the configured direction
held 64 ecyc and a command select the chains of their masks; an enabled pin with zero masks sets SYNC_IGNORED. At the
domain's boundary every selected chain of it that is not in FAULT resets, and no request keeps a chain of that domain. A
faulted chain re-enters after REENTRY stable samples. The meter window writes at multiples of R; PD5_READY starts what
waits. Of the model's own choices this rests on log 44 and log 55 (what an event without a table row does). -/
def Obligations.DecimationChains : Prop :=

  (∀ (s : State) (acc : Access) (n : Fin 64) (k : Fin 4) (a : Fin 16) (v : Word),
  Canonical s → mapWf (fun _ => ({} : Chain)) s.conv.chains = true →
  let stages := v.toNat / 2 ^ 3 % 8
  let grp := v.toNat / 2 % 4
  let clk := s.ob (oidModclkCfg grp)
  let r := 64 * 2 ^ (clk.toNat / 8 % 4) / 2 ^ romS (v.toNat / 2 ^ 7 % 8)
  let modBad : Prop := stages = 0 ∨ 5 < stages ∨ v.toNat / 2 ^ 11 % 16 ≠ 0 ∨ v.getLsbD 0 = true ∧ (r < 16 ∨ 256 < r)
  let acBad : Prop := grp ≠ 0 ∨ stages = 0 ∨ 5 < stages ∨
    v.getLsbD 0 = true ∧ (v.toNat / 2 ^ 11 % 16 < 4 ∨ 8 < v.toNat / 2 ^ 11 % 16)
  let only (i : Nat) (t : State) (l : List SyncReq) : Prop := t.conv = { s.conv with chains := t.conv.chains, reqs := l } ∧
    ∀ j, j ≠ i → t.chain j = s.chain j
  let clkBad : Prop := grp = 3 ∨ v.toNat / 8 % 4 = 3 ∨ v.toNat / 2 ^ 6 % 2 ^ 10 < 8 ∨ s.domHz grp = 0 ∨
    ∃ m, m < 64 ∧ bit (s.ob (oidModCfg m)) 0 = true ∧ fld (s.ob (oidModCfg m)) 2 1 = k.val ∧ modRBad (s.ob (oidModCfg m)) v = true
  (s.admits acc (oidModCfg n) v = true →
    (modBad → Completes (.modCfgWrite acc n v) s (TurnedAway s (oidModCfg n) stRange)) ∧
    (¬modBad → v.getLsbD 0 = false → Completes (.modCfgWrite acc n v) s (fun t => t.answer = {} ∧ t.ob (oidModCfg n) = v ∧
      t.chain n = {} ∧ t.ob (oidModStatus n) = 0 ∧ only n t s.conv.reqs ∧ Touches [oidModCfg n, oidModStatus n] s t)) ∧
    (¬modBad → v.getLsbD 0 = true → s.pd5 = false → Completes (.modCfgWrite acc n v) s (Stored (s.put (oidModCfg n) v))) ∧
    (¬modBad → v.getLsbD 0 = true → s.pd5 = true → (s.chain n).st ≠ 3 → Completes (.modCfgWrite acc n v) s (fun t =>
      t.answer = {} ∧ t.ob (oidModCfg n) = v ∧ t.ob (oidModStatus n) = 1 ∧ t.chain n = { s.chain n with st := 1 } ∧
      only n t (s.conv.reqs ++ [⟨0, 2 ^ grp, 0, [n.val]⟩]) ∧ Touches [oidModCfg n, oidModStatus n] s t)) ∧
    (¬modBad → v.getLsbD 0 = true → s.pd5 = true → (s.chain n).st = 3 → Completes (.modCfgWrite acc n v) s (fun t =>
      t.answer = {} ∧ t.ob (oidModCfg n) = v ∧ t.chain n = s.chain n))) ∧
  (s.admits acc (oidAcCfg a) v = true →
    (acBad → Completes (.acCfgWrite acc a v) s (TurnedAway s (oidAcCfg a) stRange)) ∧
    (¬acBad → v.getLsbD 0 = false → Completes (.acCfgWrite acc a v) s (fun t => t.answer = {} ∧ t.ob (oidAcCfg a) = v ∧
      t.chain (64 + a) = {} ∧ only (64 + a) t s.conv.reqs ∧ Touches [oidAcCfg a] s t)) ∧
    (¬acBad → v.getLsbD 0 = true → s.pd5 = false → Completes (.acCfgWrite acc a v) s (Stored (s.put (oidAcCfg a) v))) ∧
    (¬acBad → v.getLsbD 0 = true → s.pd5 = true → (s.chain (64 + a)).st ≠ 3 → Completes (.acCfgWrite acc a v) s (fun t =>
      t.answer = {} ∧ t.ob (oidAcCfg a) = v ∧ t.chain (64 + a) = { s.chain (64 + a) with st := 1 } ∧
      only (64 + a) t (s.conv.reqs ++ [⟨0, 0, 2 ^ a.val, [64 + a.val]⟩]) ∧ Touches [oidAcCfg a] s t))) ∧
  (s.admits acc (oidModclkCfg k) v = true →
    (clkBad → Completes (.modclkCfgWrite acc k v) s (TurnedAway s (oidModclkCfg k) stRange)) ∧
    (¬clkBad → Completes (.modclkCfgWrite acc k v) s (Stored (s.put (oidModclkCfg k) v))))) ∧
  (∀ (s : State) (acc : Access) (v : Word) (rising : Bool) (held : Nat) (dom : Dom)
    (n : Fin 64) (i o : Nat) (k : Fin 4) (w : Word), Canonical s →
  mapWf (fun _ => ({} : Chain)) s.conv.chains = true → mapWf (fun _ => meterNone) s.conv.meters = true →
  let c := s.ob oidDecSyncCfg
  let e := c.toNat / 2 ^ 20 % 4
  let edge : Prop := 64 ≤ held ∧ (e = 2 ∨ e = 1 ∧ rising = true ∨ e ≠ 1 ∧ e ≠ 2 ∧ rising = false)
  let d := match dom with | .a => 0 | .b => 1 | .c => 2
  let mm (x : Word) := x.toNat % 16
  let am (x : Word) := x.toNat / 16 % 2 ^ 16
  (¬edge ∨ bit c 22 = false → exec (.decSyncPin rising held) s = .next s) ∧
  (edge → bit c 22 = true → mm c = 0 → am c = 0 → Completes (.decSyncPin rising held) s (fun t =>
    Flagged oidConvSticky 6 (oidConvCnt 6) s t ∧ t.conv = s.conv)) ∧
  (edge → bit c 22 = true → mm c ≠ 0 ∨ am c ≠ 0 → s.isStandby = false → Completes (.decSyncPin rising held) s (fun t =>
    t.conv.reqs = s.conv.reqs ++ [⟨1, mm c, am c, (s.maskChains (mm c) (am c)).filter (fun i => (s.chain i).st ≠ 3)⟩] ∧ t.obj = s.obj)) ∧
  (s.admits acc oidDecSyncCmd v = true →
    (mm v = 0 → am v = 0 → Completes (.decSyncCmd acc v) s (Stored s)) ∧
    (mm v ≠ 0 ∨ am v ≠ 0 → Completes (.decSyncCmd acc v) s (fun t => t.conv.reqs = s.conv.reqs ++
      [⟨2, mm v, am v, (s.maskChains (mm v) (am v)).filter (fun i => (s.chain i).st ≠ 3)⟩] ∧ Touches [] s t))) ∧
  Completes (.syncResetApply dom) s (fun t =>
    (∀ r ∈ t.conv.reqs, r.left ≠ [] ∧ ∀ j ∈ r.left, s.chainDom j ≠ d) ∧
    (∀ r ∈ s.conv.reqs, i ∈ r.left → i < 80 → s.chainDom i = d → (s.chain i).st = 1 ∨ (s.chain i).st = 2 →
      (t.chain i).st = 1 ∧ (t.chain i).fresh = true ∧ (t.chain i).outs = 0 ∧ (t.chain i).ph = 0)) ∧
  ((s.chain n).st = 3 → fld (s.ob (oidModclkCfg (fld (s.ob (oidModCfg n)) 2 1))) 15 6 ≤ (s.chain n).stable →
    Completes (.modReentry n) s (fun t => (t.chain n).st = 1 ∧ (t.chain n).fresh = true ∧ t.ob (oidModStatus n) = 1)) ∧
  ((s.chain n).st ≠ 3 → exec (.modReentry n) s = .next s) ∧
  (s.gn.toNat % 2 ^ (fld (s.ob (oidMeterProfile k)) 6 3) ≠ 0 → exec (.meterWindowEnd k [(o, w)]) s = .next s) ∧
  (s.gn.toNat % 2 ^ (fld (s.ob (oidMeterProfile k)) 6 3) = 0 → meterProfile o = k.val →
    Completes (.meterWindowEnd k [(o, w)]) s (fun t => mapGet (fun _ => meterNone) t.conv.meters o = w ∧
      t = { s with conv := { s.conv with meters := t.conv.meters } })) ∧
  (s.switches = true → s.wantsPd5 = true → Completes .pd5Ready s (fun t => bit (t.ob oidPwrDomains) 5 = true ∧
    (∀ g, g < 16 → bit (s.ob (oidBrgGrpCfg g)) 0 = true → t.brg g ≠ 0) ∧
    ∀ i, i < 80 → bit (s.chainCfg i) 0 = true → (t.chain i).st ≠ 0)) ∧
  (s.switches = false ∨ s.wantsPd5 = false → exec .pd5Ready s = .next s))

/-- R197, R198, R425: a WRITE_STAGE that passes its checks stages every object of its list for its session and no other, and
answers OK; one that R197 refuses stages nothing and names the first failing entry; undefined FLAGS are BAD_FRAME. -/
def Obligations.WriteStageAllOrNone : Prop :=
  ∀ (s : State) (h : Hdr) (flags : Byte) (expect : Word) (es : List StageEntry) (o : Nat),
  Canonical s → mapWf psDflt s.ps = true → s.fcpRuns h = true →
  let u := s.acked h
  let n := h.session.toNat
  let ex := if flags.getLsbD 0 then some expect else none
  let c : Instr := .writeStage h flags expect es
  (flags.toNat ≤ 3 → es ≠ [] → es.length ≤ 112 → u.isStandby = false →
    u.stageCheck (u.sesAccess n) (flags.getLsbD 1) ex es = none → ∃ v, Finishes c s h 0x12 0 (v.ob oidInstar) [] v ∧
      ((∃ e ∈ es, e.oid = o) → (v.pe o).staged = true ∧ (v.pe o).owner = (u.sesAccess n).session.val ∧
        (v.pe o).target = (s.pe o).target ∧ (v.pe o).start = (s.pe o).start) ∧
      ((∀ e ∈ es, e.oid ≠ o) → v.pe o = s.pe o)) ∧
  (∀ r, flags.toNat ≤ 3 → es ≠ [] → es.length ≤ 112 →
    u.stageCheck (u.sesAccess n) false ex es = some r →
    Completes c s (fun t => t.ps = s.ps ∧ t.answer.status = r.status ∧ t.answer.oid = r.oid ∧ t.answer.index = r.index)) ∧
  (3 < flags.toNat → Finishes c s h 0x12 stBadFrame (u.ob oidInstar) (refusalBody 0xFFFFFFFF 0) u)

/-- R201–R207, R426, R487: COMMIT refuses a mode, scope or ramp outside its range with RANGE, an instar that differs from
EXPECT with STALE, AT_TIME without an enabled entry with NOT_READY, and a second armed commit with BUSY, in that order;
otherwise it is ARMED with the instar after the last assigned, which it reports. At its latch boundary the armed commit
takes moult boundary GN + 2 and folds every object staged for it: the staged value becomes TARGET, the ramp starts at the
boundary, and the object is no longer staged. Four folding commits hold it back with the flag; a standby latches nothing. Of
the model's own choices this rests on log 49 (the place of a standby's refusal). -/
def Obligations.CommitsArmAndFold : Prop :=

  (∀ (s : State) (h : Hdr) (mode scope flags : Byte) (ramp : BitVec 16) (expect : Word),
  Canonical s → s.fcpRuns h = true → flags.toNat ≤ 3 →
  let u := s.acked h
  let n := h.session.toNat
  let r := if flags.getLsbD 1 then some ramp.toNat else none
  let range : Prop := mode.toNat ≤ 2 ∧ scope.toNat ≤ 1 ∧ (flags.getLsbD 1 = true → ramp.toNat ≤ 10000)
  let fresh : Prop := flags.getLsbD 0 = true → expect = u.ob oidInstar
  let timed : Prop := mode.toNat = 1 → u.taEnabled 7 ≠ none
  let c : Instr := .commit h mode scope flags ramp expect
  let d : Commit := ⟨u.moult.assigned + 1, mode.toNat, decide (scope.toNat = 1), n, r, 0, u.nextAct, false, 0, false, [], []⟩
  let fails (st : Nat) : Prop := Completes c s (fun t => t.moult = u.moult ∧ t.answer.status = st)
  (range → fresh → timed → u.armed = none → u.isStandby = false →
    Finishes c s h 0x13 0 (u.moult.assigned + 1) [] { u with moult := { u.moult with commits := u.moult.commits ++ [d], assigned := d.instar } }) ∧
  (¬range → fails 2) ∧ (range → ¬fresh → fails 6) ∧
  (range → fresh → u.isStandby = true → fails 3) ∧
  (range → fresh → ¬timed → u.isStandby = false → fails 3) ∧
  (range → fresh → timed → u.armed ≠ none → u.isStandby = false → fails 4)) ∧
  (∀ (s : State) (c : Commit) (late : List Nat) (o : Nat), Canonical s →
  mapWf psDflt s.ps = true →
  let set := (s.stagedSet c).filter (fun o => !(s.mirrors && late.contains o))
  let due : Prop := (c.mode = 0 ∨ c.ready = true) ∧ (c.mode = 1 ∨ 0 ≤ (s.gn + 1 - c.lb).toInt)
  (s.isStandby = false → s.armed = some c → due → s.foldingCnt < 4 →
    Completes (.moultLatch late) s (fun t =>
      t.moult = { s.moult with commits := s.moult.commits.map (fun x => if x.instar = c.instar then
        { c with st := 1, m := s.gn + 2, set := set, bulk := s.publishedSet c, ready := false } else x) } ∧
      (o ∈ set → (t.pe o).target = (s.pe o).sval ∧ (t.pe o).mb = s.gn + 2 ∧ (t.pe o).inst = c.instar ∧
        (t.pe o).staged = false) ∧
      (o ∉ set → t.pe o = s.pe o) ∧
      t = { s with ps := t.ps, mix := t.mix, moult := t.moult, jnl := t.jnl, twin := t.twin, obj := t.obj, sess := t.sess, host := t.host, marks := t.marks })) ∧
  (s.isStandby = false → s.armed = some c → ¬due → exec (.moultLatch late) s = .next s) ∧
  (s.isStandby = false → s.armed = some c → due → 4 ≤ s.foldingCnt →
    Completes (.moultLatch late) s (fun t => Flagged oidMoultSticky 2 (oidMoultCnt 2) s t ∧ t.moult = s.moult ∧ t.ps = s.ps)) ∧
  (s.isStandby = true ∨ s.armed = none → exec (.moultLatch late) s = .next s))

/-- R199, R202, R204–R206, R225, R226, R487: the fold of the oldest folding commit completes; at its moult boundary a
latched commit gives INSTAR and LAST_M their new values and begins; when every object of it has settled it is DONE and
leaves the list. WITHDRAW unstages the objects of its session and no other, WITHDRAW_ALL those of every session for PC0 and
PC1 alone; CANCEL ends the session's own armed commit and gives its instar back. A qualified SCENE_GO edge releases an armed
ON_PIN commit, or sets PIN_IGNORED where none waits for it. Of the model's own choices this rests on log 45 (the order of
the commands of one instant). -/
def Obligations.MoultProgressAndWithdraw : Prop :=

  (∀ (s : State) (c : Commit), Canonical s →
  (s.moult.commits.find? (fun x => x.st = 1) = some c → Completes .foldComplete s (fun t =>
    t = { s with moult := { s.moult with commits := t.moult.commits } } ∧
    t.moult.commits = s.moult.commits.map (fun x => if x.instar = c.instar then { x with st := 2 } else x))) ∧
  (s.moult.commits.find? (fun x => x.st = 1) = none → exec .foldComplete s = .next s) ∧
  (s.moult.commits = [c] → c.st ≠ 0 → c.begun = false → c.m = s.gn + 1 → Completes .moultBoundary s (fun t =>
    t.ob oidInstar = c.instar ∧ t.ob oidMoultLastM = c.m ∧ t.moult.commits = [{ c with begun := true }])) ∧
  ((∀ x ∈ s.moult.commits, x.st = 0 ∨ x.begun = true ∨ x.m ≠ s.gn + 1) → exec .moultBoundary s = .next s) ∧
  (s.moult.commits = [c] → c.st = 2 → c.begun = true → s.settled c s.gn = true → Completes .moultSettle s (fun t =>
    t.moult = { s.moult with commits := [] } ∧ Touches [] s t ∧
    t = { s with ps := t.ps, moult := t.moult, obj := t.obj, sess := t.sess, host := t.host, marks := t.marks } ∧
    ∀ o, (o ∉ c.set → t.pe o = s.pe o) ∧ (t.pe o).target = (s.pe o).target)) ∧
  ((∀ x ∈ s.moult.commits, x.st ≠ 2 ∨ x.begun = false ∨ s.settled x s.gn = false) → exec .moultSettle s = .next s)) ∧
  (∀ (s : State) (acc : Access) (c : Commit) (o : Nat) (rising : Bool) (held : Nat),
  Canonical s → mapWf psDflt s.ps = true →
  let g := s.ob oidSceneGoCfg
  let e := g.toNat / 2 ^ 14 % 4
  let edge : Prop := g.getLsbD 16 = true ∧ (e = 2 ∨ e = 1 ∧ rising = true ∨ e ≠ 1 ∧ e ≠ 2 ∧ rising = false) ∧
    g.toNat % 2 ^ 14 ≤ held
  (s.isStandby = false →
    (s.admits acc oidMoultCtrl 1 = true → Completes (.withdraw acc) s (fun t => t.answer = {} ∧
      ((s.pe o).staged = true → (s.pe o).owner = acc.session.val → (t.pe o).staged = false ∧ (t.pe o).target = (s.pe o).target) ∧
      ((s.pe o).staged = false ∨ (s.pe o).owner ≠ acc.session.val → t.pe o = s.pe o))) ∧
    (s.admits acc oidMoultCtrl 2 = true →
      (acc.pc.val ≤ 1 → Completes (.withdrawAll acc) s (fun t => t.answer = {} ∧ (t.pe o).staged = false ∧
        ((s.pe o).staged = false → t.pe o = s.pe o))) ∧
      (1 < acc.pc.val → Completes (.withdrawAll acc) s (TurnedAway s oidMoultCtrl stDenied))) ∧
    (s.admits acc oidMoultCtrl 3 = true →
      (s.armed = none → Completes (.moultCancel acc) s (TurnedAway s oidMoultCtrl stNotReady)) ∧
      (s.armed = some c → c.session ≠ acc.session.val → Completes (.moultCancel acc) s (TurnedAway s oidMoultCtrl stDenied)) ∧
      (s.armed = some c → c.session = acc.session.val → Completes (.moultCancel acc) s (fun t => t.answer = {} ∧ t.armed = none ∧
        t.moult = { s.moult with commits := s.moult.commits.filter (fun d => d.st ≠ 0), assigned := c.instar - 1 } ∧
        t.ps = s.ps ∧ t.mix = s.mix ∧ (c.mode = 1 → ∀ e, s.taEnabled 7 = some e → bit (t.ob (oidTaCfg e)) 0 = false))))) ∧
  (s.isStandby = true → s.admits acc oidMoultCtrl 1 = true → Completes (.withdraw acc) s (TurnedAway s oidMoultCtrl stNotReady)) ∧
  (s.isStandby = true → s.admits acc oidMoultCtrl 2 = true → Completes (.withdrawAll acc) s (TurnedAway s oidMoultCtrl stNotReady)) ∧
  (s.isStandby = true → s.admits acc oidMoultCtrl 3 = true → Completes (.moultCancel acc) s (TurnedAway s oidMoultCtrl stNotReady)) ∧
  (edge → s.armed = some c → c.mode = 2 → s.isStandby = false → Completes (.sceneGoEdge rising held) s (fun t =>
    t = { s with moult := t.moult } ∧ ∃ d, t.armed = some d ∧ d = { c with ready := true, lb := s.nextAct })) ∧
  (edge → s.armed.all (fun d => d.mode ≠ 2) = true → Completes (.sceneGoEdge rising held) s (fun t =>
    Flagged oidMoultSticky 3 (oidMoultCnt 3) s t ∧ t.moult = s.moult)) ∧
  (edge → s.armed = some c → c.mode = 2 → s.isStandby = true → exec (.sceneGoEdge rising held) s = .next s) ∧
  (¬edge → exec (.sceneGoEdge rising held) s = .next s))

/-- R240–R242, R253, R254: a CLEAN or DIRTY set that is published enters PUBLISHED for its session, a section's set at once,
a FIR set or a table with a preparation that the command waits for, unless a spectral component of a FIR set lies outside
±16: that is RANGE and sets OVER_RANGE; REVERT of a DIRTY set begins its copy, of a CLEAN one is NOT_READY, of any other
BUSY; a copy that ends makes EDIT equal CURRENT and the set CLEAN. Of the model's own choices this rests on log 54 (REVERT
of a CLEAN set). -/
def Obligations.BulkSets : Prop :=
  ∀ (s : State) (h : Hdr) (acc : Access) (kind : Fin 4) (index : BitVec 13) (o : Nat),
  Canonical s → mapWf (fun _ => ({} : BulkSet)) s.dmem.sets = true →
  mapWf (fun _ => (0 : Word)) s.dmem.cur = true → mapWf (fun _ => (0 : Word)) s.dmem.edit = true →
  setExists kind index.toNat = true →
  let u := s.acked h
  let n := h.session.toNat
  let k := setKey kind index.toNat
  let st := (s.bset k).st
  let pub := bulkWord kind index.toNat 1
  let taps := firTaps s.dmem.edit index.toNat (s.bset k).lenEdit
  let tooLarge : Prop := ∃ i, i < 256 * firParts taps.length ∧ 2 ^ 31 < (specComp ((taps.drop (256 + 128 * (i / 256))).take 128) (i % 256)).natAbs
  let rev := bulkWord kind index.toNat 2
  (s.fcpRuns h = true → u.admits (u.sesAccess n) oidBulkCtrl pub = true → st ≤ 1 →
    (kind.val = 1 ∧ tooLarge → Completes (.publish h kind index) s (fun t => t.answer.status = stRange ∧
      (t.bset k).st = st ∧ (t.bset k).overR = true ∧ t.dmem.edit = s.dmem.edit)) ∧
    (¬(kind.val = 1 ∧ tooLarge) → Completes (.publish h kind index) s (fun t => (t.bset k).st = 2 ∧ (t.bset k).owner = (u.sesAccess n).session.val ∧
      t.answer.status = 0 ∧ t.dmem.edit = s.dmem.edit ∧
      (kind = 0 → (t.bset k).preparing = false ∧ (t.ses n).tagUse h.tag.toNat ≠ 1) ∧
      (kind ≠ 0 → (t.bset k).preparing = true ∧ ∃ w ∈ (t.ses n).waiting, w.tag = h.tag.toNat ∧ w.sets = [k])))) ∧
  (st = 2 → (s.bset k).preparing = true → Completes (.publishPrepared kind index) s (fun t =>
    t.bset k = { s.bset k with preparing := false } ∧ t.dmem.edit = s.dmem.edit ∧ t.dmem.cur = s.dmem.cur ∧ t.obj = s.obj ∧
    (∀ i, i < 256 → kind.val = 1 → mapGet (fun _ => 0) t.dmem.specEdit (2 ^ 22 * index.toNat + i) = nth 0 taps i))) ∧
  (st ≠ 2 ∨ (s.bset k).preparing = false → Completes (.publishPrepared kind index) s (fun t => t.dmem = s.dmem)) ∧
  (s.admits acc oidBulkCtrl rev = true →
    (st = 1 → Completes (.revert acc kind index) s
      (Stored ((s.setBset k { s.bset k with st := 3 }).mirror (.revert kind index)))) ∧
    (st = 0 → Completes (.revert acc kind index) s (TurnedAway s oidBulkCtrl stNotReady)) ∧
    (2 ≤ st → Completes (.revert acc kind index) s (TurnedAway s oidBulkCtrl stBusy))) ∧
  (st = 3 → Completes (.bulkCopyDone kind index) s (fun t => (t.bset k).st = 0 ∧ t.dmem.cur = s.dmem.cur ∧
    mapGet (fun _ => 0) t.dmem.edit o = if (setRange k).1 ≤ o ∧ o < (setRange k).1 + (setRange k).2
      then mapGet (fun _ => 0) s.dmem.cur o else mapGet (fun _ => 0) s.dmem.edit o)) ∧
  (st ≠ 3 → exec (.bulkCopyDone kind index) s = .next s)

/-- R194, R230, R231, R238, R239, R247, R248, R528: a delay change that has run its course leaves the line at rest on its
new delay; a complete FIR slice starts its crossfade with the grain that opens; at the end of it the new bank and set are in
force. The scrubbers. A clean parameter-store entry changes nothing; a single error is corrected and counted; a LIVE record
lost in both copies takes its class default and is logged; a lost STAGE record is unstaged. DMEM counts a corrected word,
and an uncorrectable one by its area, with its address and a fault-log entry. An uncorrectable word of network SRAM discards
the frame that holds it. Of the model's own choices this rests on log 17 and log 55 (what a scrub reports and resets). -/
def Obligations.DelayFirAndScrubs : Prop :=

  (∀ (s : State) (owner : Nat) (m : Fin 128), Canonical s →
  mapWf (fun _ => ({} : Line)) s.dmem.lines = true → mapWf (fun _ => ({} : FirOut)) s.dmem.firs = true →
  let l := s.line owner
  let ended : Prop := l.len ≠ 0 ∧ l.len ≤ l.k ∨ l.wMode ≠ 0 ∧ l.wDone s.gsize s.gn = true
  let f := s.fir m
  let ends : Prop := f.phase = 3 ∧ isBefore s.gn f.mb = false ∧ rampFrac s.gsize f.len (s.gn - f.mb).toNat = none
  (ended → Completes (.dlXfEnd owner) s (fun t => (l.waiting = none → (t.line owner).d = l.d ∧ (t.line owner).busy = false) ∧
    (∀ x, l.waiting = some x → (t.line owner).d = x) ∧ t = { s with dmem := t.dmem } ∧ (∀ o, o ≠ owner → t.line o = s.line o) ∧ (t.line owner).ring = l.ring ∧ (t.line owner).waiting = none ∧ t.dmem.rings = s.dmem.rings)) ∧
  (¬ended → exec (.dlXfEnd owner) s = .next s) ∧
  (f.phase = 1 ∨ f.phase = 2 → Completes (.firSliceComplete m) s (fun t => (t.fir m).phase = 3 ∧ (t.fir m).mb = s.gn + 1 ∧
    (t.fir m).bankB = f.bankB ∧ (t.fir m).next = f.next ∧ (t.fir m).sel = f.sel ∧
    (t.fir m).len = (s.psWordAt (oidOutXfLen m) (s.gn + 1)).toNat ∧ t = { s with tiles := t.tiles, dmem := t.dmem })) ∧
  (f.phase ≠ 1 → f.phase ≠ 2 → exec (.firSliceComplete m) s = .next s) ∧
  (ends → f.waiting = none → Completes (.firXfEnd m) s (fun t => t.fir m = { f with
    bankB := !f.bankB, sel := f.next, phase := 0, mb := 0, len := 0, words := 0, waiting := none } ∧ t.tiles = s.tiles)) ∧
  (¬ends → exec (.firXfEnd m) s = .next s)) ∧
  (∀ (s : State) (o addr set i : Nat) (net ue : Bool) (lane : Fin 4) (tc : Fin 8), Canonical s →
  mapWf psDflt s.ps = true → mapWf (fun _ => ([] : List Frame)) s.net.queues = true →
  exec (.psScrub o .clean) s = .next s ∧
  Completes (.psScrub o .single) s (fun t => Flagged oidMoultSticky 6 (oidMoultCnt 6) s t ∧ t.ps = s.ps) ∧
  Completes (.psScrub o .oneLive) s (fun t => Flagged oidMoultSticky 7 (oidMoultCnt 7) s t ∧ t.ps = s.ps) ∧
  Completes (.psScrub o .bothLive) s (fun t => bit (t.ob oidMoultSticky) 7 = true ∧ (7, o) ∈ t.faultQ) ∧
  Completes (.psScrub o .stage) s (fun t => Flagged oidMoultSticky 5 (oidMoultCnt 5) s t ∧ (t.pe o).staged = false ∧
    (t.pe o).target = (s.pe o).target) ∧
  Completes (.dmemScrub addr false set) s (fun t => Flagged oidDmemSticky 0 (oidDmemCnt 0) s t ∧ t.dmem = s.dmem) ∧
  Completes (.dmemScrub addr true set) s (fun t => t.ob oidDmemUeAddr = BitVec.ofNat 32 addr ∧
    let area : Option (Nat × Nat) := if addr < 0x2000000 then some (3, 2) else if addr < 0x4000000 then some (4, 3)
      else if addr < 0xA000000 then some (2, 1) else if addr < 0x3A000000 then some (1, 0) else none
    ∀ b k, area = some (b, k) → Flagged oidDmemSticky b (oidDmemCnt b) s t ∧ (8, k * 2 ^ 25 + addr / 64) ∈ t.faultQ) ∧
  (net = true → ue = true → i < (s.queue lane tc).length → Completes (.sramScrub net ue lane tc i) s (fun t =>
    t.queue lane tc = (s.queue lane tc).eraseIdx i ∧ Flagged (oidLaneSticky lane) 1 (oidLaneCnt lane 1) s t)) ∧
  (net = false ∨ ue = false ∨ (s.queue lane tc).length ≤ i → exec (.sramScrub net ue lane tc i) s = .next s))

/-- R298, R299, R303, R307, R310, R311: START of an OFF port seeks, STOP and RESTART of an OFF port are NOT_READY; a port
that seeks or starves stops at once, any other runs to its zero crossings, and RESTART is remembered. Frame and share are
frozen while the port is not OFF, and a word outside R307 or R311 gives RANGE. Of the model's own choices this rests on log
25 (STOPPING drops the conditions of R300). -/
def Obligations.PortCommands : Prop :=
  ∀ (s : State) (acc : Access) (p : Fin 24) (v : Word), Canonical s →
  let st := (s.ob (oidPortState p)).toNat
  let noOffset : Prop := s.portShared p = true ∧ offsetOf (s.readPortTiming p) = 0
  let frameBad : Prop := v.toNat % 64 = 0 ∨ 32 < v.toNat % 64 ∨ v.toNat / 2 ^ 6 % 4 < v.toNat / 2 ^ 8 % 4 ∨ 3 < v.toNat / 2 ^ 12 % 8 ∨
    s.portShared p = true ∧ s.psWordAt (oidPortTimingSrc p) s.gn = 0 ∧ offsetOf (timingPreset v) = 0
  let shareBad : Prop := 3 < v.toNat ∧ v.toNat ≠ 0xFF ∨ v.toNat ≠ 0xFF ∧ offsetOf (s.readPortTiming p) = 0
  (s.admits acc (oidPortCtrl p) 1 = true →
    (noOffset → Completes (.start acc p) s (TurnedAway s (oidPortCtrl p) stRange)) ∧
    (¬noOffset → st ≠ 0 → Completes (.start acc p) s (TurnedAway s (oidPortCtrl p) stNotReady)) ∧
    (¬noOffset → st = 0 → Completes (.start acc p) s (fun t => t.answer = {} ∧ t.pst p = 1 ∧ (t.port p).stable = 0 ∧
      (t.port p).rx = [] ∧ (t.port p).tx = [] ∧ (t.port p).timing = s.readPortTiming p ∧ ∀ q, q ≠ p.val → t.port q = s.port q))) ∧
  (s.admits acc (oidPortCtrl p) 2 = true →
    (st = 0 → Completes (.stop acc p) s (TurnedAway s (oidPortCtrl p) stNotReady)) ∧
    (st = 1 ∨ st = 5 → (s.port p).again = false → Completes (.stop acc p) s (fun t => t.answer = {} ∧ t.pst p = 0)) ∧
    (st = 2 ∨ st = 3 ∨ st = 4 ∨ st = 6 → Completes (.stop acc p) s (fun t => t.answer = {} ∧ t.pst p = 6 ∧
      (t.port p).again = (s.port p).again))) ∧
  (s.admits acc (oidPortCtrl p) 3 = true →
    (st = 0 → Completes (.restart acc p) s (TurnedAway s (oidPortCtrl p) stNotReady)) ∧
    (st = 1 ∨ st = 5 → ¬noOffset → Completes (.restart acc p) s (fun t => t.answer = {} ∧ t.pst p = 1)) ∧
    (st = 2 ∨ st = 3 ∨ st = 4 ∨ st = 6 → Completes (.restart acc p) s (fun t => t.answer = {} ∧ t.pst p = 6 ∧
      (t.port p).again = true))) ∧
  (s.admits acc (oidPortFrame p) v = true →
    (frameBad → Completes (.portFrameWrite acc p v) s (TurnedAway s (oidPortFrame p) stRange)) ∧
    (¬frameBad → st ≠ 0 → Completes (.portFrameWrite acc p v) s (TurnedAway s (oidPortFrame p) stNotReady)) ∧
    (¬frameBad → st = 0 → Completes (.portFrameWrite acc p v) s (Stored (s.put (oidPortFrame p) v)))) ∧
  (s.admits acc (oidPortTxShare p) v = true →
    (shareBad → Completes (.portTxShareWrite acc p v) s (TurnedAway s (oidPortTxShare p) stRange)) ∧
    (¬shareBad → st ≠ 0 → Completes (.portTxShareWrite acc p v) s (TurnedAway s (oidPortTxShare p) stNotReady)) ∧
    (¬shareBad → st = 0 → Completes (.portTxShareWrite acc p v) s (Stored (s.put (oidPortTxShare p) v))))

/-- R289–R295, R297–R302, R304–R308, R486: a frame of a port. An OFF port takes none, and an FS that is active at every edge
marks none. A seeking port counts a complete frame of the same length within 0.5 % as stable and starts over otherwise. In
ENTER, RUN and RESYNC a phase moved by more than a quarter sample starves the port; a second FS within a sample period is a
framing error; an ordinary complete frame waits for its handover with its data words, each from its position of the slot.
TXD over a frame. An OFF, seeking or transmit-disabled port and one that does not own its line leave it at high impedance; a
driven line is low outside the slots and beyond a slot's data bits, at high impedance in a slot that PORT_TX_MASK does not
list, and carries the slot's word, MSB first, elsewhere. The events of a port. PORT_LOCK enters once PORT_REENTRY stable
frames have been counted and the frame fits; a clock loss starves with cause CLOCK; a zero-crossing timeout starts the slots
that wait; the substitution ends after 32 samples; the waiting members of a group enter together; at the next frame a shared
port's driver follows the ownership. Of the model's own choices this rests on log 25 (the order of the causes), log 26 (the
group's boundary) and log 27 (the frame as an operand). -/
def Obligations.PortFramesAndEvents : Prop :=

  (∀ (s : State) (p : Fin 24) (f : TdmFrame), Canonical s →
  let st := (s.ob (oidPortState p)).toNat
  let x := s.port p
  let l := tdmSamples f x.timing
  let e := frameEdges l
  let n := e.length
  let ended := f.ended || decide (n < l.length)
  let marks : Prop := s.portHz p ≠ 0 ∧ fsWidth l ≠ 0 ∧ (ended = true → fsWidth l ≠ n)
  let fine : Prop := ended = true ∧ f.dev.natAbs ≤ 5000000 ∧ x.bpf0.getD n = n
  let steady : Prop := ended = true ∧ f.dev.natAbs ≤ 5000000 ∧ n = x.lockBpf ∧ x.win.length < 255
  (st = 0 ∨ ¬marks → exec (.tdmFrame p f) s = .next s) ∧
  (st = 1 ∨ st = 5 → marks → Completes (.tdmFrame p f) s (fun t => t.pst p = st ∧ (t.port p).lockBpf = n ∧
    (t.port p).phase = f.phase ∧ (fine → (t.port p).stable = x.stable + 1) ∧
    (¬fine → (t.port p).stable = 0 ∧ (t.port p).held = false) ∧
    (ended = true → t.ob (oidPortMeasBpf p) = BitVec.ofNat 32 (min n 65535)) ∧
    (t.ob (oidPortMeasPhase p)).toInt = max (-32768) (min 32767 f.phase))) ∧
  (st = 2 ∨ st = 3 ∨ st = 4 → marks → steady → x.twice = false → phaseFar f.phase x.ph0 = true →
    Completes (.tdmFrame p f) s (fun t => t.pst p = 5 ∧ t.ob (oidPortCause p) = 3 ∧
      Flagged (oidPortSticky p) 7 (oidPortCnt p 7) s t ∧ Flagged (oidPortSticky p) 0 (oidPortCnt p 0) s t ∧
      (t.port p).stable = 0 ∧ (st ≠ 4 → (t.port p).subst ≠ none))) ∧
  (st = 2 ∨ st = 3 → marks → steady → x.twice = true → x.ferrs = [] → Completes (.tdmFrame p f) s (fun t => t.pst p = 4 ∧
    Flagged (oidPortSticky p) 2 (oidPortCnt p 2) s t ∧ (t.port p).frame = none ∧ (t.port p).subst ≠ none)) ∧
  (st = 2 ∨ st = 3 ∨ st = 4 → marks → steady → x.twice = false → phaseFar f.phase x.ph0 = false →
    Completes (.tdmFrame p f) s (fun t => t.pst p = st ∧ (t.port p).twice = true ∧
      (offsetOf x.timing + s.slotsOf p * s.slotWidth p ≤ n → ∃ w, (t.port p).frame = some w ∧ ∀ i, i < s.slotsOf p →
        ∃ v, w[i]? = some v ∧ ∀ j, (31 - j < s.dataWidth p → j ≤ 31 →
          v.getLsbD j = (e[offsetOf x.timing + i * s.slotWidth p + (31 - j)]?.getD (false, false)).2) ∧
          (s.dataWidth p ≤ 31 - j → v.getLsbD j = false)) ∧
      (n < offsetOf x.timing + s.slotsOf p * s.slotWidth p → (t.port p).frame = none)))) ∧
  (∀ (s : State) (p : Fin 24) (f : TdmFrame), Canonical s →
  let st := (s.ob (oidPortState p)).toNat
  let x := s.port p
  let l := tdmSamples f x.timing
  let off := offsetOf x.timing
  let sw := s.slotWidth p
  st ≠ 0 → s.portHz p ≠ 0 → 0 < fsWidth l → fsWidth l < (frameEdges l).length →
  Completes (.tdmFrame p f) s (fun t => (t.port p).line.length = (frameEdges l).length ∧ (t.port p).drives = x.drives ∧
    (t.port p).drives0 = x.drives ∧
    ∀ q, q < (frameEdges l).length → ∃ v, (t.port p).line[q]? = some v ∧
      let drv := s.txEn p = true ∧ st ≠ 1 ∧ (q = 0 → x.drives0 = true) ∧ (q ≠ 0 → x.drives = true);
      let i := (q - off) / sw;
      let j := (q - off) % sw;
      let lit := off ≤ q ∧ q < off + s.slotsOf p * sw;
      (¬drv → v = .z) ∧ (drv → ¬lit → v = .low) ∧ (drv → lit → bit (s.ob (oidPortTxMask p)) i = false → v = .z) ∧
      (drv → lit → bit (s.ob (oidPortTxMask p)) i = true →
        v = if j < s.dataWidth p ∧ (slotAt x.tx i).out.getLsbD (31 - j) = true then .high else .low))) ∧
  (∀ (s : State) (p : Fin 24) (g : Fin 8), Canonical s →
  let st := (s.ob (oidPortState p)).toNat
  let x := s.port p
  let al := (s.ob (oidPortAlign p)).toNat
  let fits : Prop := x.lockBpf ≤ 50000000 / max 1 (s.portHz p) ∧
    offsetOf x.timing + s.slotsOf p * s.slotWidth p ≤ x.lockBpf
  let locks : Prop := (st = 1 ∨ st = 5) ∧ s.portHz p ≠ 0 ∧ x.held = false ∧ (s.ob (oidPortReentry p)).toNat ≤ x.stable
  let share := (s.ob (oidPortTxShare p)).toNat
  let all : Prop := ∀ q, q < 24 → (s.ob (oidPortAlign q)).toNat = g.val → s.pst q ≠ 0 →
    (s.port q).been = true ∨ (s.port q).held = true
  (locks → fits → al = 0xFF → s.isStandby = false → Completes (.portLock p) s (fun t => t.pst p = 2 ∧ (t.port p).entry = true ∧
    (t.port p).ph0 = x.phase ∧ (t.port p).been = true)) ∧
  (locks → fits → al = 0xFF → s.isStandby = true → Completes (.portLock p) s (fun t => t.pst p = st ∧ (t.port p).held = true)) ∧
  (∀ q, locks → fits → al ≠ 0xFF → s.alignLead al = some q → phaseFar x.phase (s.port q).phase = true →
    Completes (.portLock p) s (fun t => t.pst p = st ∧ (t.port p).stable = 0 ∧ Flagged (oidPortSticky p) 4 (oidPortCnt p 4) s t)) ∧
  (∀ q, locks → fits → al ≠ 0xFF → s.alignLead al = some q → phaseFar x.phase (s.port q).phase = false → s.isStandby = false →
    x.been = true ∨ bit (s.ob oidAlignCtrl) al = false → Completes (.portLock p) s (fun t => t.pst p = 2)) ∧
  (locks → fits → al ≠ 0xFF → s.alignLead al = none → x.been = false → bit (s.ob oidAlignCtrl) al = true →
    Completes (.portLock p) s (fun t => t.pst p = st ∧ (t.port p).held = true)) ∧
  (locks → ¬fits → Completes (.portLock p) s (fun t => t.pst p = st ∧ (t.port p).stable = 0 ∧
    (50000000 / max 1 (s.portHz p) < x.lockBpf → bit (t.ob (oidPortSticky p)) 5 = true) ∧
    (x.lockBpf < offsetOf x.timing + s.slotsOf p * s.slotWidth p → bit (t.ob (oidPortSticky p)) 6 = true))) ∧
  (¬locks → exec (.portLock p) s = .next s) ∧
  (st = 2 ∨ st = 3 ∨ st = 4 → Completes (.portClockLoss p) s (fun t => t.pst p = 5 ∧ t.ob (oidPortCause p) = 1 ∧
    bit (t.ob (oidPortSticky p)) 0 = true ∧ (st = 3 → (t.port p).subst ≠ none))) ∧
  (st = 1 ∨ st = 5 → Completes (.portClockLoss p) s (fun t => t.pst p = st ∧ (t.port p).stable = 0 ∧ t.obj = s.obj)) ∧
  (st = 0 ∨ 5 < st → exec (.portClockLoss p) s = .next s) ∧
  (st = 2 → x.entry = false → x.rx = [(0, { st := 1 })] → x.tx = [] → (s.ob (oidPortZcTimeout p)).toNat * s.portHz p ≤ x.zc * 1000 →
    Completes (.portZcTimeout p) s (fun t => t.pst p = 2 ∧ (t.port p).rx = [(0, { st := 2, k := 0, len := (s.ob (oidPortFadeLen p)).toNat })] ∧
      Flagged (oidPortSticky p) 3 (oidPortCnt p 3) s t)) ∧
  (x.zc * 1000 < (s.ob (oidPortZcTimeout p)).toNat * s.portHz p ∨ x.entry = true → exec (.portZcTimeout p) s = .next s) ∧
  (∀ k, x.subst = some k → 32 ≤ k → exec (.portSubstEnd p) s = .next (s.setPort p { x with subst := none })) ∧
  (x.subst = none → exec (.portSubstEnd p) s = .next s) ∧
  (s.isStandby = false → all ∨ bit (s.ob oidAlignCtrl) g = false → Completes (.alignGroupEnter g) s (fun t =>
    ∀ q, q < 24 → ((s.ob (oidPortAlign q)).toNat = g.val → s.pst q ≠ 0 → (s.port q).held = true →
      t.pst q = 2 ∧ (t.port q).held = false) ∧ ((s.port q).held = false → t.pst q = s.pst q ∧ t.port q = s.port q))) ∧
  (s.isStandby = true → exec (.alignGroupEnter g) s = .next s) ∧
  (share ≤ 3 → Completes (.shareHandover p) s (fun t => (t.port p).drives = s.ownsShare share ∧
    (t.port p).drives0 = (s.ownsShare share && x.drives) ∧ t.shares = s.shares ∧
    (s.shareLead share = some p.val ∨ s.shareLead share = none → bit (t.ob oidTwinOeState) share = s.ownsShare share))) ∧
  (3 < share → exec (.shareHandover p) s = .next s))

/-- R316–R322, R337, R338: the references. A configuration write restarts monitoring, with RANGE for a field that the
reference does not have; limits keep the orders of R321; a lost signal leaves LOS, its return qualifies; a monitored offset
beyond the hard limit or a drift beyond its limit ends QUALIFIED; the requalification conditions, held for REF_QUAL_TIME,
restore it; ESMC gives the rank of R320, and its timeout rank 0. Of the model's own choices this rests on log 28 (the sign
of XO_CAL, means over few values). -/
def Obligations.References : Prop :=
  ∀ (s : State) (acc : Access) (r : Fin 8) (v : Word) (meas : Int) (lane : Fin 2) (ssm : BitVec 4)
    (enh : Option Byte), Canonical s → mapWf (fun _ => ({} : RefMon)) s.clk.refs = true →
  let st := (s.ob (oidRefState r)).toNat
  let lim := s.ob (oidRefLimits r)
  let soft := v.toNat % 2 ^ 10
  let hard := v.toNat / 2 ^ 10 % 2 ^ 10
  let hyst := v.toNat / 2 ^ 20 % 2 ^ 10
  let good : Prop := 1 ≤ soft ∧ soft ≤ 990 ∧ soft ≤ hard ∧ hard ≤ 990 ∧ hyst < hard
  let clamp (x : Int) : Int := max (-2 ^ 31) (min (2 ^ 31 - 1) x)
  let off := clamp (refMean (((meas + (s.ob oidXoCal).toInt) :: (s.refMon r).parts).take 10))
  let secs := (List.range 16).filterMap (fun i => (off :: (s.refMon r).offs)[10 * i]?)
  let dr := clamp (refSlope secs)
  let fast : Prop := (s.ob (oidRefDriftLim r)).toNat < dr.natAbs
  let far : Prop := lim.toNat / 2 ^ 10 % 2 ^ 10 * 1000 < off.natAbs
  let held : Prop := s.requalifies r = true ∧ (s.ob (oidRefQualTime r)).toNat ≤ (s.refMon r).good * 100
  let l := 6 + lane.val
  (s.admits acc (oidRefCfg r) v = true →
    (refCfgBad r v = true → Completes (.refCfgWrite acc r v) s (TurnedAway s (oidRefCfg r) stRange)) ∧
    (refCfgBad r v = false → Completes (.refCfgWrite acc r v) s (fun t => t.answer = {} ∧ t.ob (oidRefCfg r) = v ∧
      t.rst r = if v.getLsbD 0 then 1 else 0))) ∧
  (s.admits acc (oidRefLimits r) v = true →
    (good → Completes (.refLimitsWrite acc r v) s (Stored (s.put (oidRefLimits r) v))) ∧
    (¬good → Completes (.refLimitsWrite acc r v) s (TurnedAway s (oidRefLimits r) stRange))) ∧
  (2 ≤ st → Completes (.refLos r) s (fun t => t.rst r = 1 ∧ Flagged (oidRefSticky r) 0 (oidRefCnt r 0) s t)) ∧
  (st ≤ 1 → exec (.refLos r) s = .next s) ∧
  (st = 1 → s.refSource r = true → Completes (.refSignalPresent r) s (fun t => t.rst r = 2 ∧ (t.refMon r).good = 0)) ∧
  (st ≠ 1 ∨ s.refSource r = false → exec (.refSignalPresent r) s = .next s) ∧
  (2 ≤ st → Completes (.refMonitorUpdate r meas) s (fun t => (t.ob (oidRefOffset r)).toInt = off ∧ (t.ob (oidRefDrift r)).toInt = dr ∧
    (lim.toNat % 2 ^ 10 * 1000 < off.natAbs → (s.refMon r).soft = false → bit (t.ob (oidRefSticky r)) 1 = true) ∧
    (st = 3 → far → t.rst r = 4 ∧ bit (t.ob (oidRefSticky r)) 2 = true) ∧
    (st = 3 → ¬far → fast → t.rst r = 5 ∧ bit (t.ob (oidRefSticky r)) 3 = true) ∧
    (st ≠ 3 ∨ ¬far ∧ ¬fast → t.rst r = st))) ∧
  (st ≤ 1 → exec (.refMonitorUpdate r meas) s = .next s) ∧
  (st = 2 ∨ st = 4 ∨ st = 5 → held → Completes (.refQualify r) s (fun t => t.rst r = 3 ∧
    Flagged (oidRefSticky r) 6 (oidRefCnt r 6) s t)) ∧
  ((st ≠ 2 ∧ st ≠ 4 ∧ st ≠ 5) ∨ ¬held → exec (.refQualify r) s = .next s) ∧
  Completes (.esmcPdu lane ssm enh) s (fun t =>
    t.ob (oidRefQlRaw l) = BitVec.ofNat 32 (256 * (enh.map (·.toNat)).getD 0xFF + ssm.toNat) ∧
    t.ob (oidRefRank l) = BitVec.ofNat 32 (ssmRank ssm.toNat (enh.map (·.toNat)))) ∧
  Completes (.ssmTimeout lane) s (fun t => t.ob (oidRefRank l) = 0 ∧ Flagged (oidRefSticky l) 5 (oidRefCnt l 5) s t)

/-- R319: a write of SERVO_CFG gives REF0 the rank of its source's clockClass and clockAccuracy (R349: PTP_PARENT_QUALITY
under PTP, PPS_QUALITY under PPS), for every clockAccuracy that the table lists. -/
def Obligations.Ref0Rank : Prop :=
  ∀ (s : State) (acc : Access) (v : Word), Canonical s → s.admits acc oidServoCfg v = true →
  let src := v.toNat % 4
  let q := (s.ob (if src = 1 then oidPtpParentQuality else oidPpsQuality)).toNat
  let cls := if src = 1 then q % 256 else q / 256 % 256
  let accuracy := if src = 1 then q / 256 % 256 else q % 256
  let rank (cut : Nat) : Nat :=
    if cls = 255 then 0
    else max 1 ((if cls = 6 then 15 else if cls = 7 then 13 else if cls = 13 then 12 else if cls = 14 then 11
      else if cls ∈ [52, 58, 187, 193] then 4 else if cls = 248 then 3 else 2) - cut)
  let becomes (cut : Nat) : Prop := Completes (.servoCfgWrite acc v) s (fun t => t.answer = {} ∧ t.ob oidServoCfg = v ∧
    t.ob (oidRefRank 0) = BitVec.ofNat 32 (rank cut))
  src = 1 ∨ src = 2 →
  (0x17 ≤ accuracy → accuracy ≤ 0x21 → becomes 0) ∧
  (0x22 ≤ accuracy → accuracy ≤ 0x23 → becomes 1) ∧
  (0x24 ≤ accuracy → accuracy ≤ 0x27 → becomes 2) ∧
  ((0x28 ≤ accuracy ∧ accuracy ≤ 0x31) ∨ accuracy = 0xFE → becomes 4)

/-- R323, R325, R326, R328, R330–R332, R339, R343: the configuration of a DPLL. A forced mode takes effect at once, HOLDOVER
with valid history alone; a list that names a reference twice gives RANGE; a manual reference that serves is switched to;
DPLL_DCO is refused while the loop is closed, and in OPEN_LOOP sets the frequency within ±1,000 ppm; the manual reference's
WTR reverts. The events of a DPLL. A measured build-out is kept modulo one sample and the acquisition begins; stages whose
bandwidth is not above the tracking bandwidth are skipped, and the last one locks; ten seconds without lock set ACQ_SLOW; a
lost lock switches to the same reference; the build-out is removed at the marker. Of the model's own choices this rests on
log 29 and log 30 (what the commands of a DPLL report). -/
def Obligations.Dplls : Prop :=

  (∀ (s : State) (acc : Access) (d : Fin 3) (v : Word), Canonical s →
  mapWf (fun _ => ({} : Dpll)) s.clk.dplls = true →
  let st := (s.ob (oidDpllState d)).toNat
  let m := (s.ob (oidDpllManualRef d)).toNat
  let list := (List.range 7).map (fun j => (s.ob (oidDpllFallback d j)).toNat)
  (s.admits acc (oidDpllMode d) v = true →
    (st = 0 ∨ st = 6 → Completes (.dpllModeWrite acc d v) s (Stored (s.put (oidDpllMode d) v))) ∧
    (2 ≤ st → st ≤ 4 → v = 1 → Completes (.dpllModeWrite acc d v) s (fun t => t.answer = {} ∧ t.ob (oidDpllMode d) = 1 ∧
      t.dsel d = 8 ∧ t.dst d = if s.histValid d then 5 else 1)) ∧
    (2 ≤ st → st ≤ 5 → v = 2 → Completes (.dpllModeWrite acc d v) s (fun t => t.answer = {} ∧ t.ob (oidDpllMode d) = 2 ∧
      t.dsel d = 8 ∧ t.dst d = 1 ∧ (t.dpll d).freq = 0)) ∧
    (v = 0 → Completes (.dpllModeWrite acc d v) s (fun t => t.answer = {} ∧ t.ob (oidDpllMode d) = 0 ∧
      (s.refOk d (s.dsel d) = true → st = 2 ∨ st = 3 ∨ st = 4 → t.dst d = st ∧ t.dsel d = s.dsel d)))) ∧
  (s.admits acc (oidDpllManualRef d) v = true →
    (namesTwice (v.toNat :: list) = true → Completes (.dpllManualRefWrite acc d v) s (TurnedAway s (oidDpllManualRef d) stRange)) ∧
    (namesTwice (v.toNat :: list) = false → Completes (.dpllManualRefWrite acc d v) s (fun t => t.answer = {} ∧
      t.ob (oidDpllManualRef d) = v ∧
      (s.ob (oidDpllMode d) = 0 → st = 2 ∨ st = 3 ∨ st = 4 → s.refOk d v.toNat = true → s.dsel d ≠ v.toNat →
        t.dst d = 2 ∧ t.dsel d = v.toNat)))) ∧
  (s.admits acc (oidDpllDco d) v = true →
    (s.target (oidDpllCtrlSource d) = 0 → Completes (.dpllDcoWrite acc d v) s (TurnedAway s (oidDpllDco d) stDenied)) ∧
    (s.target (oidDpllCtrlSource d) ≠ 0 → st = 6 → Completes (.dpllDcoWrite acc d v) s (fun t => t.answer = {} ∧
      t.ob (oidDpllDco d) = v ∧ (t.dpll d).freq = max (-1000000) (min 1000000 v.toInt))) ∧
    (s.target (oidDpllCtrlSource d) ≠ 0 → st ≠ 6 → Completes (.dpllDcoWrite acc d v) s (Stored (s.put (oidDpllDco d) v)))) ∧
  (s.admits acc (oidDpllTrackBw d) v = true → v ≠ 0x80000000 →
    Completes (.dpllTrackBwWrite acc d v) s (Stored (s.put (oidDpllTrackBw d) v))) ∧
  (s.ob (oidDpllMode d) = 0 → s.refOk d m = true → s.dsel d ≠ m →
    (st = 4 → Completes (.refWtrExpire d) s (fun t => t.dst d = 2 ∧ t.dsel d = m)) ∧
    (st = 2 ∨ st = 3 → Completes (.refWtrExpire d) s (fun t => t.dst d = st ∧ (t.dpll d).revert = true))) ∧
  (s.refOk d m = false → exec (.refWtrExpire d) s = .next s)) ∧
  (∀ (s : State) (d : Fin 3) (off : Int), Canonical s →
  mapWf (fun _ => ({} : Dpll)) s.clk.dplls = true →
  let st := (s.ob (oidDpllState d)).toNat
  let x := s.dpll d
  let k := s.stageFrom d (x.stage + 1)
  (st = 2 → s.stageFrom d 1 ≠ 4 → Completes (.dpllBuildoutDone d off) s (fun t => t.dst d = 3 ∧ t.dsel d = s.dsel d ∧
    t.ob (oidDpllBuildout d) = BitVec.ofInt 32 (phaseMod off (s.domHz d)) ∧ (t.dpll d).stage = s.stageFrom d 1)) ∧
  (st ≠ 2 → exec (.dpllBuildoutDone d off) s = .next s) ∧
  (st = 3 → k ≠ 4 → Completes (.dpllStageAdvance d) s (fun t => t.dst d = 3 ∧ (t.dpll d).stage = k)) ∧
  (st = 3 → k = 4 → x.revert = false → Completes (.dpllStageAdvance d) s (fun t => t.dst d = 4 ∧ t.dsel d = s.dsel d ∧
    (t.dpll d).locked = true ∧ (t.dpll d).lastRef = s.dsel d)) ∧
  (st ≠ 3 → exec (.dpllStageAdvance d) s = .next s) ∧
  (st = 3 → Completes (.dpllAcqTimeout d) s (fun t => t.dst d = 3 ∧ Flagged (oidDpllSticky d) 5 (oidDpllCnt d 5) s t ∧ t.clk = s.clk)) ∧
  (st ≠ 3 → exec (.dpllAcqTimeout d) s = .next s) ∧
  (st = 4 → Completes (.dpllLockLoss d) s (fun t => t.dst d = 2 ∧ t.dsel d = s.dsel d ∧
    Flagged (oidDpllSticky d) 3 (oidDpllCnt d 3) s t)) ∧
  (st ≠ 4 → exec (.dpllLockLoss d) s = .next s) ∧
  (d ≠ 0 → s.ob (oidDpllBuildout d) ≠ 0 → st = 3 ∨ st = 4 → s.dsel d < 6 → Completes (.dpllBuildoutRemoved d) s (fun t =>
    t.ob (oidDpllBuildout d) = 0 ∧ t.dst d = st ∧ Touches [oidDpllBuildout d] s t)) ∧
  (d = 0 ∨ s.ob (oidDpllBuildout d) = 0 ∨ (st ≠ 3 ∧ st ≠ 4) ∨ 6 ≤ s.dsel d → exec (.dpllBuildoutRemoved d) s = .next s))

/-- R333–R335, R341, R342: output groups and MCLK. A group cannot change its source while one of its outputs is enabled;
source code 3, a ratio code above 5 and a frequency above 50 MHz give RANGE; a pull that ends is reported. Of the model's
own choices this rests on log 30 (when a pull ends). -/
def Obligations.OutputGroups : Prop :=
  ∀ (s : State) (acc : Access) (g : Fin 4) (k : Fin 8) (v : Word), Canonical s →
  let used : Prop := ∃ j, j < 8 ∧ mclkGroup j = g.val + 1 ∧ bit (s.ob (oidMclkCfg j)) 0 = true
  let badK : Prop := 5 < v.toNat / 2 % 8 ∨ 50000000 < mclkHzOf v (s.domHz (s.ogDom (mclkGroup k)))
  (s.admits acc (oidOgCfg g) v = true →
    (v.toNat % 4 = 3 → Completes (.ogCfgWrite acc g v) s (TurnedAway s (oidOgCfg g) stRange)) ∧
    (v.toNat % 4 ≠ 3 → used → Completes (.ogCfgWrite acc g v) s (TurnedAway s (oidOgCfg g) stNotReady)) ∧
    (v.toNat % 4 ≠ 3 → ¬used → Completes (.ogCfgWrite acc g v) s (fun t => t.answer = {} ∧ t.ob (oidOgCfg g) = v ∧
      t.ob (oidOgState g) = 0 ∧ t.ob (oidOgPhaseRem g) = 0 ∧ Touches [oidOgCfg g, oidOgState g, oidOgPhaseRem g] s t))) ∧
  (s.admits acc (oidMclkCfg k) v = true →
    (badK → Completes (.mclkCfgWrite acc k v) s (TurnedAway s (oidMclkCfg k) stRange)) ∧
    (¬badK → Completes (.mclkCfgWrite acc k v) s (Stored (s.put (oidMclkCfg k) v)))) ∧
  (s.ob (oidOgState g) = 1 → Completes (.ogPullDone g) s (fun t => t.ob (oidOgState g) = 0 ∧ t.ob (oidOgPhaseRem g) = 0 ∧
    t.clk = s.clk ∧ Touches [oidOgState g, oidOgPhaseRem g] s t)) ∧
  (s.ob (oidOgState g) ≠ 1 → exec (.ogPullDone g) s = .next s)

/-- R344, R346–R350, R364: DT advances by 4 ns × (1 + y) at every cycle while PD3 is powered. SET and ADJUST are NOT_READY
while the servo has a source or PD3 is off; otherwise DT takes the set instant or moves by TIME_ADJ_NS, and the step is
flagged. The servo. Source code 3 gives RANGE; NONE frees it and stops the correction; a source lets a free servo acquire. A
sample reports its offset; the first after HOLDOVER acquires; in ACQUIRE an offset beyond the step limit steps DT, and the
sixteenth below 100 ns in a row locks; in LOCKED the fourth above 1 µs in a row acquires again. Three seconds without a
sample hold over. Of the model's own choices this rests on log 33 and log 34 (the units of DT). -/
def Obligations.DeviceTimeAndServo : Prop :=

  (∀ (s : State) (acc : Access), Canonical s →
  let src := (s.ob oidServoCfg).toNat % 4
  let mod : Nat := 2 ^ 48 * 10 ^ 9 * 2 ^ 48
  let goal : Nat := ((s.ob oidTimeSetSecHi).toNat * 2 ^ 32 + (s.ob oidTimeSetSecLo).toNat) * 10 ^ 9 + (s.ob oidTimeSetNs).toNat
  (s.pd3 = true → exec .timeClockTick s = .next { s with time :=
    { s.time with dt := ((s.time.dt : Int) + 4 * 2 ^ 48 + s.time.y).toNat % mod, cyc := s.time.cyc + 1 } }) ∧
  (s.pd3 = false → exec .timeClockTick s = .next s) ∧
  (s.admits acc oidTimeCtrl 1 = true →
    (src ≠ 0 ∨ s.pd3 = false → Completes (.set acc) s (TurnedAway s oidTimeCtrl stNotReady)) ∧
    (src = 0 → s.pd3 = true → Completes (.set acc) s (fun t => t.answer = {} ∧ t.time.dt = goal * 2 ^ 48 ∧ t.time.y = s.time.y ∧
      Flagged oidTimeSticky 0 (oidTimeCnt 0) s t))) ∧
  (s.admits acc oidTimeCtrl 2 = true →
    (src ≠ 0 ∨ s.pd3 = false → Completes (.adjust acc) s (TurnedAway s oidTimeCtrl stNotReady)) ∧
    (src = 0 → s.pd3 = true → Completes (.adjust acc) s (fun t => t.answer = {} ∧
      (t.time.dt : Int) = ((s.time.dt : Int) + (s.ob oidTimeAdjNs).toInt * 2 ^ 48) % (mod : Int) ∧
      Flagged oidTimeSticky 0 (oidTimeCnt 0) s t)))) ∧
  (∀ (s : State) (acc : Access) (v : Word) (off : Int), Canonical s →
  let st := (s.ob oidServoState).toNat
  let n := v.toNat % 4
  let mod : Int := 2 ^ 48 * 10 ^ 9 * 2 ^ 48
  let take (P : State → Prop) : Prop := Completes .servoSample s (fun t =>
    t.ob oidServoOffset = BitVec.ofInt 32 (max (-2 ^ 31) (min (2 ^ 31 - 1) off)) ∧ t.time.sample = none ∧ P t)
  (s.admits acc oidServoCfg v = true →
    (n = 3 → Completes (.servoCfgWrite acc v) s (TurnedAway s oidServoCfg stRange)) ∧
    (n = 0 → Completes (.servoCfgWrite acc v) s (fun t => t.answer = {} ∧ t.ob oidServoCfg = v ∧ t.servo = 0 ∧ t.time.y = 0 ∧
      t.time.sample = none)) ∧
    (n = 1 ∨ n = 2 → Completes (.servoCfgWrite acc v) s (fun t => t.answer = {} ∧ t.ob oidServoCfg = v ∧ t.time.sample = none ∧
      t.servo = if st = 0 ∧ s.pd3 = true then 1 else st))) ∧
  (s.time.sample = none ∨ s.pd3 = false → exec .servoSample s = .next s) ∧
  (s.time.sample = some off → s.pd3 = true →
    (st = 3 → take (fun t => t.servo = 1)) ∧
    (st = 1 → (s.ob oidServoStepNs).toNat < off.natAbs → take (fun t => t.servo = 1 ∧
      (t.time.dt : Int) = ((s.time.dt : Int) - off * 2 ^ 48) % mod ∧ Flagged oidTimeSticky 0 (oidTimeCnt 0) s t)) ∧
    (st = 1 → off.natAbs ≤ (s.ob oidServoStepNs).toNat → 100 ≤ off.natAbs → take (fun t => t.servo = 1 ∧ t.time.good = 0)) ∧
    (st = 1 → off.natAbs ≤ (s.ob oidServoStepNs).toNat → off.natAbs < 100 → take (fun t =>
      (s.time.good < 15 → t.servo = 1 ∧ t.time.good = s.time.good + 1) ∧ (15 ≤ s.time.good → t.servo = 2))) ∧
    (st = 2 → off.natAbs ≤ 1000 → take (fun t => t.servo = 2 ∧ t.time.bad = 0)) ∧
    (st = 2 → 1000 < off.natAbs → take (fun t =>
      (s.time.bad < 3 → t.servo = 2 ∧ t.time.bad = s.time.bad + 1) ∧
      (3 ≤ s.time.bad → t.servo = 1 ∧ Flagged oidTimeSticky 1 (oidTimeCnt 1) s t)))) ∧
  (st = 1 ∨ st = 2 → Completes .servoSampleTimeout s (fun t => t.servo = 3 ∧ Flagged oidTimeSticky 2 (oidTimeCnt 2) s t)) ∧
  (st ≠ 1 → st ≠ 2 → exec .servoSampleTimeout s = .next s))

/-- R349–R352, R364: the PTP instance. A message of another domain, or on a lane where the instance does not run, is not
taken; a one-step Sync of the parent, or a Sync and its Follow_Up, gives the servo its offset sample; a Delay_Resp gives the
path delay; a message that the instance sends is recorded with its egress time; a lost parent holds the servo over, a new
one makes it acquire. Of the model's own choices this rests on log 31 (the forms of IEEE 1588). -/
def Obligations.PtpInstance : Prop :=
  ∀ (s : State) (lane : Fin 2) (m : PtpMsg) (ts : Int) (kind : PtpKind) (seq utc : Half) (ports : Byte)
    (parent : Dword) (quality : Word), Canonical s →
  mapWf (fun _ => (none : Option (Nat × Int))) s.time.ptp.req = true → mapWf (fun _ => (0 : Int)) s.time.ptp.delay = true →
  let cfg := s.ob oidPtpCfg
  let here : Prop := s.pd3 = true ∧ bit cfg (11 + lane) = true
  let mine : Prop := here ∧ m.domain.toNat = cfg.toNat / 2 ^ 3 % 2 ^ 8
  let src := (s.ob oidServoCfg).toNat % 4
  let st := (s.ob oidServoState).toNat
  let at' := ts + rneDiv ((s.ob (oidTsAsym lane)).toInt * 65536) 1000
  (¬mine → exec (.ptpMessageRx lane m ts) s = .next s) ∧
  (mine → m.kind = .sync → m.src = s.parentId → m.twoStep = false → src = 1 → Completes (.ptpMessageRx lane m ts) s (fun t =>
    t.time.sample = some (rneShift (at' - m.corr - m.ts - s.pathDelay lane) 16) ∧ t = { s with time := t.time })) ∧
  (mine → m.kind = .sync → m.src = s.parentId → m.twoStep = true → Completes (.ptpMessageRx lane m ts) s (fun t =>
    t = { s with time := t.time } ∧ t.time.ptp.sync = some (m.seq.toNat, at', m.corr) ∧ t.time.sample = s.time.sample)) ∧
  (∀ t2 c, mine → m.kind = .followUp → m.src = s.parentId → s.time.ptp.sync = some (m.seq.toNat, t2, c) → src = 1 →
    Completes (.ptpMessageRx lane m ts) s (fun t => t = { s with time := t.time } ∧ t.time.ptp.sync = none ∧
      t.time.sample = some (rneShift (t2 - c - m.corr - m.ts - s.pathDelay lane) 16))) ∧
  (∀ t3, mine → m.kind = .delayResp → m.src = s.parentId → mapGet (fun _ => none) s.time.ptp.req lane = some (m.seq.toNat, t3) →
    Completes (.ptpMessageRx lane m ts) s (fun t => mapGet (fun _ => none) t.time.ptp.req lane = none ∧
      t.pathDelay lane = (s.time.ptp.down + (m.ts - t3 - m.corr)) / 2 ∧ Touches [oidPtpPathDelay] s t)) ∧
  (mine → m.kind = .announce → m.src = s.parentId → Completes (.ptpMessageRx lane m ts) s (fun t =>
    t.ob oidPtpParentQuality = m.quality ∧ t.ob oidPtpUtcOffset = BitVec.ofInt 32 m.utc.toInt)) ∧
  (mine → m.kind = .sync → m.src ≠ s.parentId → exec (.ptpMessageRx lane m ts) s = .next s) ∧
  (here → s.ptpSends lane kind = true → Completes (.ptpMessageTx lane kind seq ts) s (fun t => t = { s with time := t.time } ∧
    (∃ x, t.time.ptp.sent = some x ∧ x.kind = kind ∧ x.seq = seq ∧
      (s.ptpRelays lane = false → x.ts = at') ∧
      (s.ptpRelays lane = true → kind = .sync ∨ kind = .followUp → x.ts + x.corr = at' - (s.time.ptp.down - s.pathDelay (1 - lane.val)))) ∧
    (kind = .delayReq ∨ kind = .pdelayReq → mapGet (fun _ => none) t.time.ptp.req lane = some (seq.toNat, at')))) ∧
  (¬here ∨ s.ptpSends lane kind = false → exec (.ptpMessageTx lane kind seq ts) s = .next s) ∧
  Completes (.announceTimeout ports) s (fun t => t.ob oidPtpPortState = ports.setWidth 32 ∧
    (s.pd3 = true → src = 1 → st = 1 ∨ st = 2 → t.servo = 3) ∧ (src ≠ 1 → t.servo = s.servo)) ∧
  Completes (.ptpParentChange parent quality utc ports) s (fun t => t.parentId = parent ∧ t.ob oidPtpParentQuality = quality ∧
    t.ob oidPtpUtcOffset = BitVec.ofInt 32 utc.toInt ∧ t.ob oidPtpPortState = ports.setWidth 32 ∧
    t.servo = if s.pd3 = true ∧ src = 1 then 1 else s.servo)

/-- R356–R363, R367, R368: time actions. An unknown target, a period or width that does not fit and a pin not released give
RANGE, a busy entry or a second entry for a commit or an activation BUSY; an accepted entry is armed. Before DUE nothing
fires; a pin action fires once, counts, and the entry is done; the pulse's end drives its pin low. Captures. PIN above 60
and EDGE 3 give RANGE, an enable without PD3 NOT_READY. An edge stamps every channel that selects its source and direction
with DT and the channel's next number; one within 1 µs of the channel's last record only sets OVERRUN; a channel that does
not select it keeps its record. Of the model's own choices this rests on log 34 (the order of the refusals, the first
record's number). -/
def Obligations.TimeActionsAndCaptures : Prop :=

  (∀ (s : State) (acc : Access) (e : Fin 128) (v : Word), Canonical s →
  let tgt := v.toNat / 2 % 16
  let p := (s.ob (oidTaPeriod e)).toNat
  let pin := fld (s.ob (oidTaArg e)) 4 0
  let u := (s.put (oidTaCfg e) v).taState e 1
  let bad : Prop := tgt = 0 ∨ taPeriodOk tgt p = false ∨ (2 ≤ tgt ∧ tgt ≤ 5 ∧ bit (s.ob oidGpioTimeOut) pin = false) ∨
    (tgt = 5 ∧ taWidthOk p (s.ob (oidTaWidth e)).toNat = false)
  let twice : Prop := 7 ≤ tgt ∧ ∃ f, f < 128 ∧ f ≠ e.val ∧ s.taOn f = true ∧ s.taTarget f = tgt
  (s.admits acc (oidTaCfg e) v = true →
    (8 < tgt → Completes (.taCfgWrite acc e v) s (TurnedAway s (oidTaCfg e) stRange)) ∧
    (tgt ≤ 8 → v.getLsbD 0 = false → s.taBusy e = true → Completes (.taCfgWrite acc e v) s (TurnedAway s (oidTaCfg e) stBusy)) ∧
    (tgt ≤ 8 → v.getLsbD 0 = false → s.taBusy e = false → Completes (.taCfgWrite acc e v) s (fun t => t.answer = {} ∧
      t.ob (oidTaCfg e) = v ∧ fld (t.ob (oidTaStatus e)) 1 0 = 0 ∧ e.val ∉ t.time.late)) ∧
    (tgt ≤ 8 → v.getLsbD 0 = true → bad → Completes (.taCfgWrite acc e v) s (TurnedAway s (oidTaCfg e) stRange)) ∧
    (tgt ≤ 8 → v.getLsbD 0 = true → ¬bad → s.pd3 = false → Completes (.taCfgWrite acc e v) s (TurnedAway s (oidTaCfg e) stNotReady)) ∧
    (tgt ≤ 8 → v.getLsbD 0 = true → ¬bad → s.pd3 = true → s.taBusy e = true ∨ twice →
      Completes (.taCfgWrite acc e v) s (TurnedAway s (oidTaCfg e) stBusy)) ∧
    (tgt ≤ 8 → v.getLsbD 0 = true → ¬bad → s.pd3 = true → s.taBusy e = false → ¬twice → 2000 * 2 ^ 48 ≤ u.fireIn e →
      Completes (.taCfgWrite acc e v) s (fun t => t.answer = {} ∧ t.ob (oidTaCfg e) = v ∧
        fld (t.ob (oidTaStatus e)) 1 0 = 1 ∧ t.time = s.time))) ∧
  (s.pd3 = false ∨ s.taOn e = false → exec (.timeActionFire e) s = .next s) ∧
  (s.taTarget e ≠ 7 → e.val ∉ s.time.late → 0 < s.dueIn e → exec (.timeActionFire e) s = .next s) ∧
  (s.taTarget e = 7 → e.val ∉ s.time.late → 0 < s.dueIn e → (s.time.dt : Int) - s.time.gb < s.dueFine e →
    exec (.timeActionFire e) s = .next s) ∧
  (s.pd3 = true → s.taOn e = true → s.taTarget e = 2 → e.val ∉ s.time.late → s.dueIn e ≤ 0 → p = 0 → bit (s.ob oidGpioTimeOut) pin = true →
    Completes (.timeActionFire e) s (fun t => t.time.gpio = setBit s.time.gpio pin true ∧ t.taOn e = false ∧
      fld (t.ob (oidTaStatus e)) 1 0 = 2 ∧ t.ob (oidTaFireCnt e) = satInc (s.ob (oidTaFireCnt e)))) ∧
  (∀ q, s.time.pulses.find? (fun x => x.1 = e.val) = some (e.val, q) → bit (s.ob oidGpioTimeOut) q = true →
    Completes (.gpioPulseEnd e) s (fun t => t.time.gpio = setBit s.time.gpio q false ∧
      t.time.pulses = mapDel e.val s.time.pulses ∧ t.obj = s.obj)) ∧
  (s.time.pulses.find? (fun x => x.1 = e.val) = none → exec (.gpioPulseEnd e) s = .next s)) ∧
  (∀ (s : State) (acc : Access) (c : Fin 16) (v : Word) (src : Fin 61) (rising : Bool) (ns : Fin 4),
  Canonical s → mapWf (fun _ => (none : Option Nat)) s.time.capAt = true →
  let cfg (k : Nat) : Word := s.ob (oidCapCfg k)
  let e (k : Nat) : Nat := (cfg k).toNat / 2 ^ 7 % 4
  let seen (k : Nat) : Prop := s.pd3 = true ∧ (cfg k).getLsbD 0 = true ∧ (cfg k).toNat / 2 % 2 ^ 6 = src.val ∧
    (e k = 2 ∨ e k = 0 ∧ rising = true ∨ e k ≠ 0 ∧ e k ≠ 2 ∧ rising = false)
  let bad : Prop := 60 < v.toNat / 2 % 2 ^ 6 ∨ v.toNat / 2 ^ 7 % 4 = 3
  let tot := (s.time.dt + ns.val * 2 ^ 48) / 2 ^ 48
  let seq := ((s.ob (oidCapSeq c)).toNat % 2 ^ 31 + 1) % 2 ^ 31
  (s.admits acc (oidCapCfg c) v = true →
    (bad → Completes (.capCfgWrite acc c v) s (TurnedAway s (oidCapCfg c) stRange)) ∧
    (¬bad → v.getLsbD 0 = true → s.pd3 = false → Completes (.capCfgWrite acc c v) s (TurnedAway s (oidCapCfg c) stNotReady)) ∧
    (¬bad → v.getLsbD 0 = false ∨ s.pd3 = true → Completes (.capCfgWrite acc c v) s (Stored (s.put (oidCapCfg c) v)))) ∧
  ((∀ k, k < 16 → ¬seen k) → exec (.captureEdge src rising ns) s = .next s) ∧
  Completes (.captureEdge src rising ns) s (fun t => t.time.dt = s.time.dt ∧ t.time.cyc = s.time.cyc ∧
    (¬seen c → t.ob (oidCapSeq c) = s.ob (oidCapSeq c) ∧ t.ob (oidCapSticky c) = s.ob (oidCapSticky c) ∧
      t.ob (oidCapNs c) = s.ob (oidCapNs c)) ∧
    (∀ l, seen c → mapGet (fun _ => none) s.time.capAt c = some l → s.time.cyc < l + 250 →
      Flagged (oidCapSticky c) 0 (oidCapOvrCnt c) s t ∧ t.ob (oidCapSeq c) = s.ob (oidCapSeq c)) ∧
    (seen c → mapGet (fun _ => none) s.time.capAt c = none →
      t.ob (oidCapSeq c) = BitVec.ofNat 32 (seq + if rising then 2 ^ 31 else 0) ∧
      t.ob (oidCapSecLo c) = BitVec.ofNat 32 (tot / 10 ^ 9) ∧ t.ob (oidCapNs c) = BitVec.ofNat 32 (tot % 10 ^ 9) ∧
      t.ob (oidCapFrac c) = BitVec.ofNat 32 ((s.time.dt + ns.val * 2 ^ 48) / 2 ^ 32 % 65536))))

/-- R371–R373: LANE_CFG switches a lane off or seeks its link anew; the link's events move it between DOWN and UP and a loss
empties its queues; relaying without PTP relaying is out of range; learned addresses age out. Of the model's own choices
this rests on log 67 (a write that changes neither MODE nor AUTONEG). -/
def Obligations.LanesAndBridge : Prop :=
  ∀ (s : State) (acc : Access) (lane : Fin 4) (v : Word) (tc : Fin 8)
    (e : Nat × Nat × Nat × Nat), Canonical s → mapWf (fun _ => []) s.net.queues = true →
  let cfg := oidLaneCfg lane
  let bad : Prop := fld v 2 1 = 3 ∨ lane.val = 3 ∧ fld v 2 1 ≠ 0
  let old := s.ob cfg
  let anew : Prop := bit old 0 = false ∨ fld v 3 1 ≠ fld old 3 1 ∨ s.lane lane = 0
  (s.admits acc cfg v = true →
    (bad → Completes (.laneCfgWrite acc lane v) s (TurnedAway s cfg stRange)) ∧
    (¬bad → bit v 0 = false → Completes (.laneCfgWrite acc lane v) s (fun t => t.answer = {} ∧ t.ob cfg = v ∧ t.lane lane = 0 ∧
      (s.laneUp lane = true → t.queue lane tc = []))) ∧
    (¬bad → bit v 0 = true → anew → Completes (.laneCfgWrite acc lane v) s (fun t => t.answer = {} ∧ t.ob cfg = v ∧ t.lane lane = 1 ∧
      (s.laneUp lane = true → t.queue lane tc = []))) ∧
    (¬bad → bit v 0 = true → ¬anew → Completes (.laneCfgWrite acc lane v) s (Stored (s.put cfg v)))) ∧
  (s.pd3 = true → s.lane lane = 1 → Completes (.laneLinkUp lane) s (fun t => t.laneUp lane = true ∧
    ∀ m, m < 4 → m ≠ lane.val → t.lane m = s.lane m)) ∧
  (s.pd3 = false ∨ s.lane lane ≠ 1 → exec (.laneLinkUp lane) s = .next s) ∧
  (s.laneUp lane = true → Completes (.laneLinkDown lane) s (fun t => t.lane lane = 1 ∧ t.queue lane tc = [] ∧
    Flagged (oidLaneSticky lane) 0 (oidLaneCnt lane 0) s t)) ∧
  (s.laneUp lane = false → exec (.laneLinkDown lane) s = .next s) ∧
  (s.admits acc oidBridgeMode v = true →
    (v = 2 → fld (s.ob oidPtpCfg) 2 0 ≠ 4 → Completes (.bridgeModeWrite acc v) s (TurnedAway s oidBridgeMode stRange)) ∧
    (v ≠ 2 ∨ fld (s.ob oidPtpCfg) 2 0 = 4 → Completes (.bridgeModeWrite acc v) s (Stored (s.put oidBridgeMode v)))) ∧
  Completes .fdbAgeing s (fun t => t = { s with net := { s.net with fdb := t.net.fdb } } ∧
    (e ∈ t.net.fdb ↔ e ∈ s.net.fdb ∧ s.time.cyc < e.2.2.2 + (s.ob oidBridgeAgeing).toNat * 250000000))

/-- R372–R376, R392, R394, R395, R398: a frame on a lane that is not UP is not received; a damaged one is flagged and
reaches neither the address table nor the internal port; a unit's own frame that the ring brings back is removed; a good
frame is counted, its source learned, and it waits for the other lane in the queue of its class where the bridge forwards
it. A twin frame on L3 fills the ring's next descriptor, or is discarded or cut short. A queued frame starts on an idle
lane. Of the model's own choices this rests on log 63 (when a frame comes), log 66, log 67 and log 68 (descriptors). -/
def Obligations.FramesCross : Prop :=
  ∀ (s : State) (lane : Fin 4) (fcs : Bool) (bytes : List Byte) (bufs : List (Nat × Nat)) (recent : Bool)
    (f : Frame) (r : List Frame) (tc : Nat), Canonical s → mapWf (fun _ => []) s.net.queues = true →
  mapWf (fun _ => 0) s.net.txEnd = true → mapWf (fun _ => 0) s.net.txCls = true → mapWf (fun _ => none) s.net.sent = true →
  mapWf (fun _ => []) s.net.rings = true → mapWf (fun _ => 0) s.host.netRam = true →
  let c : Instr := .frameReceive lane fcs bytes bufs recent
  let n := bytes.length + 4
  let sized : Prop := 64 ≤ n ∧ n ≤ 1522
  let src := beAt bytes 6 6
  let dst := beAt bytes 0 6
  let k := s.classify bytes
  let counted := s.put (oidLaneRxFrames lane) (s.ob (oidLaneRxFrames lane) + 1)
  let all := (s.net.queues.map (fun e => frameBytes e.2)).foldl (· + ·) 0
  (s.laneUp lane = false → exec c s = .next s) ∧
  (s.laneUp lane = true → ¬(fcs = true ∧ sized) → Completes c s (fun t =>
    Flagged (oidLaneSticky lane) 1 (oidLaneCnt lane 1) s t ∧ t.net.fdb = s.net.fdb ∧ t.net.rings = s.net.rings ∧ t.sess = s.sess ∧
    t.ob (oidLaneRxFrames lane) = s.ob (oidLaneRxFrames lane))) ∧
  (s.laneUp lane = true → fcs = true → sized →
    (lane.val < 2 → s.ob oidBridgeMode = 2 → src = s.mac 0 ∨ src = s.mac 1 → exec c s = .next counted) ∧
    (lane.val = 2 → dst ≠ s.mac 2 → dst / 2 ^ 40 % 2 = 0 → exec c s = .next counted) ∧
    (lane.val < 2 → s.ringOf lane bytes = none → s.ob oidBridgeMode ≠ 2 ∨ src ≠ s.mac 0 ∧ src ≠ s.mac 1 →
      Completes c s (fun t => t.ob (oidLaneRxFrames lane) = s.ob (oidLaneRxFrames lane) + 1 ∧
        (s.ob oidBridgeMode = 1 → src / 2 ^ 40 % 2 = 0 → s.net.fdb.length < 2048 → t.learned src (vidOf bytes) = some lane.val) ∧
        ((s.forwardTo lane bytes).1 = true → s.laneUp (1 - lane.val) = true → bit (s.ob oidNetCutMask) k = false →
          frameBytes (s.queue (1 - lane.val) k) + n ≤ 262144 → all + n ≤ 2097152 →
          ∃ g, t.queue (1 - lane.val) k = s.queue (1 - lane.val) k ++ [g] ∧ g.len = n ∧ g.tc = k ∧ g.src = lane.val ∧ g.at' = s.time.dt ∧
            g.bytes = bytes ∧ g.pkt = none ∧ g.bad = false ∧
            4 * s.time.cyc + s.wireNs lane n + (if s.laneMbps (1 - lane.val) = 10000 then 320 else 800) ≤ 4 * g.ready) ∧
        ((s.forwardTo lane bytes).1 = false → t.net.queues = s.net.queues))) ∧
    (lane.val = 3 → s.ringOf lane bytes = some 2 →
      (bufs = [] → Completes c s (fun t => Flagged (oidLaneSticky lane) 3 (oidLaneCnt lane 3) s t ∧ t.net.rings = s.net.rings ∧
        t.host.netRam = s.host.netRam)) ∧
      (∀ a b, bufs = [(a, b)] → n ≤ b → Completes c s (fun t =>
        (∃ d, mapGet (fun _ => []) t.net.rings (8 * 3 + 2) = [d] ∧ d.addr = a ∧ d.len = n ∧ d.flags = 2 + 4 + 16 ∧
          d.tsSec = s.dtSec % 65536 ∧ d.tsNs = s.dtNs) ∧
        ∀ i, i < bytes.length → bytes[i]? = some (mapGet (fun _ => 0) t.host.netRam (a + i)))) ∧
      (∀ a b, bufs = [(a, b)] → b < n → Completes c s (fun t => Flagged (oidLaneSticky lane) 2 (oidLaneCnt lane 2) s t ∧
        ∃ d, mapGet (fun _ => []) t.net.rings (8 * 3 + 2) = [d] ∧ d.len = b ∧ d.flags = 2 + 4 + 8 + 16)))) ∧
  (s.laneUp lane = false ∨ s.sending lane ≠ none → exec (.frameTransmit lane) s = .next s) ∧
  (s.laneUp lane = true → s.sending lane = none →
    ((s.credits lane).nextClass lane = none → exec (.frameTransmit lane) s = .next (s.credits lane)) ∧
    ((s.credits lane).nextClass lane = some tc → s.queue lane tc = f :: r → Completes (.frameTransmit lane) s (fun t =>
      t.queue lane tc = r ∧ t.sending lane = some f.tc ∧
      mapGet (fun _ => none) t.net.sent lane = some (s.correct f ((((s.time.dt : Int) - f.at') % dtMod) / 2 ^ 32)) ∧
      (f.bad = false → t.ob (oidLaneTxFrames lane) = s.ob (oidLaneTxFrames lane) + 1) ∧
      (f.bad = true → t.ob (oidLaneTxFrames lane) = s.ob (oidLaneTxFrames lane)))))

/-- R377, R378, R381–R383, R399: a gate list with a legal length, cycle and intervals waits for a cycle start at or after 10
µs from now and takes force there, entry by entry; a pause frame of the lane's kind stops the classes it names but the
immune ones, each pause ends on its own, and a full buffer asks the peer to pause. Of the model's own choices this rests on
log 73 (a pause that replaces another). -/
def Obligations.GatesAndPauses : Prop :=
  ∀ (s : State) (acc : Access) (p : Fin 2) (lane : Fin 4) (tc : Fin 8) (pfc : Bool) (enable : Byte)
    (times : List Half) (q : Nat) (l : GclList), Canonical s → mapWf (fun _ => {}) s.net.gcl = true →
  mapWf (fun _ => 0) s.net.paused = true → mapWf (fun _ => 0) s.net.asked = true →
  mapWf (fun _ => none) s.net.pauseOut = true →
  let o := oidGclCtrl p
  let ctl := s.ob o
  let n := fld ctl 10 2
  let a := s.gclAdmin p n
  let bad : Prop := n = 0 ∨ 256 < n ∨ a.cycle < 1000 ∨ 10 ^ 9 < a.cycle ∨ a.entries.any (gclIv · < 64) = true
  let g := s.gcl p
  let cfg := s.ob (oidLaneCfg lane)
  let names := s.pauseList pfc enable times
  let asks : Prop := s.laneUp lane = true ∧ bit cfg 5 = true ∧ s.immune tc = false
  let b := s.deliveredBytes lane tc
  let asked (t : State) := mapGet (fun _ => 0) t.net.asked (8 * lane.val + tc.val)
  let paused := mapGet (fun _ => 0) s.net.paused (8 * lane.val + tc.val)
  let sends (k : Nat) : Prop := Completes (.pauseTxSend lane tc) s (fun t => asked t = k ∧ t.obj = s.obj ∧
    ∃ y, mapGet (fun _ => none) t.net.pauseOut lane = some y ∧ y.quanta = k ∧ y.pfc = bit cfg 6 ∧
      y.enable = if bit cfg 6 then s.priosOf tc else 0)
  (s.admits acc o ((ctl &&& 0x7FD) ||| 2) = true →
    (bad → Completes (.configChange acc p) s (TurnedAway s o stRange)) ∧
    (¬bad → Completes (.configChange acc p) s (fun t => t.answer = {} ∧ bit (t.ob o) 11 = true ∧ fld (t.ob o) 10 2 = n ∧
      (t.gcl p).pend = some a ∧ (t.gcl p).oper = g.oper ∧ (t.gcl p).idx = g.idx ∧
      s.dtTotal + 10000 ≤ (t.gcl p).change ∧ a.base ≤ (t.gcl p).change ∧ ((t.gcl p).change - a.base) % a.cycle = 0 ∧
      ((t.gcl p).change = a.base ∨ (t.gcl p).change < s.dtTotal + 10000 + a.cycle)))) ∧
  (g.pend = none ∨ s.dtTotal < g.change → exec (.gclChange p) s = .next s) ∧
  (g.pend = some l → g.change ≤ s.dtTotal → Completes (.gclChange p) s (fun t => (t.gcl p).oper = l ∧ (t.gcl p).idx = 0 ∧ (t.gcl p).start = g.change ∧
    (t.gcl p).pend = none ∧ bit (t.ob o) 11 = false ∧ t.ob (oidGclOperLen p) = wd l.entries.length ∧
    t.ob (oidGclOperCycle p) = wd l.cycle)) ∧
  (g.oper.entries ≠ [] → g.start + g.oper.endOf g.idx ≤ s.dtTotal → Completes (.gclEntryAdvance p) s (fun t =>
    t = { s with net := { s.net with gcl := t.net.gcl, cred := t.net.cred, credAt := t.net.credAt } } ∧
    (g.idx + 1 < g.oper.entries.length → g.oper.endOf g.idx < g.oper.cycle →
      (t.gcl p).idx = g.idx + 1 ∧ (t.gcl p).start = g.start) ∧
    (g.oper.entries.length ≤ g.idx + 1 ∨ g.oper.cycle ≤ g.oper.endOf g.idx →
      (t.gcl p).idx = 0 ∧ (t.gcl p).start = g.start + g.oper.cycle))) ∧
  (g.oper.entries = [] ∨ s.dtTotal < g.start + g.oper.endOf g.idx → exec (.gclEntryAdvance p) s = .next s) ∧
  (s.laneUp lane = false ∨ bit cfg 4 = false ∨ bit cfg 6 ≠ pfc → exec (.pauseRx lane pfc enable times) s = .next s) ∧
  (s.laneUp lane = true → bit cfg 4 = true → bit cfg 6 = pfc → Completes (.pauseRx lane pfc enable times) s (fun t =>
    ((tc.val, q) ∈ names → (∀ q', (tc.val, q') ∈ names → q' = q) → s.immune tc = false →
      mapGet (fun _ => 0) t.net.paused (8 * lane.val + tc.val) =
        (if q = 0 then 0 else s.time.cyc + (q * 512000 / s.laneMbps lane + 3) / 4) ∧ bit (t.ob (oidLaneSticky lane)) 4 = true) ∧
    (s.immune tc = true ∨ (∀ q', (tc.val, q') ∉ names) → t.isPaused lane tc = s.isPaused lane tc) ∧
    ((tc.val, q) ∈ names → s.immune tc = true → bit (t.ob (oidLaneSticky lane)) 5 = true))) ∧
  (s.time.cyc < paused → exec (.pauseExpire lane tc) s = .next s) ∧
  (paused ≤ s.time.cyc → Completes (.pauseExpire lane tc) s (fun t =>
    t = { s with net := { s.net with paused := t.net.paused, cred := t.net.cred, credAt := t.net.credAt } } ∧
    t.isPaused lane tc = false ∧ ∀ m, m ≠ tc.val → m < 8 → t.isPaused lane m = s.isPaused lane m)) ∧
  (asks → 196608 ≤ b → asked s = 0 → sends 0xFFFF) ∧
  (asks → b < 65536 → asked s ≠ 0 → sends 0) ∧
  (¬asks ∨ 65536 ≤ b ∧ b < 196608 ∨ 196608 ≤ b ∧ asked s ≠ 0 ∨ b < 65536 ∧ asked s = 0 → exec (.pauseTxSend lane tc) s = .next s)

/-- R385–R391, R402: a stream's configuration is frozen while it is enabled and an illegal or clashing one is out of range;
enabled, a receive stream waits and a transmit stream waits or is held. A full packet joins the media queue of each UP lane
of its paths; a matching packet of another format is flagged; one in format leads a waiting stream to ENTER and fills the
places of its samples; a held stream without packets waits again. Of the model's own choices this rests on log 69, log 71
and log 72 (frozen objects, the first packet, the media count). -/
def Obligations.MediaStreams : Prop :=
  ∀ (s : State) (acc : Access) (n : Fin 128) (v : Word) (lane : Fin 2) (p : MediaPkt) (j : Nat),
  Canonical s → mapWf (fun _ => ({} : NetRx)) s.net.rx = true → mapWf (fun _ => ({} : NetTx)) s.net.tx = true →
  mapWf (fun _ => []) s.net.queues = true → mapWfFrom (fun _ => (⟨0, []⟩ : RxSlot)) 0 (s.nrx n).slots = true →
  let rc := oidNetRxCfg n
  let tc := oidNetTxCfg n
  let x := s.nrx n
  let rxOthers := ((List.range 128).filter (fun m => m ≠ n.val && bit (s.ob (oidNetRxCfg m)) 0))
  let txOthers := ((List.range 128).filter (fun m => m ≠ n.val && bit (s.ob (oidNetTxCfg m)) 0)).map (fun m => s.ob (oidNetTxCfg m))
  let rxBad : Prop := s.streamBad v true (rxOthers.map (fun m => s.ob (oidNetRxCfg m))) = true ∨
    ∃ m ∈ rxOthers, s.matchOf m (s.ob (oidNetRxCfg m)) = s.matchOf n v
  let txBad : Prop := s.streamBad v false txOthers = true ∨ s.txDestBad n v = true ∨
    (if bit v 1 then 1476 else 1452) < fld v 12 6 * fmtBytes (fld v 5 4) * (s.ob (oidNetTxFrames n)).toNat
  let frozen (o : Nat) : Prop := bit (s.ob o) 0 = true ∧ v ||| 1 ≠ s.ob o
  let mtc := fld (s.ob oidNetTcRoles) 2 0
  let pk : MediaPkt := { p with ext := if p.aaf then none else some (s.claimExt s.claim), srcIp := if p.aaf then 0 else s.ob (oidLaneIpv4 lane) }
  let room : Prop := frameBytes (s.queue lane mtc) + mediaLen pk ≤ 262144 ∧
    (s.net.queues.map (fun e => frameBytes e.2)).foldl (· + ·) 0 + mediaLen pk ≤ 2097152
  let hz := s.domHz (s.domOf 1 n)
  let found : Prop := s.laneUp lane = true ∧ s.rxMatches n lane p = true
  let size := p.chans * fmtBytes p.fmt
  let fits : Prop := p.chans = fld (s.ob rc) 12 6 ∧ p.fmt = fld (s.ob rc) 5 4 ∧ (p.aaf = true → p.rate = hz) ∧ p.payload ≠ [] ∧
    p.payload.length % size = 0 ∧ p.payload.length ≤ 192 * size
  let frames := p.payload.length / size
  let claim := s.claimOf p
  let n0 := s.firstCount n p
  let now := mediaCount s.dtTotal hz
  let words := payloadWords p.fmt (frames * p.chans) p.payload
  let slot (y : NetRx) (i : Nat) : Option RxSlot := (y.slots.find? (fun e => e.1 = i)).map (·.2)
  (s.admits acc rc v = true →
    (fld v 5 4 = 3 → Completes (.netRxCfgWrite acc n v) s (TurnedAway s rc stRange)) ∧
    (fld v 5 4 ≠ 3 → frozen rc → Completes (.netRxCfgWrite acc n v) s (TurnedAway s rc stNotReady)) ∧
    (fld v 5 4 ≠ 3 → bit (s.ob rc) 0 = false → bit v 0 = true → rxBad → Completes (.netRxCfgWrite acc n v) s (TurnedAway s rc stRange)) ∧
    (fld v 5 4 ≠ 3 → bit (s.ob rc) 0 = false → bit v 0 = true → ¬rxBad → s.rxState n = 0 → Completes (.netRxCfgWrite acc n v) s (fun t =>
      t.answer = {} ∧ t.ob rc = v ∧ t.rxState n = 1 ∧ t.nrx n = { cfg := v })) ∧
    (fld v 5 4 ≠ 3 → ¬frozen rc → bit v 0 = false → Completes (.netRxCfgWrite acc n v) s (fun t => t.answer = {} ∧ t.ob rc = v ∧
      (s.rxState n ≤ 1 → x.out = false → t.rxState n = 0) ∧
      (2 ≤ s.rxState n → hz ≠ 0 → (t.nrx n).out = true ∧ (t.nrx n).next = 0)))) ∧
  (s.admits acc tc v = true →
    (fld v 5 4 = 3 → Completes (.netTxCfgWrite acc n v) s (TurnedAway s tc stRange)) ∧
    (fld v 5 4 ≠ 3 → frozen tc → Completes (.netTxCfgWrite acc n v) s (TurnedAway s tc stNotReady)) ∧
    (fld v 5 4 ≠ 3 → bit (s.ob tc) 0 = false → bit v 0 = true → txBad → Completes (.netTxCfgWrite acc n v) s (TurnedAway s tc stRange)) ∧
    (fld v 5 4 ≠ 3 → bit (s.ob tc) 0 = false → bit v 0 = true → ¬txBad → Completes (.netTxCfgWrite acc n v) s (fun t =>
      t.answer = {} ∧ t.ob tc = v ∧ t.txState n = (if (s.put tc v).txHeld n then 3 else 1) ∧ (t.ntx n).fill = [] ∧ (t.ntx n).full = none)) ∧
    (fld v 5 4 ≠ 3 → ¬frozen tc → bit v 0 = false → Completes (.netTxCfgWrite acc n v) s (fun t => t.answer = {} ∧ t.ob tc = v ∧
      t.txState n = 0 ∧ t.ntx n = {}))) ∧
  ((s.ntx n).full = none → exec (.mediaTxPacket n) s = .next s) ∧
  ((s.ntx n).full = some p → Completes (.mediaTxPacket n) s (fun t => (t.ntx n).full = none ∧ (t.ntx n).fill = (s.ntx n).fill ∧
    (bit (s.ob tc) (2 + lane.val) = true → s.laneUp lane = true → room →
      lane.val = 0 ∨ bit (s.ob tc) 2 = false ∨ s.laneUp 0 = false → ∃ f, t.queue lane mtc = s.queue lane mtc ++ [f] ∧
        f.pkt = some pk ∧ f.len = mediaLen pk ∧ f.tc = mtc ∧ f.src = 8) ∧
    (bit (s.ob tc) (2 + lane.val) = false ∨ s.laneUp lane = false → t.queue lane mtc = s.queue lane mtc))) ∧
  (s.laneUp lane = false ∨ (∀ m, m < 128 → s.rxMatches m lane p = false) → exec (.mediaRxPacket ⟨lane, by omega⟩ p) s = .next s) ∧
  (found → ¬fits → Completes (.mediaRxPacket ⟨lane, by omega⟩ p) s (fun t => Flagged (oidNetRxSticky n) 6 (oidNetRxCnt n 6) s t ∧
    t.rxState n = s.rxState n ∧ (t.nrx n).slots = x.slots)) ∧
  (found → fits →
    (s.rxState n = 1 → hz ≠ 0 → x.out = false → Completes (.mediaRxPacket ⟨lane, by omega⟩ p) s (fun t =>
      t.rxState n = 2 ∧ (t.nrx n).pos = (max n0 (now + 1)).toNat)) ∧
    (2 ≤ s.rxState n → n0 + frames ≤ x.pos + 1024 → j < frames → x.pos ≤ n0 + j →
      Completes (.mediaRxPacket ⟨lane, by omega⟩ p) s (fun t => t.rxState n = s.rxState n ∧ (t.nrx n).pos = x.pos ∧
        ((∀ d, slot x (n0 + j).toNat = some d → d.claim < claim) → slot (t.nrx n) (n0 + j).toNat =
          some { claim := claim, vals := (words.drop (j * p.chans)).take p.chans }) ∧
        (∀ d, slot x (n0 + j).toNat = some d → claim ≤ d.claim → slot (t.nrx n) (n0 + j).toNat = some d))) ∧
    (2 ≤ s.rxState n → x.pos + 1024 < n0 + frames → Completes (.mediaRxPacket ⟨lane, by omega⟩ p) s (fun t =>
      Flagged (oidNetRxSticky n) 1 (oidNetRxCnt n 1) s t ∧ (t.nrx n).slots = x.slots))) ∧
  (s.rxState n = 4 → x.out = false → s.rxSilent n 250000000 = true → Completes (.netRxTimeout n) s (fun t => t.rxState n = 1 ∧ (t.nrx n).slots = [] ∧ (t.nrx n).vals = [])) ∧
  (s.rxState n ≠ 4 ∨ x.out = true ∨ s.rxSilent n 250000000 = false → exec (.netRxTimeout n) s = .next s)

/-- R411–R416, R437, R438, R441, R443: OPEN_SESSION takes the session asked for or the lowest free one, and refuses in its
order; one that repeats within 1 s opens no second session. CLOSE_SESSION, a timeout and a disabled class begin to close a
session; once its commands have finished it is FREE, its staged objects withdrawn and its armed commit gone. A saturation is
reported at most once in a second. Event frames carry up to 56 records. Of the model's own choices this rests on log 60 (the
first SEQ) and log 75 (the number of a session). -/
def Obligations.Sessions : Prop :=
  ∀ (s : State) (h : Hdr) (mode credit req : Byte) (timeout : BitVec 16) (recent : Bool) (n : Fin 64)
    (acc : Access) (v wait : Word) (o k : Nat), Canonical s → mapWf psDflt s.ps = true →
  let c : Instr := .openSession h mode credit timeout req recent
  let pc := h.src.pc.val
  let wide : Prop := 1 < mode.toNat ∨ credit.toNat = 0 ∨ 64 < credit.toNat ∨ 600 < timeout.toNat ∨ 63 < req.toNat ∨
    timeout = 0 ∧ (pc = 4 ∨ pc = 5)
  let unfit : Prop := pc = 6 ∨ mode = 1 ∧ bit (s.ob oidSessExpertMask) pc = false
  let held : Prop := pc = 1 ∧ ∃ m, m < 64 ∧ (s.ses m).st ≠ 0 ∧ (s.ses m).pc = 1 ∧ (s.ses m).port = h.src.port
  let asks : Prop := s.classOpen h.src.pc = true ∧ h.session = 0 ∧ h.tag.toNat ≤ 63
  let same : Prop := ∃ m, m < 64 ∧ (s.ses m).st = 1 ∧ (s.ses m).openTag = h.tag.toNat ∧ (s.ses m).boundTo h.src = true
  let q := s.ses n
  let opened : Session := { st := 1, pc := pc, expert := decide (mode = 1), credit := credit.toNat, timeout := timeout.toNat, port := h.src.port, ip := h.src.ip, udp := h.src.udp, openTag := h.tag.toNat }
  let u := s.acked h
  let out (p : EvRecord → Bool) : List EvRecord := takeRecords (q.evq.filter p)
  let sends : Prop := q.st = 1 ∧ (q.pc = 4 ∨ q.pc = 5)
  let frame (l : List EvRecord) : List Byte :=
    ({ opcode := 0x40, session := n, instar := s.ob oidInstar, body := (l.map EvRecord.bytes).flatten } : Completion).frame
  (∀ e ∈ s.sess, e.1 < 64) →
  (asks → ¬wide → ¬unfit → ¬held → ¬(recent = true ∧ same) → n.val ≠ 0 → q.st = 0 →
    (req.toNat = n.val ∨ req = 0 ∧ ∀ m, m < n.val → 0 < m → (s.ses m).st ≠ 0) →
    Completes c s (fun t => t.answer.status = 0 ∧ t.ses n = opened ∧
      ∀ m, m ≠ n.val → (t.ses m).st = (s.ses m).st)) ∧
  (asks → ¬(recent = true ∧ same) → wide → Completes c s (fun t => t.answer.status = 2 ∧ t.sess = s.sess)) ∧
  (asks → ¬(recent = true ∧ same) → ¬wide → unfit → Completes c s (fun t => t.answer.status = 1 ∧ t.sess = s.sess)) ∧
  (asks → ¬(recent = true ∧ same) → ¬wide → ¬unfit → held ∨ (req.toNat = n.val ∧ n.val ≠ 0 ∧ q.st ≠ 0) ∨
    (req = 0 ∧ ∀ m, m < 64 → 0 < m → (s.ses m).st ≠ 0) → Completes c s (fun t => t.answer.status = 4 ∧ t.sess = s.sess)) ∧
  (asks → recent = true → same → Completes c s (fun t => t.answer.status = 0 ∧ t.sess = s.sess)) ∧
  (s.classOpen h.src.pc = false → Completes c s (fun t => Flagged oidFcpSticky 0 (oidFcpCnt 0) s t ∧ t.sess = s.sess)) ∧
  (s.ownFrame h = true → h.session.toNat = n.val → h.tag.toNat ≤ 63 → Completes (.closeSession h) s (fun t =>
    (t.ses n).st = 2 ∧ (t.ses n).reason = 0 ∧ (t.ses n).closeTag = some h.tag.toNat ∧ (t.ses n).tags = (u.ses n).tags ∧
    t.guard.holder ≠ some n.val)) ∧
  (s.classOpen h.src.pc = true → s.ownFrame h = false → Completes (.closeSession h) s (fun t => t.answer.status = 8 ∧
    Flagged oidFcpSticky 1 (oidFcpCnt 1) s t ∧ t.sess = s.sess)) ∧
  (q.st = 1 → q.timeout ≠ 0 → Completes (.sessionTimeout n) s (fun t => t.ses n = { q with st := 2, reason := 1 } ∧
    Flagged oidFcpSticky 6 (oidFcpCnt 6) s t ∧ t.guard.holder ≠ some n.val)) ∧
  (q.st ≠ 1 ∨ q.timeout = 0 → exec (.sessionTimeout n) s = .next s) ∧
  (q.st = 2 → q.executing = 0 → Completes (.sessionCloseComplete n) s (fun t => t.ses n = {} ∧
    (∀ d, s.armed = some d → d.session = n.val → t.armed = none) ∧ (∀ d, s.armed = some d → d.session ≠ n.val → t.armed = some d) ∧
    ((s.pe o).staged = true → (s.pe o).owner = n.val → (t.pe o).staged = false ∧ (t.pe o).target = (s.pe o).target) ∧
    ((s.pe o).staged = false ∨ (s.pe o).owner ≠ n.val → t.pe o = s.pe o) ∧
    (∀ a, q.closeTag = some a → t.answer.status = 0))) ∧
  (q.st ≠ 2 ∨ q.executing ≠ 0 → exec (.sessionCloseComplete n) s = .next s) ∧
  (s.admits acc oidFcpPcEnable v = true → Completes (.fcpPcEnableWrite acc v) s (fun t => t.answer = {} ∧ t.ob oidFcpPcEnable = v ∧
    (q.st = 1 → bit (s.ob oidFcpPcEnable) q.pc = true → bit v q.pc = false → q.pc ≠ 1 → (t.ses n).st = 2 ∧ (t.ses n).reason = 2) ∧
    (q.st ≠ 1 ∨ bit (s.ob oidFcpPcEnable) q.pc = false ∨ bit v q.pc = true ∨ q.pc = 1 → (t.ses n).st = q.st))) ∧
  (sends → out (fun r => !r.sent) ≠ [] → Completes (.eventFrameSend n) s (fun t => t.answer.body = frame (out (fun r => !r.sent)) ∧
    (out (fun r => !r.sent)).length ≤ 56 ∧ (∀ r, r ∈ (t.ses n).evq → r.sent = false → r ∈ q.evq ∧ r ∉ out (fun r => !r.sent)) ∧
    (t.ses n).evq.length = q.evq.length)) ∧
  (¬sends ∨ out (fun r => !r.sent) = [] → exec (.eventFrameSend n) s = .next s) ∧
  (sends → out (fun r => r.sent) ≠ [] → Completes (.eventResend n) s (fun t => t.answer.body = frame (out (fun r => r.sent)) ∧
    t.ses n = q)) ∧
  (¬sends ∨ out (fun r => r.sent) = [] → exec (.eventResend n) s = .next s) ∧
  (50 ≤ wait.toNat → s.host.satAt = none ∨ s.pd3 = false → Completes (.mgmtSaturationDetect wait) s (fun t =>
    Leaves (fun _ => false) { s with host := { s.host with satAt := some s.time.cyc } } t ∧
    (k < 4 → bit (s.ob (oidIntCfg k)) 0 = true → bit (t.ob (oidIntPending k)) 0 = true))) ∧
  (∀ l, s.host.satAt = some l → s.pd3 = true → s.time.cyc < l + 250000000 → exec (.mgmtSaturationDetect wait) s = .next s)

/-- R420, R422–R425, R427, R428, R434: what the object commands answer. KEEPALIVE answers OK; READ its objects' words in
order, or the first that may not be read; WRITE applies all of its entries or none and names the first that fails, and waits
where it publishes; READ_BLOCK and WRITE_BLOCK the words of one set; DESCRIBE a class or a name of it. Of the model's own
choices this rests on log 49 (the order of the refusals) and log 77 (READ_BLOCK). -/
def Obligations.ObjectCommands : Prop :=
  ∀ (s : State) (h : Hdr) (view : Byte) (oids : List Nat) (es : List (Nat × Word)) (w : State)
    (oid k : Nat) (count idx : BitVec 16) (ws : List Word) (r : Refused) (i st : Nat) (cls : Bool) (ks : List Nat) (d : ObjClass),
  Canonical s → s.fcpRuns h = true →
  let n := h.session.toNat
  let u := s.acked h
  let a := u.sesAccess n
  let word (v : Word) : List Byte := leBytes 4 v.toNat
  let read : Prop := view.toNat ≤ 2 ∧ oids ≠ [] ∧ oids.length ≤ 128
  let entries : Prop := es ≠ [] ∧ es.length ≤ 128
  let extra : Prop := k < 8192 ∧ ∃ j, j < ws.length ∧ 5 ≤ (oid + j) % 8 ∧ nth 0 ws j ≠ 0
  Finishes (.keepalive h) s h 0x03 0 (u.ob oidInstar) [] u ∧
  (read → firstBad (fun o => readRefused a o) oids 0 = none → Finishes (.read h view oids) s h 0x10 0 (u.ob oidInstar)
    (oids.flatMap (fun o => word (u.readWord view.toNat o))) (u.readDone oids)) ∧
  (read → firstBad (fun o => readRefused a o) oids 0 = some (i, oid, st, cls) → Completes (.read h view oids) s (fun t =>
    t.answer.status = st ∧ t.answer.oid = oid ∧ t.answer.index = i)) ∧
  (¬read → Completes (.read h view oids) s (fun t => t.answer.status = 2 ∧ t.obj = u.obj)) ∧
  (entries → u.writeAll a es 0 [] = .ok (w, []) → Finishes (.write h es) s h 0x11 0 (w.ob oidInstar) [] w) ∧
  (entries → u.writeAll a es 0 [] = .ok (w, ks) → ks ≠ [] → Completes (.write h es) s (fun t => t.obj = w.obj ∧ t.dmem = w.dmem ∧
    (t.ses n).waiting = (w.ses n).waiting ++ [{ tag := h.tag.toNat, opcode := 0x11, sets := ks }] ∧ (t.ses n).tail = (w.ses n).tail)) ∧
  (entries → u.writeAll a es 0 [] = .error r → r.oid ≠ oidBulkCtrl → Completes (.write h es) s (fun t => t.answer.status = r.status ∧
    t.answer.oid = r.oid ∧ t.answer.index = r.index ∧ t.tiles = u.tiles ∧ t.ps = u.ps ∧ t.dmem = u.dmem ∧ t.net = u.net ∧
    (∀ o, busErrOid o = false → eventOid o = false → o ≠ oidFcpCnt 7 → t.ob o = u.ob o))) ∧
  (¬entries → Completes (.write h es) s (fun t => t.answer.status = 2 ∧ t.obj = u.obj)) ∧
  (u.blockRefused a oid count.toNat false = none → view.toNat ≤ 2 → Finishes (.readBlock h oid count view) s h 0x14 0 (u.ob oidInstar)
    ((List.range count.toNat).flatMap (fun j => word (u.readBulk (oid + j) view.toNat))) u) ∧
  (u.blockRefused a oid count.toNat false = some (st, cls) → Completes (.readBlock h oid count view) s (fun t =>
    t.answer.status = st ∧ t.answer.oid = oid ∧ t.dmem = u.dmem)) ∧
  (u.blockRefused a oid ws.length true = none → setOf oid = some k →
    (extra → Completes (.writeBlock h oid ws) s (fun t => t.answer.status = 2 ∧ t.dmem = u.dmem)) ∧
    (¬extra → u.isStandby = true → Completes (.writeBlock h oid ws) s (fun t => t.answer.status = 3 ∧ t.dmem = u.dmem)) ∧
    (¬extra → u.isStandby = false → 2 ≤ (u.bset k).st → Completes (.writeBlock h oid ws) s (fun t => t.answer.status = 4 ∧ t.dmem = u.dmem)) ∧
    (¬extra → u.isStandby = false → (u.bset k).st < 2 →
      Finishes (.writeBlock h oid ws) s h 0x15 0 (u.ob oidInstar) [] (u.writeBulk k oid ws))) ∧
  (u.blockRefused a oid ws.length true = some (st, cls) → Completes (.writeBlock h oid ws) s (fun t =>
    t.answer.status = st ∧ t.answer.oid = oid ∧ t.dmem = u.dmem)) ∧
  (anyClass oid = some d →
    (idx = 0xFFFF → Finishes (.describe h oid idx) s h 0x16 0 (u.ob oidInstar) (descriptor oid d) u) ∧
    (∀ nm, idx ≠ 0xFFFF → d.enums[idx.toNat]? = some nm → Finishes (.describe h oid idx) s h 0x16 0 (u.ob oidInstar) (nameBytes nm) u) ∧
    (idx ≠ 0xFFFF → d.enums.length ≤ idx.toNat → Completes (.describe h oid idx) s (fun t => t.answer.status = 2 ∧ t.obj = u.obj))) ∧
  (anyClass oid = none → Completes (.describe h oid idx) s (fun t => t.answer.status = 5 ∧ t.obj = u.obj))

/-- R10, R11, R412, R422, R434: a write to one object is checked in the order of R422. A refusal on class or level ground is
recorded, every other changes nothing but the answer; a plain object takes the word, a W1C object loses the bits written as
1, a counter takes 0 alone. Of the model's own choices this rests on log 49 (the order of the refusals). -/
def Obligations.RegisterWrites : Prop :=
  ∀ (s u : State) (acc : Access) (oid st : Nat) (v : Word) (d : ObjClass) (k : Fin 4), Canonical s →
  let c : Instr := .registerWrite acc oid v
  let standby : Prop := s.isStandby = true ∧ acc.pc.val < 6 ∧ pcIn d.wr 6 = true
  (checkWrite acc oid = .error (st, false) → Completes c s (TurnedAway s oid st)) ∧
  (checkWrite acc oid = .error (st, true) → Completes c s (fun t => t.answer.status = st ∧ t.answer.oid = oid ∧
    Flagged oidFcpSticky 7 (oidFcpCnt 7) s t ∧ t.ob oidBusErrTotal = satInc (s.ob oidBusErrTotal) ∧
    (∀ o, busErrOid o = false → eventOid o = false → o ≠ oidFcpCnt 7 → t.ob o = s.ob o))) ∧
  (checkWrite acc oid = .ok d →
    (s.setDenied acc oid v = true → Completes c s (TurnedAway s oid stDenied)) ∧
    (s.setDenied acc oid v = false → encBad d v = true → Completes c s (TurnedAway s oid stRange)) ∧
    (s.setDenied acc oid v = false → encBad d v = false → standby → Completes c s (TurnedAway s oid stNotReady)) ∧
    (s.admits acc oid v = true → wrObj acc oid v d s = .error st → Completes c s (TurnedAway s oid st)) ∧
    (s.admits acc oid v = true → wrObj acc oid v d s = .ok u → mapWf oidDflt u.obj = true → Completes c s (Stored u))) ∧
  (s.admits acc (oidIntCfg k) v = true → Completes (.registerWrite acc (oidIntCfg k) v) s (Stored (s.put (oidIntCfg k) v))) ∧
  (s.admits acc oidMoultSticky v = true → Completes (.registerWrite acc oidMoultSticky v) s
    (Stored (s.put oidMoultSticky (s.ob oidMoultSticky &&& ~~~v)))) ∧
  (s.admits acc (oidMoultCnt 0) v = true →
    (v = 0 → Completes (.registerWrite acc (oidMoultCnt 0) v) s (Stored (s.put (oidMoultCnt 0) 0))) ∧
    (v ≠ 0 → Completes (.registerWrite acc (oidMoultCnt 0) v) s (TurnedAway s (oidMoultCnt 0) stRange)))

/-- R430–R433: how every command of a session is admitted and completed. A tag that executes is flagged and its command
discarded; a tag that holds a completion gives it again; without credit the command completes with BUSY and the flag. A
completion is written at the tail with the phase of its pass and holds its tag, until the head passes it. Of the model's own
choices this rests on log 74 and log 75 (when a command completes). -/
def Obligations.AdmissionAndCompletion : Prop :=
  ∀ (s : State) (h : Hdr) (c : Instr) (view op lane : Byte) (oids : List Nat) (es : List (Nat × Word))
    (oid : Nat) (count : BitVec 16) (ws : List Word) (mask : Word) (data : List Byte) (e : Completion) (n m : Fin 64) (v : Nat),
  Canonical s →
  c ∈ [.keepalive h, .read h view oids, .write h es, .readBlock h oid count view, .writeBlock h oid ws, .describe h oid count,
    .subscribe h mask op, .syncSummary h, .frameTx h lane true count data] →
  let u := s.acked h
  let k := h.session.toNat
  let q := u.ses k
  let use := q.tagUse h.tag.toNat
  let p := s.ses n
  mapWf (fun _ => ({} : Completion)) p.cq = true → mapWf (fun _ => 0) p.tags = true →
  (s.classOpen h.src.pc = false → exec c s = .next { s.fcpFlag 0 with answer := { status := stBadFrame } }) ∧
  (s.classOpen h.src.pc = true → s.ownFrame h = false → Completes c s (fun t => t.answer.status = 8 ∧ t.sess = s.sess ∧
    Flagged oidFcpSticky 1 (oidFcpCnt 1) s t)) ∧
  (s.ownFrame h = true → 63 < h.tag.toNat → Completes c s (fun t => t.answer.status = 7 ∧ t.sess = u.sess)) ∧
  (s.ownFrame h = true → h.tag.toNat ≤ 63 →
    (use = 1 → exec c s = .next { u.fcpFlag 2 with answer := { status := 4 } }) ∧
    (2 ≤ use → exec c s = .next { u with
      answer := { status := (q.entry ((use - 2) % 64)).status, body := (q.entry ((use - 2) % 64)).body } }) ∧
    (use = 0 → q.credit ≤ q.executing ∨ 256 ≤ u.poolUsed → Completes c s (fun t => t.answer.status = 4 ∧
      (t.ses k).tail = q.tail + 1 ∧ (q.credit ≤ q.executing → Flagged oidFcpSticky 3 (oidFcpCnt 3) u t) ∧
      (256 ≤ u.poolUsed → Flagged oidFcpSticky 4 (oidFcpCnt 4) u t) ∧ t.ps = u.ps ∧ t.dmem = u.dmem))) ∧
  (p.st = 1 → ∀ t, t = s.complete n e →
    (t.ses n).entry (p.tail % 64) = { e with session := n, index := p.tail % 64, phase := phaseOf p.tail } ∧
    (t.ses n).tail = p.tail + 1 ∧ (t.ses n).tagUse e.tag = 2 + p.tail ∧ (t.ses n).head = p.head ∧
    (m ≠ n → t.ses m = s.ses m) ∧ t.obj = s.obj) ∧
  (∀ hd, hd = p.head + (v + 128 - p.head % 128) % 128 →
    (hd ≤ p.tail → ((s.cqHead n v).ses n).head = hd ∧ ((s.cqHead n v).ses n).cq = p.cq ∧
      ∀ t, (p.tagUse t < 2 ∨ hd + 2 ≤ p.tagUse t → ((s.cqHead n v).ses n).tagUse t = p.tagUse t) ∧
        (2 ≤ p.tagUse t → p.tagUse t < hd + 2 → ((s.cqHead n v).ses n).tagUse t = 0)) ∧
    (p.tail < hd → s.cqHead n v = s.fcpFlag 0))

/-- R429, R437, R440: SUBSCRIBE replaces, adds to or removes from the session's mask; SYNC_SUMMARY waits and completes with
the record of a grain boundary; FRAME_TX builds one frame per session and sends it with its last segment. Of the model's own
choices this rests on log 75 (segments of FRAME_TX). -/
def Obligations.SubscribeSummaryFrame : Prop :=
  ∀ (s : State) (h : Hdr) (mask : Word) (op lane : Byte) (last : Bool) (offset : BitVec 16)
    (data : List Byte) (x : Waiting) (m : Fin 64), Canonical s → mapWf (fun _ => []) s.net.queues = true →
  let n := h.session.toNat
  let u := s.acked h
  let q := u.ses n
  let o := offset.toNat
  let f := q.txFrame.take o ++ data
  let gap : Prop := 2 < lane.toNat ∨ q.txFrame.length < o ∨ 1518 < f.length ∨ 1024 < data.length ∨ last = true ∧ f.length < 60
  let down : Prop := lane.toNat < 2 ∧ u.laneUp lane.toNat = false
  let tc := fld (s.ob oidNetTcRoles) 11 9
  let c : Instr := .frameTx h lane last offset data
  let p := s.ses m
  (s.fcpRuns h = true →
    (op = 0 → Finishes (.subscribe h mask op) s h 0x20 0 (u.ob oidInstar) [] (u.setSes n { q with mask := mask })) ∧
    (op = 1 → Finishes (.subscribe h mask op) s h 0x20 0 (u.ob oidInstar) [] (u.setSes n { q with mask := q.mask ||| mask })) ∧
    (op = 2 → Finishes (.subscribe h mask op) s h 0x20 0 (u.ob oidInstar) [] (u.setSes n { q with mask := q.mask &&& ~~~mask })) ∧
    (2 < op.toNat → Completes (.subscribe h mask op) s (fun t => t.answer.status = 2 ∧ (t.ses n).mask = q.mask)) ∧
    (mapWf (fun _ => 0) q.tags = true → Completes (.syncSummary h) s (fun t => (t.ses n).tagUse h.tag.toNat = 1 ∧
      (t.ses n).tail = q.tail ∧ (t.ses n).waiting = q.waiting ++ [{ tag := h.tag.toNat, opcode := 0x30, sets := [] }])) ∧
    (gap → Completes c s (fun t => t.answer.status = 2 ∧ (t.ses n).txFrame = [] ∧ t.net = u.net)) ∧
    (¬gap → down → Completes c s (fun t => t.answer.status = 3 ∧ (t.ses n).txFrame = q.txFrame ∧ t.net = u.net)) ∧
    (¬gap → ¬down → last = false → Finishes c s h 0x40 0 (u.ob oidInstar) [] (u.setSes n { q with txFrame := f, txLane := lane.toNat })) ∧
    (¬gap → ¬down → last = true → Completes c s (fun t => t.answer.status = 0 ∧ (t.ses n).txFrame = [] ∧
      (u.laneUp lane.toNat = true → frameBytes (u.queue lane.toNat tc) + f.length + 4 ≤ 262144 →
        (u.net.queues.map (fun e => frameBytes e.2)).foldl (· + ·) 0 + f.length + 4 ≤ 2097152 →
        ∃ g, t.queue lane.toNat tc = u.queue lane.toNat tc ++ [g] ∧ g.bytes = f ∧ g.len = f.length + 4)))) ∧
  (p.st = 1 → p.waiting = [x] → x.opcode = 0x30 → mapWf (fun _ => ({} : Completion)) p.cq = true →
    Completes .summaryCapture s (fun t => (t.ses m).waiting = [] ∧ (t.ses m).tail = p.tail + 1 ∧
      (t.ses m).entry (p.tail % 64) = ⟨0x30, m, x.tag, 0, phaseOf p.tail, p.tail % 64, s.ob oidInstar, s.summary m⟩ ∧ t.obj = s.obj)) ∧
  ((∀ k, k < 64 → ∀ y ∈ (s.ses k).waiting, y.opcode ≠ 0x30) → exec .summaryCapture s = .next s)

/-- R448–R456, R474, R476: the doorbells of a host channel and the link of the PCIe endpoint. A tail more than 16 slots
ahead is ignored with BAD_FRAME; the frames before a new tail are taken in slot order, each as the command it holds; a
channel reset empties the submission queue and closes its session; an acknowledgement clears its bits and sends the message
again where one stays. PERST and a function reset close the sessions of PC1; the link's events set PCIE_STATUS. Of the
model's own choices this rests on log 35 (masked vectors) and log 56 (doorbells). -/
def Obligations.HostLink : Prop :=
  ∀ (s : State) (c : Fin 8) (v : Word) (recent : Bool) (k : Fin 4) (n : Nat) (flr wide : Bool)
    (bus : Option (Word × Bool)) (speed : Fin 4), Canonical s → mapWf (fun _ => ({} : Chan)) s.host.chans = true →
  mapWf (fun _ => 0) s.host.msi = true → n < 64 →
  let x := s.chan c
  let tail := v.toNat % 32
  let ahead := (tail + 32 - x.sqHead) % 32
  let src : Source := ⟨1, c, 0, 0⟩
  let f := s.sqFrame c (x.sqHead % 16)
  let taken := (s.setChan c { x with sqTail := tail }).setChan c { x with sqTail := tail, sqHead := tail }
  let q := s.ses n
  let st := s.ob oidPcieStatus
  let p := s.ob (oidIntPending k) &&& ~~~v
  let sent (t : State) := mapGet (fun _ => 0) t.host.msi k
  (s.barOpen = false → exec (.sqTailWrite c v recent) s = .next s ∧ exec (.cqDbWrite c v) s = .next s ∧
    exec (.evqDbWrite c v) s = .next s ∧ exec (.chanResetWrite c v) s = .next s ∧ exec (.intAckWrite k v) s = .next s) ∧
  (s.barOpen = true →
    (16 < ahead → exec (.sqTailWrite c v recent) s = .next (s.fcpFlag 0)) ∧
    (ahead = 0 → exec (.sqTailWrite c v recent) s = .next (s.setChan c { x with sqTail := tail })) ∧
    (ahead = 1 → headerOk f = false → Completes (.sqTailWrite c v recent) s (fun t => t.chan c = { x with sqTail := tail, sqHead := tail } ∧
      Flagged oidFcpSticky 0 (oidFcpCnt 0) s t ∧ t.sess = s.sess)) ∧
    (ahead = 1 → headerOk f = true →
      (leAt f 3 1 = 2 → exec (.sqTailWrite c v recent) s = exec (.closeSession (headerOf src f)) taken) ∧
      (leAt f 3 1 = 3 → exec (.sqTailWrite c v recent) s = exec (.keepalive (headerOf src f)) taken) ∧
      (leAt f 3 1 = 0x30 → exec (.sqTailWrite c v recent) s = exec (.syncSummary (headerOf src f)) taken)) ∧
    (s.chanOpen c = some n → exec (.cqDbWrite c v) s = .next (s.cqHead n (v.toNat % 128))) ∧
    (s.chanOpen c = none → exec (.cqDbWrite c v) s = .next s ∧ exec (.evqDbWrite c v) s = .next s) ∧
    (s.chanOpen c = some n → q.lost = 0 → Completes (.evqDbWrite c v) s (fun t => t.obj = s.obj ∧ (t.ses n).evSeq = q.evSeq ∧
      ∀ r, r ∈ (t.ses n).evq ↔ r ∈ q.evq ∧ 32768 ≤ (v.toNat % 65536 + 65536 - r.seq) % 65536)) ∧
    (v = 1 → Completes (.chanResetWrite c v) s (fun t => t.chan c = { x with sqHead := x.sqTail } ∧
      (s.chanSes c = some n → q.st = 1 → (t.ses n).st = 2 ∧ (t.ses n).reason = 0))) ∧
    (v ≠ 1 → exec (.chanResetWrite c v) s = .next s) ∧
    Completes (.intAckWrite k v) s (fun t => t.ob (oidIntPending k) = p ∧ t.sess = s.sess ∧
      sent t = sent s + if p = 0 then 0 else 1)) ∧
  Completes (.perstAssert flr bus) s (fun t => (q.st = 1 → q.pc = 1 → (t.ses n).st = 2 ∧ (t.ses n).reason = 2) ∧
    (q.st ≠ 1 ∨ q.pc ≠ 1 → (t.ses n).st = q.st) ∧ t.chan c = { direct := x.direct } ∧ t.host.msix = [] ∧
    t.ob oidPcieStatus = (if flr then setFld st 4 4 0 else 0)) ∧
  exec .perstRelease s = .next { s with host := { s.host with subsys := s.ob oidPcieSubsys } } ∧
  (bit st 0 = false → exec (.pcieLinkDown bus) s = .next s) ∧
  (bit st 0 = true → Completes (.pcieLinkDown bus) s (fun t => t.ob oidPcieStatus = 0 ∧ Flagged oidHostSticky 0 (oidHostCnt 0) s t ∧
    (q.st = 1 → (t.ses n).st = 1))) ∧
  (speed ≠ 0 → Completes (.pcieLinkUp speed wide) s (fun t => bit (t.ob oidPcieStatus) 0 = true ∧ fld (t.ob oidPcieStatus) 2 1 = speed.val ∧
    bit (t.ob oidPcieStatus) 3 = wide ∧ bit (t.ob oidPcieStatus) 4 = false)) ∧
  (speed = 0 → exec (.pcieLinkUp speed wide) s = .next s) ∧
  (bit st 0 = true → Completes .d3hotEntry s (fun t => bit (t.ob oidPcieStatus) 4 = true ∧ bit (t.ob oidPcieStatus) 0 = true ∧
    t.sess = s.sess)) ∧
  (bit st 0 = false → exec .d3hotEntry s = .next s) ∧
  Completes .d3hotExit s (fun t => bit (t.ob oidPcieStatus) 4 = false ∧ bit (t.ob oidPcieStatus) 0 = bit st 0 ∧ t.sess = s.sess)

/-- R458–R463, R471, R475: the SPI and SERVICE ports. STATUS and FETCH answer with the status word and a CRC and clear
OVERRUN; a frame of a wrong length is a protocol error, one with a bad CRC or no slot is not taken, and a good one is taken
as the command it holds; a doorbell moves the queues of the port's own session; an aborted transaction releases its master's
locks. Of the model's own choices this rests on log 56 (a frame with a bad LENGTH). -/
def Obligations.SpiPorts : Prop :=
  ∀ (s : State) (port : Fin 3) (crc slot recent : Bool) (frame : List Byte) (kind session : Byte)
    (index : Half) (bus : Option (Word × Bool)) (o : Nat), Canonical s → mapWf (fun _ => ({} : SpiPort)) s.host.spi = true →
  let p := port.val
  let x := s.spi p
  let n := session.toNat
  let q := s.ses n
  let i := index.toNat
  let word := leBytes 4 (s.spiStatus p).toNat
  let sealed (l : List Byte) : List Byte := l ++ leBytes 4 (crc32c l).toNat
  let sized : Prop := 16 ≤ frame.length ∧ frame.length ≤ 1440
  let err (k : Nat) (t : State) : Prop := p ≤ 1 → Flagged oidHostSticky (1 + 3 * p + k) (oidHostCnt (1 + 3 * p + k)) s t
  let c : Instr := .send port crc slot recent frame
  let src : Source := ⟨if p = 0 then 2 else if p = 1 then 3 else 0, 0, 0, 0⟩
  let checked := s.setSpi p { x with crcErr := false }
  let taken := checked.setSpi p { checked.spi p with sends := (x.sends + 1) % 256 }
  let master := nth 9 [3, 4] p
  Completes (.status port) s (fun t => t.answer = { body := sealed word } ∧ t.spi p = { x with overrun := false } ∧ t.obj = s.obj ∧
    t.sess = s.sess) ∧
  (¬sized → Completes c s (fun t => err 2 t ∧ t.spi p = x ∧ (p = 2 → t = s))) ∧
  (sized → crc = false → Completes c s (fun t => err 0 t ∧ (t.spi p).crcErr = true ∧ (t.spi p).sends = x.sends ∧
    (slot = false → (t.spi p).overrun = true) ∧ t.net = s.net ∧ t.ps = s.ps)) ∧
  (sized → crc = true → slot = false → Completes c s (fun t => err 1 t ∧ (t.spi p).crcErr = false ∧ (t.spi p).sends = x.sends ∧
    (t.spi p).overrun = true ∧ t.net = s.net ∧ t.ps = s.ps)) ∧
  (sized → crc = true → slot = true →
    (headerOk frame = false → Completes c s (fun t => (t.spi p).sends = (x.sends + 1) % 256 ∧ (t.spi p).crcErr = false ∧
      Flagged oidFcpSticky 0 (oidFcpCnt 0) s t)) ∧
    (headerOk frame = true → leAt frame 3 1 = 2 → exec c s = exec (.closeSession (headerOf src frame)) taken) ∧
    (headerOk frame = true → leAt frame 3 1 = 3 → exec c s = exec (.keepalive (headerOf src frame)) taken) ∧
    (headerOk frame = true → leAt frame 3 1 = 0x30 → exec c s = exec (.syncSummary (headerOf src frame)) taken)) ∧
  (∀ l, s.fetchEntry p kind.toNat n i = some l → Completes (.fetch port kind session index) s (fun t => t.obj = s.obj ∧
    t.answer = { body := sealed (word ++ leBytes 2 l.length ++ leBytes 2 0 ++ l) } ∧ t.spi p = { x with overrun := false })) ∧
  (kind = 0 → s.spiOwns p n = true → i ≤ 63 → i < q.tail → s.fetchEntry p kind.toNat n i = some (q.entry i).frame) ∧
  (2 < kind.toNat ∨ (kind.toNat < 2 ∧ s.spiOwns p n = false) → Completes (.fetch port kind session index) s (fun t => err 2 t ∧
    t.answer = { body := sealed (word ++ leBytes 4 0) } ∧ t.spi p = { x with overrun := false })) ∧
  (crc = false → Completes (.doorbell port crc kind session index) s (fun t => err 0 t ∧ (t.spi p).crcErr = true ∧ (t.ses n).head = q.head)) ∧
  (crc = true → 1 < kind.toNat ∨ s.spiOwns p n = false → Completes (.doorbell port crc kind session index) s (fun t => err 2 t ∧
    (t.spi p).crcErr = false ∧ (t.ses n).head = q.head)) ∧
  (crc = true → s.spiOwns p n = true →
    (kind = 0 → exec (.doorbell port crc kind session index) s = .next (checked.cqHead n (i % 128))) ∧
    (kind = 1 → exec (.doorbell port crc kind session index) s = .next (checked.evqAck n i))) ∧
  Completes (.spiProtocolError port) s (fun t => err 2 t ∧ t.spi p = x ∧ (p = 2 → t = s)) ∧
  Completes (.spiAbort port bus) s (fun t => (∀ e ∈ t.host.locks, e.2 ≠ master + 1) ∧ (bus = none → t.obj = s.obj) ∧
    (bus ≠ none → t.ob oidBusErrTotal = satInc (s.ob oidBusErrTotal)) ∧ (busErrOid o = false → eventOid o = false → t.ob o = s.ob o))

/-- R37: an access to a target that R36 does not mark for its master, M9's targets while its port is disabled among them,
receives the error response of type DECODE, has no effect, and stands in the error log with its address, master and type. -/
def Obligations.BusConnections : Prop :=
  ∀ (s : State) (r : BusReq) (k : Nat), Canonical s → mapWf (fun _ => 0) s.host.locks = true →
  let m := r.master.val
  let marked (m : Nat) : List Nat := nth [] [[4, 5], [0, 2, 3, 4, 5, 6, 7], [4, 6], [4, 6], [4, 6], [4, 7], [1, 2, 3], [1, 4], [1, 2, 3, 7],
    [0, 1, 2, 3, 4, 5, 6, 7]] m
  let held := mapGet (fun _ => 0) s.host.locks k
  s.host.wait = [] → r.bar = false → busTarget r.addr = some k → held = 0 ∨ held = m + 1 → k ∉ marked m ∨ (m = 9 ∧ s.serviceOn = false) →
  Completes (.busAccess [r]) s (fun t =>
    let e := (t.ob oidBusErrNewest).toNat
    let info := (t.ob (oidBuserrInfo e)).toNat
    t.answer.status ≠ 0 ∧ t.ob oidBusErrTotal = satInc (s.ob oidBusErrTotal) ∧ e < 16 ∧
    t.ob (oidBuserrAddr e) = BitVec.ofNat 32 r.addr ∧ info % 16 = m ∧ info / 2 ^ 8 % 16 = 0 ∧ bit (t.ob (oidBuserrInfo e)) 13 = true ∧
    t = { s with obj := t.obj, sess := t.sess, host := t.host, marks := t.marks, answer := t.answer } ∧
    t.host.sram = s.host.sram ∧ t.host.netRam = s.host.netRam ∧ t.host.locks = s.host.locks ∧ t.host.granted = s.host.granted ∧
    ∀ o, busErrOid o = false → eventOid o = false → t.ob o = s.ob o)

/-- R446, R465, R467–R474: a legal single transfer of the network RAM stores or answers its bytes and the matrix remembers
the master it granted; two masters are served by priority; an illegal transfer answers its type and only enters the error
log; a lock and a target that take too long are logged; the debug instructions access words through M9; BUS_ERR_CLEAR
empties the log. Of the model's own choices this rests on log 57 (the order of the errors, the STATUS of the answer). -/
def Obligations.BusMatrix : Prop :=
  ∀ (s : State) (acc : Access) (r r' : BusReq) (master : Fin 10) (addr : Word) (write crc ecc : Bool)
    (count ty o : Nat) (data : List Byte), Canonical s → mapWf (fun _ => 0) s.host.netRam = true →
  mapWf (fun _ => 0) s.host.locks = true → mapWf (fun _ => 0) s.host.granted = true →
  let lockOf (t : State) (k : Nat) := mapGet (fun _ => 0) t.host.locks k
  let ram (t : State) (a : Nat) : Byte := mapGet (fun _ => 0) t.host.netRam a
  let single (r : BusReq) : Prop := r.bar = false ∧ r.beats = 1 ∧ r.wrap = 0 ∧ r.lock = 0
  let inRam (r : BusReq) : Prop := single r ∧ s.busRefused r r.addr = none ∧ busTarget r.addr = some 7 ∧
    (lockOf s 7 = 0 ∨ lockOf s 7 = r.master.val + 1)
  let logged (t : State) : Prop := t.ob oidBusErrTotal = satInc (s.ob oidBusErrTotal) ∧
    (busErrOid o = false → eventOid o = false → t.ob o = s.ob o) ∧ t.host.netRam = s.host.netRam ∧ t.host.sram = s.host.sram
  let mapped (n : Nat) : Prop := memOk addr n = true ∧ 0x50000000 ≤ addr.toNat ∧ addr.toNat + n ≤ 0x50400000
  let sealed (l : List Byte) : List Byte := l ++ leBytes 4 (crc32c l).toNat
  let a := addr.toNat
  (s.host.wait = [] → inRam r →
    (r.write = true → r.data.length = r.beat → Completes (.busAccess [r]) s (fun t => t.obj = s.obj ∧ t.host.wait = [] ∧ t.answer = {} ∧
      (∀ i, i < r.beat → ram t (r.addr + i) = nth 0 r.data i) ∧ (∀ b, b < r.addr ∨ r.addr + r.beat ≤ b → ram t b = ram s b))) ∧
    (r.write = false → Completes (.busAccess [r]) s (fun t => t.obj = s.obj ∧ t.host.netRam = s.host.netRam ∧
      t.answer = { body := (List.range r.beat).map (fun i => ram s (r.addr + i)) } ∧
      mapGet (fun _ => 0) t.host.granted 7 = r.master.val + 1))) ∧
  (s.host.wait = [] → lockOf s 7 = 0 → inRam r → inRam r' → r.write = false → r'.write = false → r.master ≠ r'.master →
    s.busPrio r' 7 < s.busPrio r 7 → Completes (.busAccess [r', r]) s (fun t =>
      mapGet (fun _ => 0) t.host.granted 7 = r'.master.val + 1 ∧
      t.answer = { body := (List.range r'.beat).map (fun i => ram s (r'.addr + i)) } ∧ t.host.wait = [])) ∧
  (s.host.wait = [] → single r → s.busRefused r r.addr = some ty → (∀ k, busTarget r.addr = some k → lockOf s k = 0) →
    Completes (.busAccess [r]) s (fun t => t.answer = { status := 16 + ty } ∧ logged t)) ∧
  ((∀ k, busTarget a = some k → lockOf s k ≠ master.val + 1) → exec (.lockTimeout master addr write) s = .next s) ∧
  (∀ k, busTarget a = some k → lockOf s k = master.val + 1 → Completes (.lockTimeout master addr write) s (fun t => lockOf t k = 0 ∧
    logged t ∧ ∀ x ∈ t.host.wait, x ∈ s.host.wait ∧ ¬(x.master = master ∧ x.lock ≠ 0 ∧ busTargetOf x = some k))) ∧
  (busTarget a = none → exec (.targetTimeout master addr write) s = .next s) ∧
  (busTarget a ≠ none → Completes (.targetTimeout master addr write) s logged) ∧
  (s.admits acc oidBusErrCtrl 1 = true → Completes (.busErrClear acc) s (fun t => t.answer = {} ∧ t.ob oidBusErrNewest = 0xFF ∧
    t.ob oidBusErrTotal = s.ob oidBusErrTotal ∧ ∀ e, e < 16 → t.ob (oidBuserrAddr e) = 0 ∧ t.ob (oidBuserrInfo e) = 0)) ∧
  (s.serviceOn = false ∨ crc = false ∨ memOk addr count = false → exec (.memRead crc addr count ecc) s = .next s) ∧
  (s.serviceOn = true → crc = true → mapped count → Completes (.memRead crc addr count ecc) s (fun t => t.obj = s.obj ∧
    t.answer = { body := sealed (leBytes 4 (s.spiStatus 2).toNat ++ (List.range count).map (fun i => ram s (a + i))) })) ∧
  (s.serviceOn = true → crc = true → memOk addr count = true → busTarget a = none → Completes (.memRead crc addr count ecc) s (fun t =>
    t.answer = { body := sealed (leBytes 4 (setBit (s.spiStatus 2) 3 true).toNat ++ List.replicate count 0) } ∧ logged t)) ∧
  (s.serviceOn = false ∨ crc = false ∨ memOk addr data.length = false → exec (.memWrite crc addr data ecc) s = .next s) ∧
  (s.serviceOn = true → crc = true → mapped data.length → Completes (.memWrite crc addr data ecc) s (fun t => t.obj = s.obj ∧
    (∀ i, i < data.length → ram t (a + i) = nth 0 data i) ∧ ∀ b, b < a ∨ a + data.length ≤ b → ram t b = ram s b))

/-- R480–R482, R496–R498, R500–R504: how a unit's role moves. TWIN_CFG enables and disables; a HELLO pairs two SOLO units by
their claims, or is refused; a following unit counts missed beacons, hears FAIL, compares signatures, and takes over as
ACTIVE with every share group once the active is lost; a handover exchanges the roles at its boundary; without a peer an
active unit is SOLO. Of the model's own choices this rests on log 36 and log 58 (claims and refusals of a pair). -/
def Obligations.TwinRoles : Prop :=
  ∀ (s : State) (acc : Access) (v gap h : Word) (m : HelloMsg) (round : Nat) (b : BeaconMsg) (alt pos0 good : Bool)
    (arrival : Int) (cause : Nat),
  Canonical s → mapWf (fun _ => 0) s.twin.txSeq = true →
  let old := s.ob oidTwinCfg
  let st := s.tw
  let status (t : State) := t.ob oidTwinStatus
  let fits : Prop := s.copyBytes ≤ 33554432
  let refused : Prop := m.id.toNat = fld old 15 8 ∨ fld m.fw 31 16 ≠ fld (s.ob oidFwVersion) 31 16
  let was := match s.twin.peer with | some p => p.state | none => 0
  let first : Prop := m.state = 2 ∨ m.state = 1 ∧ s.claim < m.claim.toNat
  let compares : Prop := good = true ∧ st ≠ 0 ∧ s.twin.peer ≠ none ∧ alt = false ∧ b.flags.getLsbD 1 = false ∧ b.pos = 0
  let sig := s.twin.sigs.find? (fun e => e.1 = b.gn - 2)
  let run := (s.ob oidTwinSigRun).toNat
  let copying := bit (status s) 3
  (s.admits acc oidTwinCfg v = true →
    (fld v 4 2 = 0 ∨ fld v 15 8 = 0 → Completes (.twinCfgWrite acc v) s (TurnedAway s oidTwinCfg stRange)) ∧
    (fld v 4 2 ≠ 0 → fld v 15 8 ≠ 0 →
      (st = 0 → bit v 0 = true → Completes (.twinCfgWrite acc v) s (fun t => t.answer = {} ∧ t.tw = 1 ∧
        bit (t.ob (oidLaneCfg 3)) 0 = true ∧ (s.twin.hold = false → t.shares = 15))) ∧
      (st ≠ 0 → bit v 0 = false → bit old 0 = true → Completes (.twinCfgWrite acc v) s (fun t => t.answer = {} ∧ t.tw = 0 ∧
        t.shares = 15 ∧ t.twin.peer = none)) ∧
      (st = 0 ∧ bit v 0 = false ∨ st ≠ 0 ∧ bit v 0 = bit old 0 ∧ fld v 15 8 = fld old 15 8 →
        Completes (.twinCfgWrite acc v) s (Stored (s.put oidTwinCfg v))))) ∧
  (s.admits acc oidTwinCtrl 1 = true →
    (s.mirrors = true → fits → Completes (.resync acc) s (fun t => t.answer = {} ∧ bit (status t) 3 = true ∧ t.ob oidTwinCopyProg = 0)) ∧
    (s.mirrors = false → Completes (.resync acc) s (TurnedAway s oidTwinCtrl stNotReady))) ∧
  (s.admits acc oidTwinCtrl 2 = true → Completes (.yield acc) s (Stored (s.put oidTwinStatus (setBit (status s) 5 true)))) ∧
  (s.admits acc oidTwinCtrl 3 = true → Completes (.resume acc) s (Stored (s.put oidTwinStatus (setBit (status s) 5 false)))) ∧
  (s.admits acc oidTwinCtrl 4 = true →
    (st = 1 ∨ st = 2 → Completes (.clearPartial acc) s (Stored (s.put oidTwinStatus (setBit (status s) 0 false)))) ∧
    (st ≠ 1 → st ≠ 2 → Completes (.clearPartial acc) s (TurnedAway s oidTwinCtrl stNotReady))) ∧
  (st = 0 → exec .helloSend s = .next s ∧ exec (.hello m round) s = .next s) ∧
  (st ≠ 0 → Completes .helloSend s (fun t => t = { s with twin := { s.twin with txSeq := t.twin.txSeq } } ∧
    mapGet (fun _ => 0) t.twin.txSeq 1 = (mapGet (fun _ => 0) s.twin.txSeq 1 + 1) % 2 ^ 32)) ∧
  (st ≠ 0 → refused → Completes (.hello m round) s (fun t => t.tw = st ∧ t.twin = s.twin ∧ Flagged oidTwinSticky 7 (oidTwinCnt 7) s t)) ∧
  (st ≠ 0 → ¬refused → Completes (.hello m round) s (fun t => t.twin.peer = some m ∧ t.twin.delay = round / 2 ∧
    t.ob oidTwinPeerClaim = wd m.claim.toNat ∧
    (st = 1 → first → t.tw = 3 ∧ bit (status t) 3 = true ∧ t.shares = 0) ∧
    (st = 1 → m.state = 1 → m.claim.toNat < s.claim → t.tw = 2 ∧ t.shares = 15) ∧
    (st = 2 → m.state = 3 → was ≠ 3 → fits → t.tw = 2 ∧ bit (status t) 3 = true) ∧
    (st = 7 → m.state = 2 → t.tw = 7 ∧ t.shares = 0) ∧
    (3 ≤ st → st ≠ 7 → t.tw = st ∧ t.shares = s.shares))) ∧
  (st = 0 ∨ good = true ∧ (s.twin.peer = none ∨ alt = true ∧ s.twin.altWait = false) → exec (.beacon b alt good arrival) s = .next s) ∧
  (st ≠ 0 → good = false → exec (.beacon b alt good arrival) s = .next (s.twinFlag 6)) ∧
  (st ≠ 0 → good = true → s.twin.peer ≠ none → alt = true → s.twin.altWait = true → st ≠ 6 → Completes (.beacon b alt good arrival) s (fun t => t.tw = 6 ∧
    t.twin.altWait = false ∧ Flagged oidTwinSticky 8 (oidTwinCnt 8) s t)) ∧
  (good = true → s.twin.peer ≠ none → alt = false →
    (st = 6 → Completes (.beacon b alt good arrival) s (fun t => t.tw = 3 ∧ bit (status t) 3 = true ∧ t.shares = 0 ∧ t.twin.missed = 0)) ∧
    (st = 3 ∨ st = 4 ∨ st = 5 → b.flags.getLsbD 1 = true → s.twin.lost = none → Completes (.beacon b alt good arrival) s (fun t =>
      t.twin.lost = some 1 ∧ t.twin.missed = 0 ∧ t.tw = st)) ∧
    (st = 1 ∨ st = 2 → Completes (.beacon b alt good arrival) s (fun t => t.tw = st ∧ t.twin.missed = 0 ∧ t.ob oidTwinPeerClaim = wd b.claim.toNat))) ∧
  (compares → st = 5 → s.twin.sigBad = 2 → sig.map Prod.snd ≠ some b.sig → Completes (.beacon b alt good arrival) s (fun t =>
    t.tw = 4 ∧ Flagged oidTwinSticky 2 (oidTwinCnt 2) s t)) ∧
  (compares → st = 4 → sig.map Prod.snd = some b.sig → 0 ≤ (b.gn - 2 - s.twin.convFrom).toInt → Completes (.beacon b alt good arrival) s (fun t =>
    t.ob oidTwinSigRun = wd (run + 1) ∧ t.ob oidTwinOffset = wdI (max (-2 ^ 31) (min (2 ^ 31 - 1) (arrival + s.twin.delay))) ∧
    (t.tw = 5 ↔ (s.ob oidTwinSyncGrains).toNat ≤ run + 1 ∧ bit (status t) 2 = true ∧ bit (status t) 4 = false))) ∧
  (st = 3 ∨ st = 4 ∨ st = 5 → Completes (.beaconDeadlineMiss pos0) s (fun t => Flagged oidTwinSticky 6 (oidTwinCnt 6) s t ∧
    t.twin.missed = s.twin.missed + 1 ∧
    (s.twin.missed + 1 < fld old 4 2 → t.twin.lost = s.twin.lost) ∧
    (pos0 = true → st = 5 → s.twin.missed + 1 < fld old 4 2 ∨ bit old 1 = true → t.tw = 4 ∧
      Flagged oidTwinSticky 2 (oidTwinCnt 2) s t) ∧
    (fld old 4 2 ≤ s.twin.missed + 1 → bit old 1 = true → t.twin.altWait = true ∧ t.twin.lost = s.twin.lost) ∧
    (fld old 4 2 ≤ s.twin.missed + 1 → bit old 1 = false → s.twin.lost = none → t.twin.lost = some 2))) ∧
  (st ≠ 3 → st ≠ 4 → st ≠ 5 → exec (.beaconDeadlineMiss pos0) s = .next s) ∧
  (s.twin.altWait = true → s.follows = true → s.twin.lost = none → Completes .altWaitExpire s (fun t => t.twin.lost = some 3)) ∧
  (s.twin.altWait = false → exec .altWaitExpire s = .next s) ∧
  (s.twin.lost = none → exec (.switchover gap) s = .next s) ∧
  (s.twin.lost = some cause → Completes (.switchover gap) s (fun t => t.tw = 2 ∧ t.shares = 15 ∧ t.twin.lost = none ∧
    Flagged oidTwinSticky 0 (oidTwinCnt 0) s t ∧
    t.ob oidTwinLastCause = (if copying then 6 else if st = 5 then wd cause else 5) ∧
    (copying = true → bit (status t) 0 = true ∧ bit (status t) 3 = false ∧ Flagged oidTwinSticky 1 (oidTwinCnt 1) s t))) ∧
  (st = 2 → Completes .peerAbsent s (fun t => t.tw = 1 ∧ t.twin.peer = none ∧ (s.twin.hold = false → t.shares = 15))) ∧
  (st = 1 → Completes .peerAbsent s (fun t => t.tw = 1 ∧ t.twin.peer = none ∧ t.shares = s.shares)) ∧
  (st = 7 → Completes .peerAbsent s (fun t => t.tw = 7 ∧ t.twin.peer = none ∧ t.shares = 0)) ∧
  (st = 0 ∨ 3 ≤ st ∧ st ≠ 7 → exec .peerAbsent s = .next (s.refLost 3)) ∧
  (2 ≤ s.rst 3 → Completes .peerAbsent s (fun t => t.rst 3 = 1)) ∧
  Completes .startupShareHoldEnd s (fun t => t.twin.hold = false ∧ (st ≤ 2 → t.shares = 15) ∧ (st = 7 → t.shares = s.shares) ∧
    (3 ≤ st → st ≠ 7 → t.shares = 0)) ∧
  (s.twin.take ≠ some (s.gn + 1) → exec .handoverBoundary s = .next s) ∧
  (s.twin.take = some h → h = s.gn + 1 → Completes .handoverBoundary s (fun t => t.twin.take = none ∧
    (st = 5 → t.tw = 2 ∧ t.shares = 15 ∧ t.ob oidTwinLastCause = 4) ∧
    (st = 2 → t.tw = 5 ∧ t.shares = 0 ∧ t.twin.wtrDone = true ∧ t.ob oidTwinLastCause = 4) ∧
    (st ≠ 5 → st ≠ 2 → t.tw = st ∧ t.shares = s.shares))) ∧
  (st = 5 → s.readWtrRem = 0 → exec .twinWtrExpire s = .next { s with twin := { s.twin with wtrDone := true } }) ∧
  (st ≠ 5 ∨ s.readWtrRem ≠ 0 → exec .twinWtrExpire s = .next s) ∧
  (st = 4 → (s.ob oidTwinConvLimit).toNat * s.fsA ≤ (s.gn - s.twin.convFrom).toInt * s.gsize → Completes .twinConvTimeout s (fun t =>
    bit (status t) 6 = true ∧ t.tw = 4)) ∧
  (st ≠ 4 ∨ (s.gn - s.twin.convFrom).toInt * s.gsize < (s.ob oidTwinConvLimit).toNat * s.fsA → exec .twinConvTimeout s = .next s)

/-- R483, R488, R490–R494: a following unit stages the sections of a copy beside its running state, discards them on a
second bad section, and takes them at S, where both units raise their epoch; records come in sequence, act at their
boundary, and one that comes late is flagged; a gap in the sequence asks for a new copy. Of the model's own choices this
rests on log 47 and log 58 (parsed frames, gaps in SEQ). -/
def Obligations.TwinCopies : Prop :=
  ∀ (s : State) (data : CopyData) (last crc pending ok part : Bool) (len : Nat) (sAt seq b0 : Word)
    (r : PsRecord) (mr : MirrorRec) (o : Nat), Canonical s → mapWf psDflt s.ps = true → mapWf psDflt s.twin.copy.ps = true →
  let st := s.tw
  let c := s.twin.copy
  let status (t : State) := t.ob oidTwinStatus
  let takes : Prop := st = 3 ∨ st = 4 ∨ st = 5
  let inOrder : Prop := s.twin.rxSeq = none ∨ s.twin.rxSeq = some (seq - 1)
  let applies : Prop := s.twin.sAt = some (s.gn + 1) ∧ bit (status s) 3 = true
  (¬takes → exec (.copy data last crc len) s = .next s ∧ exec (.mirror seq mr) s = .next s) ∧
  (takes → ¬(last = true ∧ crc = false) → Completes (.copy data last crc len) s (fun t => t.ps = s.ps ∧ t.tiles = s.tiles ∧
    t.img.active = s.img.active ∧ t.twin.copy.bytes = c.bytes + len ∧ t.ob oidTwinCopyProg = wd (c.bytes + len) ∧
    t.dmem.cur = s.dmem.cur)) ∧
  (takes → ¬(last = true ∧ crc = false) → r.stage = none → Completes (.copy (.ps [r]) last crc len) s (fun t =>
    mapGet psDflt t.twin.copy.ps r.oid = { start := r.start, target := r.target, mb := r.mb, n := r.n, inst := r.inst, sval := r.target } ∧
    (o ≠ r.oid → mapGet psDflt t.twin.copy.ps o = mapGet psDflt c.ps o))) ∧
  (takes → last = true → crc = false → c.fails = 0 →
    exec (.copy data last crc len) s = .next { s with twin := { s.twin with copy := { c with fails := 1 } } }) ∧
  (takes → last = true → crc = false → 1 ≤ c.fails → bit (status s) 3 = true → Completes (.copy data last crc len) s (fun t =>
    t.twin.copy = {} ∧ bit (status t) 3 = false ∧ Flagged oidTwinSticky 3 (oidTwinCnt 3) s t ∧ t.ps = s.ps ∧ t.dmem.cur = s.dmem.cur)) ∧
  (pending = true → ok = true → s.img.act.peerWait = true → exec (.copyAck pending ok) s =
    .next { s with img := { s.img with act := { s.img.act with peerWait := false, b0 := some (s.boundary25 s.gn s.mix.pos) } } }) ∧
  (pending = false ∨ ok = false ∨ s.img.act.peerWait = false → exec (.copyAck pending ok) s = .next s) ∧
  (bit (status s) 3 = true → Completes (.copySent sAt) s (fun t => t.twin = { s.twin with
    sAt := some (if s.tw = 2 ∧ (sAt - s.boundary25 s.gn s.mix.pos).toInt < 0 then s.boundary25 s.gn s.mix.pos else sAt) } ∧
    t.ob oidTwinCopyProg = s.ob oidTwinCopySize)) ∧
  (bit (status s) 3 = false → exec (.copySent sAt) s = .next s) ∧
  (s.twin.sAt ≠ some (s.gn + 1) ∨ bit (status s) 3 = false → exec .copyApply s = .next s) ∧
  (applies → st = 3 → c.engine = none → Completes .copyApply s (fun t => t.ps = c.ps ∧ t.twin.epoch = min 255 (s.twin.epoch + 1) ∧
    t.twin.sAt = none ∧ t.twin.copy = {} ∧ bit (status t) 3 = false ∧ t.tw = (if bit (status s) 2 then 4 else 3))) ∧
  (applies → st = 3 → (∃ i g e p l d q, c.engine = some (.engine i g e p l d q) ∧ (∀ x ∈ d, x.1 < 96) ∧ sAt = i ∧ len = e.toNat) → Completes .copyApply s (fun t =>
    t.ps = c.ps ∧ t.ob oidInstar = sAt ∧ t.twin.epoch = min 255 (len + 1))) ∧
  (applies → st = 2 → Completes .copyApply s (fun t => t.ps = s.ps ∧ t.tw = 2 ∧ t.twin.epoch = min 255 (s.twin.epoch + 1) ∧
    bit (status t) 3 = false)) ∧
  (takes → ¬inOrder → Completes (.mirror seq mr) s (fun t => t.tw = 3 ∧ t.ps = s.ps ∧ t.twin.rxSeq = some seq ∧ bit (status t) 3 = true ∧
    Flagged oidTwinSticky 4 (oidTwinCnt 4) s t)) ∧
  (takes → inOrder → mirrorDue mr = some b0 → (s.gn - b0).toInt < 0 → exec (.mirror seq mr) s =
    .next { s with twin := { s.twin with rxSeq := some seq, queue := s.twin.queue ++ [mr] } }) ∧
  (takes → inOrder → 0 ≤ (s.gn - b0).toInt → Completes (.mirror seq (.image part b0)) s (fun t => t.img.act.phase = 1 ∧
    t.img.act.partial' = part ∧ t.ps = s.ps ∧ Flagged oidTwinSticky 4 (oidTwinCnt 4) s t)) ∧
  (takes → inOrder → Completes (.mirror seq (.withdraw none)) s (fun t => (t.pe o).staged = false ∧
    ((s.pe o).staged = false → t.pe o = s.pe o) ∧ t.twin.rxSeq = some seq)) ∧
  (s.twin.queue = [.image part b0] → (s.gn + 1 - b0).toInt < 0 → exec .mirrorApply s = .next s) ∧
  (s.twin.queue = [.image part b0] → 0 ≤ (s.gn + 1 - b0).toInt → Completes .mirrorApply s (fun t => t.twin.queue = [] ∧
    t.img.act.phase = 1 ∧ t.img.act.partial' = part ∧ t.ps = s.ps)) ∧
  (s.twin.queue = [] → exec .mirrorApply s = .next s)

/-- R511, R513, R514, R517: whatever the state and the input, while both instances compute rightly no active channel
releases a sample beyond its ceiling or a fused bound, and none at all while a cause of its mute stands at full mute. -/
def Obligations.CeilingHolds : Prop :=
  ∀ (s : State) (g : Fin 1792) (seq : Option Byte), Canonical s → mapWf (fun _ => ({} : GCh)) s.guard.chs = true →
  mapWf (fun _ => 0) s.guard.out = true →
  let c := s.gch g
  s.gActive g = true → c.st ≠ 0 → c.ia.m ≤ 2 ^ 30 → c.ib.m ≤ 2 ^ 30 → c.ia.m0 ≤ 2 ^ 30 → c.ib.m0 ≤ 2 ^ 30 →
  Completes (.guardSample g seq none none) s (fun t =>
    (t.gOut g).toInt.natAbs ≤ ceilMag (s.ceilOf g) ∧
    (s.gCommon c = true → c.ia.m = 0 → c.ib.m = 0 → t.gOut g = 0) ∧
    (t.gch g).ia.m ≤ 2 ^ 30 ∧ (t.gch g).ib.m ≤ 2 ^ 30)

/-- R508, R510, R516–R519: a sample of a channel. An inactive channel is idle; two instances in one state never disagree; a
sample whose sequence number does not follow starts the substitution; where they differ the channel releases the output of
the smaller magnitude under the smaller gain, and the disagreement is logged. An automatic trip ends once its condition has
been absent for GUARD_HOLD; a latched one stays. Of the model's own choices this rests on log 38 (when a sample is fresh). -/
def Obligations.GuardSamples : Prop :=
  ∀ (s : State) (g : Fin 1792) (seq : Option Byte) (fa fb : Word × BitVec 31) (b : Fin 3), Canonical s →
  mapWf (fun _ => ({} : GCh)) s.guard.chs = true → mapWf (fun _ => 0) s.guard.out = true →
  let c := s.gch g
  let y := if fb.1.toInt.natAbs < fa.1.toInt.natAbs then fb.1 else fa.1
  let hz := s.domHz (s.gDom g)
  let hold := (s.ob oidGuardHold).toNat
  let over' (i : GInst) : Prop := i.present.testBit b = false ∧ hold * hz ≤ (c.n - nth 0 i.clear b) * 1000
  (s.gActive g = false → Completes (.guardSample g seq (some fa) (some fb)) s (fun t => (t.gch g).st = 0 ∧ t.obj = s.obj ∧
    (c.st ≠ 0 → t.gOut g = 0))) ∧
  (s.gActive g = true → c.st ≠ 0 →
    (c.ia = c.ib → Completes (.guardSample g seq none none) s (fun t => (t.gch g).ia = (t.gch g).ib ∧ (t.gch g).differ = false ∧
      (t.gch g).dis = c.dis ∧ (t.gch g).n = c.n + 1)) ∧
    Completes (.guardSample g seq (some fa) (some fb)) s (fun t =>
      t.gOut g = wdI (rneShift (y.toInt * (min fa.2.toNat fb.2.toNat : Nat)) 30) ∧
      (fa ≠ fb → (t.gch g).dis = true ∧ (t.gch g).differ = true) ∧ (fa = fb → (t.gch g).differ = false ∧ (t.gch g).dis = c.dis) ∧
      (fa ≠ fb → c.differ = false → Flagged oidGuardSticky 1 (oidGuardCnt 1) s t ∧ s.guard.logged < t.guard.logged) ∧
      ∀ k, k ≠ g.val → t.gch k = s.gch k)) ∧
  (s.gActive g = true → c.st ≠ 0 → c.stale = none → seq = none ∨ c.seq ≠ none ∧ c.seq ≠ seq →
    Completes (.guardSample g seq none none) s (fun t => (t.gch g).stale = some 1 ∧ Flagged oidGuardSticky 3 (oidGuardCnt 3) s t)) ∧
  (∀ q, s.gActive g = true → c.st ≠ 0 → c.stale = none → seq = some q → c.seq = none ∨ c.seq = some q →
    Completes (.guardSample g seq none none) s (fun t => (t.gch g).stale = none ∧ (t.gch g).seq = some (q + 1))) ∧
  (c.st = 0 → exec (.guardHoldExpire g) s = .next s) ∧
  (c.st ≠ 0 → Completes (.guardHoldExpire g) s (fun t => t = { s with guard := { s.guard with chs := t.guard.chs } } ∧
    (t.gch g).ia.latch = c.ia.latch ∧ (t.gch g).ib.latch = c.ib.latch ∧ (t.gch g).retired = c.retired ∧
    (t.gch g).dis = (c.dis && (c.differ || decide ((c.n - c.agreeAt) * 1000 < hold * hz))) ∧
    (t.gch g).ia.auto.testBit b = (c.ia.auto.testBit b && decide (¬over' c.ia)) ∧
    (t.gch g).ib.auto.testBit b = (c.ib.auto.testBit b && decide (¬over' c.ib))))

/-- R511–R513, R517, R520–R522, R528, R532–R535: the controls of the guard. A raise of a ceiling is logged and never passes
a fused bound; the unlock takes its two words in order and ends with its holder's next write; the releases clear what they
name; a burned fuse lowers the ceilings it covers; a cause of SAFE_MUTE_N arises once; the fault log is cleared but for its
total. Of the model's own choices this rests on log 46 (the fuses of the OTP) and log 59 (causes that stand). -/
def Obligations.GuardControls : Prop :=
  ∀ (s : State) (acc : Access) (g : Fin 1792) (v : Word) (ch : BitVec 11) (k : Fin 16) (net b : Bool) (ce : Nat),
  Canonical s → mapWf (fun _ => ({} : GCh)) s.guard.chs = true →
  let o := oidGuardCeil g
  let v' := if v = 0x80000000 then 0 else v
  let me := acc.session.val
  let q := s.guard
  let r := s.ob (oidGuardFuseRange k)
  let ctl (w : Nat) : Prop := s.admits acc oidGuardCtrl (BitVec.ofNat 32 w) = true
  let mine : Prop := acc.pc.val = 1 ∧ q.holder = some me
  let covered : Prop := fld r 10 0 ≤ g.val ∧ g.val ≤ fld r 26 16
  let logged (t : State) : Prop := t.ob oidFaultTotal = satInc16 (s.ob oidFaultTotal)
  let safe (t : State) (n : Nat) : Prop := t.guard.safe = q.safe ++ [n] ∧ Flagged oidGuardSticky 5 (oidGuardCnt 5) s t ∧ logged t ∧
    (s.tw = 1 ∨ s.tw = 2 → t.tw = 7)
  (s.admits acc o v = true →
    (s.overFuse g v' = true → Completes (.guardCeilWrite acc g v) s (TurnedAway s o stRange)) ∧
    (s.overFuse g v' = false → f32Lt (s.ob o) v' = false → Completes (.guardCeilWrite acc g v) s (Stored (s.put o v'))) ∧
    (s.overFuse g v' = false → f32Lt (s.ob o) v' = true → Completes (.guardCeilWrite acc g v) s (fun t => t.answer = {} ∧ t.ob o = v' ∧
      logged t ∧ Flagged oidGuardSticky 6 (oidGuardCnt 6) s t))) ∧
  (s.admits acc (oidGuardCfg g) v = true →
    (60 < fld v 10 5 → Completes (.guardCfgWrite acc g v) s (TurnedAway s (oidGuardCfg g) stRange)) ∧
    (fld v 10 5 ≤ 60 → Completes (.guardCfgWrite acc g v) s (Stored (s.put (oidGuardCfg g) v)))) ∧
  (s.admits acc oidGuardUnlock v = true →
    (v = 0x5AFE → q.first = none → Completes (.guardUnlockWrite acc v) s (fun t => t.answer = {} ∧ t.guard.first = some me ∧
      t.guard.holder = if q.holder = some me then none else q.holder)) ∧
    (v = 0xCE11 → q.first = some me → Completes (.guardUnlockWrite acc v) s (fun t => t.answer = {} ∧ t.guard.first = none ∧
      t.guard.holder = some me)) ∧
    (v ≠ 0x5AFE → ¬(v = 0xCE11 ∧ q.first = some me) → Completes (.guardUnlockWrite acc v) s (fun t => t.answer = {} ∧
      t.guard.first = none ∧ t.guard.holder = (if q.holder = some me then none else q.holder) ∧
      (q.holder ≠ some me ∨ q.first ≠ none → Flagged oidGuardSticky 8 (oidGuardCnt 8) s t)))) ∧
  (q.first ≠ none → Completes (.guardUnlockExpire true) s (fun t => t.guard = { q with first := none } ∧
    Flagged oidGuardSticky 8 (oidGuardCnt 8) s t)) ∧
  (q.first = none → exec (.guardUnlockExpire true) s = .next s) ∧
  exec (.guardUnlockExpire false) s = .next { s with guard := { q with holder := none } } ∧
  (ctl 1 →
    ((∃ x ∈ q.safe, 2 ≤ x ∧ s.safePersists x = true) → Completes (.releaseSafe acc) s (TurnedAway s oidGuardCtrl stNotReady)) ∧
    ((∀ x ∈ q.safe, x < 2) → Completes (.releaseSafe acc) s (Stored s)) ∧
    ((∃ x ∈ q.safe, 2 ≤ x) → (∀ x ∈ q.safe, 2 ≤ x → s.safePersists x = false) → Completes (.releaseSafe acc) s (fun t =>
      t.answer = {} ∧ logged t ∧ t.guard.safe = q.safe.filter (fun x => decide (x < 2)) ∧ t.guard.chs = q.chs))) ∧
  (ctl (2 + 256 * ch.toNat) →
    (0x6FF < ch.toNat → Completes (.releaseCh acc ch) s (TurnedAway s oidGuardCtrl stRange)) ∧
    (ch.toNat ≤ 0x6FF → Completes (.releaseCh acc ch) s (fun t => t.answer = {} ∧ (t.gch ch.toNat).ia.latch = 0 ∧
      (t.gch ch.toNat).ib.latch = 0 ∧ (t.gch ch.toNat).retired = false ∧ (t.gch ch.toNat).ia.auto = (s.gch ch.toNat).ia.auto ∧
      (g.val ≠ ch.toNat → t.gch g = s.gch g) ∧ t.guard.safe = q.safe))) ∧
  (ctl 3 → Completes (.releaseAll acc) s (fun t => t.answer = {} ∧ (t.gch g).ia.latch = 0 ∧ (t.gch g).ib.latch = 0 ∧
    (t.gch g).retired = false ∧ (t.gch g).ia.auto = (s.gch g).ia.auto ∧ (t.gch g).dis = (s.gch g).dis ∧ t.guard.safe = q.safe)) ∧
  (ctl (4 + 2 ^ 20 * k.val) →
    (¬mine → Completes (.fuse acc k) s (TurnedAway s oidGuardCtrl stDenied)) ∧
    (mine → bit r 31 = true → Completes (.fuse acc k) s (TurnedAway s oidGuardCtrl stNotReady)) ∧
    (mine → bit r 31 = false → Completes (.fuse acc k) s (fun t => t.answer = {} ∧ t.ob (oidGuardFuseRange k) = setBit r 31 true ∧
      logged t ∧ (covered → f32Lt (s.fuseBound k) (s.ob o) = true → t.ob o = s.fuseBound k) ∧
      (¬covered ∨ f32Lt (s.fuseBound k) (s.ob o) = false → t.ob o = s.ob o)))) ∧
  (2 ∉ q.safe → Completes (.guardOscFault net b true) s (fun t => safe t 2 ∧ t.oscBad net = true)) ∧
  (2 ∈ q.safe → Completes (.guardOscFault net b true) s (fun t => t.obj = s.obj ∧ t.guard.safe = q.safe ∧ t.oscBad net = true)) ∧
  Completes (.guardOscFault net b false) s (fun t => t.obj = s.obj ∧ t.guard.safe = q.safe ∧
    (∀ x, x ∈ t.guard.osc ↔ x ∈ q.osc ∧ x ≠ (if net then 2 else 0) + if b then 1 else 0)) ∧
  (3 ∉ q.safe → Completes (.guardCfgScrub ce true) s (fun t => safe t 3 ∧ t.guard.cfgBad = true)) ∧
  (3 ∈ q.safe → Completes (.guardCfgScrub ce true) s (fun t => t.guard = { q with cfgBad := true })) ∧
  Completes (.guardCfgScrub 1 false) s (fun t => Flagged oidGuardSticky 7 (oidGuardCnt 7) s t ∧ t.guard = { q with cfgBad := false }) ∧
  exec (.guardCfgScrub 0 false) s = .next { s with guard := { q with cfgBad := false } } ∧
  (s.guardHealthy = true → exec .safeOkEdge s = .next { s with guard := { q with level := !q.level } }) ∧
  (s.guardHealthy = false → exec .safeOkEdge s = .next s) ∧
  (s.admits acc oidFaultCtrl 1 = true → Completes (.faultLogClear acc) s (fun t => t.answer = {} ∧ t.ob oidFaultNewest = 0xFF ∧
    t.ob oidFaultTotal = s.ob oidFaultTotal ∧ ∀ e, e < 64 → t.ob (oidFaultWord e) = 0 ∧ t.ob (oidFaultInstar e) = 0))

/-- R34, R281, R346, R537, R539, R541–R545, R547, R553, R554, R556, R595: the device states. A wake source acts in STANDBY
alone; the fourth good rail group begins Eclosion and a group in time-out ends the wake; the resets and STANDBY lose every
domain but Chrysalis, the flash and the burned fuses; a quadrant reset clears its tiles alone and keeps their sticky flags
(log 9); a watchdog keeps sessions, store and audio. The domains that the firmware switches go on as what needs them asks
and off as nothing does, PD3 with its lanes' state; the counter is loaded whole by its low word; an alarm that is not ahead
fires at once and is flagged; the hottest reading is kept until it is cleared. Of the model's own choices this rests on log
9 (what QRESET keeps) and log 79 (what a reset keeps). -/
def Obligations.PowerStatesAndDomains : Prop :=

  (∀ (s : State) (acc : Access) (q : Fin 4) (m0 m1 : Option (Word × Bool)) (sha : List Byte) (o n : Nat)
    (w : Waiting), Canonical s → n < 64 →
  let st := s.pw
  let info (t : State) := t.ob oidPwrBootInfo
  let lost (t : State) : Prop := t.tiles = [] ∧ t.ps = [] ∧ t.sess = [] ∧ t.ports = [] ∧ t.net = {} ∧ t.dmem = {} ∧
    t.pwr.otpKey = s.pwr.otpKey ∧ t.pwr.otpMin = s.pwr.otpMin ∧ t.img.nor0 = s.img.nor0 ∧ t.img.nor1 = s.img.nor1 ∧ t.pending = s.pending ∧
    (s.otpOid o = true → t.ob o = s.ob o) ∧
    (pd0Oid o = false → s.otpOid o = false → o ≠ oidPwrDomains → o ≠ oidPwrState → t.ob o = oidDflt o)
  let keeps (t : State) : Prop := pd0Oid o = true → o ≠ oidPwrBootInfo → t.ob o = s.ob o
  let reborn (t : State) (cause : Nat) : Prop := lost t ∧ keeps t ∧ t.pw = 2 ∧ t.pwr.stage = 1 ∧ fld (info t) 3 0 = cause
  let wakes (t : State) (cause : Nat) : Prop := t.pw = 1 ∧ t.pwr.groups = 0 ∧ fld (info t) 3 0 = cause
  let cfg := s.ob oidChrWakeCfg
  let ctl (k : Nat) : Prop := s.admits acc oidPwrCtrl (BitVec.ofNat 32 k) = true
  let ok : Prop := sha = s.pwr.fwSha
  let busy : Prop := ∃ i, i < 9 ∧ (s.tileState (9 * q.val + i) = 2 ∨ s.tileState (9 * q.val + i) = 3)
  (s.pwr.off = true → Completes .vaonOn s (fun t => lost t ∧ wakes t 0 ∧ t.pwr.off = false)) ∧
  (s.pwr.off = false → exec .vaonOn s = .next s) ∧
  Completes .vaonLoss s (fun t => lost t ∧ t.pwr.off = true ∧ t.ob oidPwrDomains = 0) ∧
  (s.pwr.off = false → st = 0 → bit cfg 0 = true → Completes .wakePin s (fun t => wakes t 1 ∧ keeps t)) ∧
  (s.pwr.off = true ∨ st ≠ 0 ∨ bit cfg 0 = false → exec .wakePin s = .next s) ∧
  (s.pwr.off = false → bit cfg 1 = true → st = 0 → Completes .rtcAlarm s (fun t => wakes t 2 ∧ keeps t)) ∧
  (s.pwr.off = false → bit cfg 1 = true → st = 3 → Completes .rtcAlarm s (fun t => Leaves (fun _ => false) s t ∧
    (n < 4 → bit (s.ob (oidIntCfg n)) 14 = true → bit (t.ob (oidIntPending n)) 14 = true))) ∧
  (s.pwr.off = true ∨ bit cfg 1 = false ∨ st ≠ 0 ∧ st ≠ 3 → exec .rtcAlarm s = .next s) ∧
  (s.pwr.off = false → st = 0 → Completes .resetPin s (fun t => wakes t 3)) ∧
  (s.pwr.off = false → st ≠ 0 → st ≠ 1 → Completes .resetPin s (fun t => reborn t 3)) ∧
  (s.pwr.off = true ∨ st = 1 → exec .resetPin s = .next s) ∧
  (st = 1 → s.pwr.groups = 3 → Completes .railGood s (fun t => lost t ∧ keeps t ∧ t.pw = 2 ∧ t.pwr.stage = 1 ∧ t.ob oidPwrDomains = 5)) ∧
  (st = 1 → s.pwr.groups ≠ 3 → exec .railGood s = .next { s with pwr := { s.pwr with groups := s.pwr.groups + 1 } }) ∧
  (st ≠ 1 → exec .railGood s = .next s ∧ exec .railTimeout s = .next s) ∧
  (st = 1 → s.pwr.groups ≤ 3 → Completes .railTimeout s (fun t => lost t ∧ keeps t ∧ t.pw = 0 ∧ bit (info t) 5 = true ∧
    fld (info t) 7 6 = s.pwr.groups)) ∧
  (ctl 1 →
    (st = 3 → Completes (.standby acc) s (fun t => t.answer = {} ∧ lost t ∧ keeps t ∧ t.pw = 0 ∧
      t.pwr.rate = some (s.ob oidDomRateA).toNat ∧ t.ob oidPwrDomains = 1)) ∧
    (st ≠ 3 → Completes (.standby acc) s (TurnedAway s oidPwrCtrl stNotReady))) ∧
  (ctl 2 →
    (st = 2 ∨ st = 3 → Completes (.reset acc) s (fun t => t.answer = {} ∧ reborn t 4 ∧ t.jnl.live = s.jnl.live)) ∧
    (st ≠ 2 → st ≠ 3 → Completes (.reset acc) s (TurnedAway s oidPwrCtrl stNotReady))) ∧
  (ctl (3 + 4 * q.val) →
    (busy → Completes (.qreset acc q) s (TurnedAway s oidPwrCtrl stNotReady)) ∧
    (¬busy → Completes (.qreset acc q) s (fun t => t.answer = {} ∧ t.quad q = 0 ∧
      (quadOf n = q.val → n < 36 → t.tile n = {} ∧ t.tileState n = 0 ∧ n ∉ t.img.retired) ∧
      (o = oidTileSticky n → t.ob o = s.ob o) ∧
      (quadOf n ≠ q.val → n < 36 → t.tile n = s.tile n ∧ t.tileState n = s.tileState n ∧ (n ∈ t.img.retired ↔ n ∈ s.img.retired))))) ∧
  Completes (.mgmtWatchdog m0 m1) s (fun t => t.pwr.down = true ∧ Flagged oidPwrSticky 5 (oidPwrCnt 5) s t ∧ t.ps = s.ps ∧
    t.tiles = s.tiles ∧ (t.ses n).st = (s.ses n).st ∧ t.ob oidFaultTotal = satInc16 (s.ob oidFaultTotal) ∧
    (s.tw = 1 ∨ s.tw = 2 → t.tw = 7)) ∧
  (s.pwr.down = false → exec (.mgmtRestartDone sha) s = .next s) ∧
  (s.pwr.down = true → ok → Completes (.mgmtRestartDone sha) s (fun t => t.pwr.down = false ∧ t.ps = s.ps ∧
    ((s.ses n).st = 1 → (s.ses n).waiting = [w] → mapWf (fun _ => ({} : Completion)) (s.ses n).cq = true →
      (t.ses n).waiting = [] ∧ (t.ses n).tail = (s.ses n).tail + 1 ∧
      ((t.ses n).entry ((s.ses n).tail % 64)).status = if w.sets = [] then 4 else 0))) ∧
  (s.pwr.down = true → ¬ok → Completes (.mgmtRestartDone sha) s (fun t => reborn t 4)) ∧
  (s.pwr.off = false → st = 1 → (s.pwrEn n = true ↔ n ≤ s.pwr.groups)) ∧ (s.pwr.off = true ∨ st = 0 → s.pwrEn n = false) ∧
  (s.pwr.off = true ∨ st ≤ 1 ∨ st = 2 ∧ s.pwr.stage < 2 → s.ospiResetN = false) ∧ (s.pwr.off = false → st = 3 → s.ospiResetN = true)) ∧
  (∀ (s : State) (acc : Access) (pd : Fin 12) (on : Bool) (m5 m8 : Option (Word × Bool)) (q : Fin 4)
    (v : Word) (h : Half), Canonical s →
  let up : Prop := s.switches = true
  let needs3 : Prop := ∃ l, l < 4 ∧ bit (s.ob (oidLaneCfg l)) 0 = true
  let now := bit (s.ob oidPwrDomains) pd
  let c : Instr := .pdSwitch pd on m5 m8
  let shows (t : State) : Prop := bit (t.ob oidPwrDomains) pd = on
  let armed : Prop := bit v 1 = true ∧ bit (s.ob oidChrWakeCfg) 1 = false
  let late : Prop := (s.ob oidChrAlarmHi).toNat * 2 ^ 32 + (s.ob oidChrAlarmLo).toNat ≤ s.rtcNow
  let deg : Word := BitVec.ofInt 32 h.toInt
  (¬up ∨ now = on → exec c s = .next s) ∧
  (up → now ≠ on →
    (pd = 3 → (on = true ↔ needs3) → Completes c s (fun t => shows t ∧ (on = false → t.net = {} ∧ t.tw = 0))) ∧
    (pd = 3 → ¬(on = true ↔ needs3) → exec c s = .next s) ∧
    (pd = 4 ∨ pd = 5 ∧ s.wantsPd5 = true ∨ pd = 7 ∧ s.wantsPd7 = true → on = true → Completes c s shows) ∧
    (pd = 5 ∧ s.wantsPd5 = false ∨ pd = 7 ∧ s.wantsPd7 = false → on = true → exec c s = .next s) ∧
    (pd = 5 → on = false → s.wantsPd5 = false → Completes c s shows) ∧
    (pd = 7 → on = false → s.wantsPd7 = false → Completes c s (fun t => shows t ∧ t.dmem = {})) ∧
    (pd = 4 ∨ pd = 5 ∧ s.wantsPd5 = true ∨ pd = 7 ∧ s.wantsPd7 = true → on = false → exec c s = .next s) ∧
    (pd ≠ 3 → pd ≠ 4 → pd ≠ 5 → pd ≠ 7 → exec c s = .next s)) ∧
  (s.quad q = 3 → Completes (.quadWakeReady q) s (fun t => t = { s with pwr := { s.pwr with qready := t.pwr.qready } } ∧
    t.pwr.qready.testBit q = true)) ∧
  (s.quad q ≠ 3 → exec (.quadWakeReady q) s = .next s) ∧
  (s.admits acc oidChrRtcLo v = true → Completes (.chrRtcLoWrite acc v) s (fun t => t.answer = {} ∧ t.ob oidChrRtcLo = v ∧
    t.pwr.rtc = (s.ob oidChrRtcHi).toNat * 2 ^ 32 + v.toNat ∧
    t.rtcNow = (t.pwr.rtc + (Config.rtcTicks (s.freeCtr + 1)).toNat) % 2 ^ 48)) ∧
  (s.admits acc oidChrWakeCfg v = true →
    (¬armed → Completes (.chrWakeCfgWrite acc v) s (Stored (s.put oidChrWakeCfg v))) ∧
    (armed → late → Completes (.chrWakeCfgWrite acc v) s (fun t => t.answer = {} ∧ t.ob oidChrWakeCfg = v ∧
      Flagged oidPwrSticky 6 (oidPwrCnt 6) s t)) ∧
    (armed → ¬late → Completes (.chrWakeCfgWrite acc v) s (fun t => t.answer = {} ∧ t.ob oidChrWakeCfg = v ∧
      t.ob oidPwrSticky = s.ob oidPwrSticky))) ∧
  Completes (.dieTempUpdate h) s (fun t => t.ob oidDieTemp = deg ∧
    t.ob oidDieTempMax = if (s.ob oidDieTempMax).toInt < h.toInt then deg else s.ob oidDieTempMax) ∧
  (s.admits acc oidDieTempMax v = true →
    (v = 0 → Completes (.dieTempMaxWrite acc v) s (Stored (s.put oidDieTempMax (s.ob oidDieTemp)))) ∧
    (v ≠ 0 → Completes (.dieTempMaxWrite acc v) s (TurnedAway s oidDieTempMax stRange))))

/-- R541, R548, R551, R552, R571, R572: the steps of Eclosion. A refused firmware slot is followed by the other and then
RECOVERY; the clock step takes DOM_RATE_A of the boot record; the restored state leads to the boot image's verification,
with a replayed record in effect and one whose CRC fails not; the start releases cause RESET, and RUN follows the fade-in.
Of the model's own choices this rests on log 39 (the order of a key's bytes) and log 80 (what FW_VERIFY_DONE covers). -/
def Obligations.EclosionSteps : Prop :=
  ∀ (s : State) (slot : Option (List Byte × List Byte)) (hd cd : List Byte) (torn badA badB expired : Bool) (badRec : Option Word) (ms : Word) (r : JRec)
    (idx : Nat), Canonical s →
  let p := s.pwr
  let code := s.fwVerdict slot
  let f := Instr.fwVerifyDone slot
  let info := s.ob oidPwrBootInfo
  let nowInfo (t : State) := t.ob oidPwrBootInfo
  let early : Prop := s.pw = 2 ∧ p.stage ≤ 2
  let at' (k : Nat) : Prop := s.pw = 2 ∧ p.stage = k
  (¬early → exec f s = .next s) ∧
  (early → slot = some (hd, cd) → code = 0 → Completes f s (fun t =>
    t.pwr = { p with stage := 4, fw := hd, fwSha := sha256 (hd.take 80 ++ cd) } ∧ t.ob oidFwVersion = wd (ofLe (slice hd 4 4)) ∧ bit (t.ob oidPwrDomains) 1 = true ∧
    fld (nowInfo t) 15 8 = min 255 (fld info 15 8 + 1) ∧ (bit (nowInfo t) 4 = true ↔ p.bootFw ≠ p.fwTried) ∧
    (bit info 5 = true → Flagged oidPwrSticky 2 (oidPwrCnt 2) s t))) ∧
  (early → code ≠ 0 → p.fwTried = false → Completes f s (fun t => t.pwr.fwTried = true ∧ t.pw = 2 ∧
    fld (nowInfo t) 19 16 = code ∧ Flagged oidPwrSticky 3 (oidPwrCnt 3) s t)) ∧
  (early → code ≠ 0 → p.fwTried = true → Completes f s (fun t => t.pw = 4 ∧ t.pwr.stage = 15 ∧
    fld (nowInfo t) 19 16 = code)) ∧
  (code = 0 → slot ≠ none ∧ (slot = some (hd, cd) → hd.length = 256 ∧ ofLe (slice hd 0 4) = 0x57464853 ∧ cd.length = ofLe (slice hd 12 4) ∧
    cd.length ≤ 3407616 ∧ ofBe (sha256 (slice hd 16 64)) = p.otpKey.toNat ∧
    ecdsaOk (ofBe (slice hd 16 32)) (ofBe (slice hd 48 32)) (ofBe (slice hd 80 32)) (ofBe (slice hd 112 32)) (sha256 (hd.take 80 ++ cd)) = true ∧
    p.otpMin.toNat ≤ ofLe (slice hd 8 4))) ∧
  (at' 4 → Completes .bootXoTimeout s (fun t => t.pw = 4 ∧ t.pwr.stage = 15 ∧ fld (nowInfo t) 19 16 = 6)) ∧
  (at' 4 → Completes .bootXoRunning s (fun t => t.pwr.stage = 5 ∧ t.ob oidDomRateA = wd (p.rate.getD 2) ∧ t.conv.rateA = p.rate.getD 2)) ∧
  (¬at' 4 → exec .bootXoTimeout s = .next s ∧ exec .bootXoRunning s = .next s) ∧
  (at' 5 → Completes (.stateRestoreDone torn badA badB badRec) s (fun t => t.pwr.stage = 6 ∧ t.jst = 1 ∧ t.pend = peVerifying ∧
    t.img.pend.recv = imgBytes)) ∧
  (¬at' 5 → exec (.stateRestoreDone torn badA badB badRec) s = .next s) ∧
  (s.jnl.base = none → s.jnl.live = [{ idx := idx, recs := [{ seq := 1, kind := 1 }, r] }] → r.kind = 2 → r.seq = 1 → lawOf r.oid = 0 →
    s.otpOid r.oid = false → r.oid ∉ [oidJnlReplayed, oidJnlDiscarded, oidJnlSeq, oidInstar] →
    (badRec = none → (s.restoreState false badRec).ob r.oid = r.value ∧ (s.restoreState false badRec).ob oidJnlReplayed = 1 ∧
      (s.restoreState false badRec).ob oidJnlSeq = 1 ∧ (s.restoreState false badRec).jnl.next = 2) ∧
    (badRec = some 1 → (s.restoreState false badRec).ob r.oid = s.ob r.oid ∧ (s.restoreState false badRec).ob oidJnlReplayed = 0 ∧
      (s.restoreState false badRec).jnl.next = 1)) ∧
  (at' 7 → expired = true ∨ s.pastStage1 = true → Completes (.bootClockReady expired) s (fun t => t.pwr.stage = 8 ∧ 0 ∉ t.guard.safe)) ∧
  (¬at' 7 ∨ expired = false ∧ s.pastStage1 = false → exec (.bootClockReady expired) s = .next s) ∧
  (at' 8 → Completes (.eclosionComplete ms) s (fun t => t.pw = 3 ∧ t.pwr = { p with stage := 9 } ∧ t.ob oidPwrBootTime = ms ∧
    fld (nowInfo t) 15 8 = 0)) ∧
  (¬at' 8 → exec (.eclosionComplete ms) s = .next s)

/-- R565–R570, R574: a programmed page makes its records durable and JNL_SEQ their last; a failed one loses no record and
its segment is used no more; fewer than eight records are filled up after 2 ms; an erase ends or is begun again; PFAIL stops
the engine, which goes on afterwards. One compaction runs at a time, into the region that is not the base; its CUT is the
next SEQ; its body holds every scalar and set that differs from its default; sealed, it is the base and what lies before it
is erased; a bad seal is begun again once. CLEAR_STATE drops both snapshots and the ring. Of the model's own choices this
rests on log 78 (a body that begins again, a region erased again). -/
def Obligations.JournalPagesAndCompaction : Prop :=

  (∀ (s : State) (ok : Bool) (bus : Option (Word × Bool)) (k : Nat) (rest : List Nat) (g : JSeg) (x : JRec),
  Canonical s → mapWf (fun _ => 0) s.jnl.erases = true →
  let j := s.jnl
  let live : Prop := s.jst = 1 ∨ s.jst = 3
  let count (t : State) := mapGet (fun _ => 0) t.jnl.erases k
  (j.page = [] → exec (.jnlPageProgramDone ok) s = .next s) ∧
  (j.page.getLast? = some x → Completes (.jnlPageProgramDone true) s (fun t => t.ob oidJnlSeq = x.seq ∧ t.jnl.wr = j.wr + 256 ∧
    ∃ y ∈ t.jnl.live, y.idx = j.pageSeg ∧ ∀ r ∈ j.page, r ∈ y.recs)) ∧
  (j.page ≠ [] → Completes (.jnlPageProgramDone false) s (fun t => Flagged oidJnlSticky 6 (oidJnlCnt 6) s t ∧ j.pageSeg ∈ t.jnl.bad ∧
    (∀ r ∈ j.page ++ j.queue, r.kind ≠ 1 → r.kind ≠ 15 → r ∈ t.jnl.queue ∨ r ∈ t.jnl.page))) ∧
  (s.jst ≠ 1 ∨ j.page ≠ [] ∨ j.queue = [] → exec .jnlPageFillTimeout s = .next s) ∧
  (s.jst = 1 → j.page = [] → j.queue ≠ [] → j.live.getLast? = some g → g.recs.length < 2048 → g.idx ∉ j.bad → j.shut = false →
    Completes .jnlPageFillTimeout s (fun t => t.obj = s.obj ∧ t.jnl.pageSeg = g.idx ∧ t.jnl.queue = j.queue.drop 8 ∧ t.jnl.page.length = 8 ∧
      t.jnl.page.take (min 8 j.queue.length) = j.queue.take 8 ∧ ∀ r ∈ t.jnl.page.drop j.queue.length, r.kind = 15)) ∧
  (s.jst = 0 ∨ s.jst = 2 ∨ j.dirty = [] → exec (.jnlEraseDone ok) s = .next s) ∧
  (s.jst ≠ 0 → s.jst ≠ 2 → j.dirty = k :: rest →
    Completes (.jnlEraseDone true) s (fun t => t.jnl.dirty = rest ∧ count t = count s + 1 ∧ t.jnl.live = j.live) ∧
    (k < 2 ^ 20 → Completes (.jnlEraseDone false) s (fun t => t.jnl.dirty = rest ∧ k ∈ t.jnl.bad ∧
      Flagged oidJnlSticky 6 (oidJnlCnt 6) s t)) ∧
    (2 ^ 20 ≤ k → Completes (.jnlEraseDone false) s (fun t => t.jnl = { j with dirty := rest ++ [k] } ∧
      Flagged oidJnlSticky 6 (oidJnlCnt 6) s t))) ∧
  (live → Completes (.pfail bus) s (fun t => t.jst = 2 ∧ t.jnl = j ∧ Flagged oidJnlSticky 5 (oidJnlCnt 5) s t)) ∧
  (¬live → exec (.pfail bus) s = .next s) ∧
  (s.jst = 2 → j.page ≠ [] ∨ j.queue = [] → Completes .jnlResume s (fun t => t.jst = 1 ∧ t.jnl = j)) ∧
  (s.jst = 2 → Completes .jnlResume s (fun t => t.jst = 1 ∨ t.jst = 3)) ∧
  (s.jst ≠ 2 → exec .jnlResume s = .next s)) ∧
  (∀ (s : State) (acc : Access) (ok : Bool) (c : Comp) (d : Snap), Canonical s →
  let j := s.jnl
  let live : Prop := s.jst = 1 ∨ s.jst = 3
  let region := match j.base with | none => false | some b => !b
  let begins : Prop := live ∧ j.comp = none ∧ (j.want = true ∨ s.jnlTrigger ≤ j.wr) ∧ regionKey region ∉ j.dirty
  let bodied : Prop := live ∧ c.body = false ∧ regionKey c.region ∉ j.dirty
  let bytes := bodyBytes s.snapScalars s.snapSets
  let large : Prop := jnlS (s.ob oidJnlFlashMib).toNat - 512 < bytes
  let sealable : Prop := live ∧ 0 ≤ (s.ob oidJnlSeq - d.close).toInt
  (s.admits acc oidJnlCtrl 1 = true →
    (j.comp ≠ none → Completes (.compact acc) s (TurnedAway s oidJnlCtrl stBusy)) ∧
    (j.comp = none → exec (.compact acc) s = .next { s with answer := {}, jnl := { j with want := true } })) ∧
  (s.admits acc oidJnlCtrl 2 = true →
    (live → Completes (.clearState acc) s (fun t => t.answer = {} ∧ t.jst = 4 ∧ t.jnl.snapA = none ∧ t.jnl.snapB = none ∧
      t.jnl.base = none ∧ t.jnl.live = [] ∧ t.jnl.queue = [] ∧ t.ob oidJnlSnapGen = 0 ∧ t.ps = s.ps)) ∧
    (¬live → Completes (.clearState acc) s (TurnedAway s oidJnlCtrl stNotReady))) ∧
  (begins → Completes .compactionBegin s (fun t => t.ob oidJnlCompacting = 1 ∧ t.jnl.want = false ∧
    ∃ e, t.jnl.comp = some e ∧ e.region = region ∧ e.cut = j.next ∧ e.instar = s.ob oidInstar ∧ e.body = false)) ∧
  (¬begins → exec .compactionBegin s = .next s) ∧
  (j.comp = none ∨ j.comp = some c ∧ ¬bodied → exec .snapshotBodyDone s = .next s) ∧
  (j.comp = some c → bodied → large → Completes .snapshotBodyDone s (fun t => t.jnl.comp = none ∧ t.ob oidJnlCompacting = 0 ∧
    t.jnl.dirty = j.dirty ++ [regionKey c.region] ∧ t.jnl.base = j.base)) ∧
  (j.comp = some c → bodied → ¬large → Completes .snapshotBodyDone s (fun t => t.obj = s.obj ∧ t.jnl.comp = some { c with body := true } ∧
    ∃ e, t.jnl.draft = some e ∧ e.cut = c.cut ∧ e.close = j.next - 1 ∧ e.gen = j.gen + 1 ∧ e.scalars = s.snapScalars ∧ e.sets = s.snapSets)) ∧
  (j.comp = none ∨ j.draft = none ∨ j.draft = some d ∧ ¬sealable → exec (.snapshotSeal ok) s = .next s) ∧
  (j.comp = some c → j.draft = some d → sealable →
    Completes (.snapshotSeal true) s (fun t => t.jnl.base = some c.region ∧ t.jnl.snap c.region = some d ∧
      t.jnl.snap (!c.region) = j.snap (!c.region) ∧ t.jnl.comp = none ∧ t.ob oidJnlSnapGen = d.gen ∧ t.ob oidJnlCompacting = 0 ∧
      (∀ x ∈ t.jnl.live, x ∈ j.live) ∧ (∀ x ∈ j.live, x ∉ t.jnl.live → x.before c.cut = true ∧ x.idx ∈ t.jnl.dirty)) ∧
    (c.again = false → Completes (.snapshotSeal false) s (fun t => t.jnl.comp = some { c with body := false, again := true } ∧
      t.jnl.draft = none ∧ t.jnl.base = j.base ∧ Flagged oidJnlSticky 6 (oidJnlCnt 6) s t)) ∧
    (c.again = true → Completes (.snapshotSeal false) s (fun t => t.jnl.comp = none ∧ t.jnl.base = j.base ∧
      t.jnl.dirty = j.dirty ++ [regionKey c.region] ∧ Flagged oidJnlSticky 6 (oidJnlCnt 6) s t))))

/-- R20, R41, R133, R173, R187, R295, R332, R529: a grain boundary completes whatever failed in the grain. It opens the next
grain: GRAIN_NUMBER counts one more, the TICs below the delay returns carry what was staged, the faults of the grain that
ends are logged, and every tile that then runs stands at ecyc 96 with no loop open. A sample boundary. A stopped domain has
none. One of domain A moves the position by one sample and releases to a port sink of domain A, with neither crossfade nor
validity fade, its source one sample before, times gain and mute weight, rounded once and saturated. One of another domain
leaves position, staged sources and grain as they are. Each is the domain's last boundary for the media clock. Of the
model's own choices this rests on log 45 (the order of the commands of one instant). -/
def Obligations.GrainAndSampleBoundaries : Prop :=

  (∀ (s : State) (pm : List PmError) (ex : List DmError)
    (dl : List LineError) (reports : List (Nat × Nat × Nat)), Canonical s → mapWf (fun _ => (0 : Word)) s.mix.ticBuf = true →
  Completes (.grainBoundary pm ex dl reports) s (fun t =>
    t.ob oidGrainNumber = s.ob oidGrainNumber + 1 ∧ t.mix.pos = 0 ∧ t.mix.ticBuf = [] ∧
    (∀ k, k < 16384 → mapGet (fun _ => 0) t.mix.ticGrain k = mapGet (fun _ => 0) s.mix.ticBuf k) ∧
    t.mix.tocPrev = s.mix.tocGrain ∧ (dl = [] → t.faultQ = []) ∧ t.grainInstar = t.ob oidInstar ∧
    ∀ p, p < 36 → t.tileState p = tsRunning → (t.tile p).cyc = 96 ∧ (t.tile p).loops = [] ∧ (t.tile p).failed = false)) ∧
  (∀ (s : State) (d : Dom) (clk : List Nat) (bits : List (Nat × List (Bool × Bool)))
    (reports : List TrackReport),
  let n := match d with | .a => 0 | .b => 1 | .c => 2
  Canonical s → mapWf (fun _ => ({} : PatchSink)) s.mix.sinks = true → mapWf (fun _ => (0 : Word)) s.mix.srcNow = true →
  mapWf (fun _ => (0 : Word)) s.mix.sinkOut = true → mapWf (fun _ => 0) s.time.sb = true →
  (s.domHz n = 0 → exec (.sampleBoundary d clk bits reports) s = .next s) ∧
  (s.domHz n ≠ 0 → Completes (.sampleBoundary d clk bits reports) s (fun t =>
    t.ob oidGrainNumber = s.ob oidGrainNumber ∧ mapGet (fun _ => 0) t.time.sb n = s.time.dt ∧
    t.mix.pos = s.mix.pos + (if n = 0 then 1 else 0) ∧ (n ≠ 0 → t.mix.srcPrev = s.mix.srcPrev) ∧
    (n = 0 → t.mix.srcPrev = s.mix.srcNow ∧
      ∀ k, k < 0x800 → k ∈ s.mix.sinks.map Prod.fst → s.sinkInA k = true → (s.sink k).xfL = 0 → (s.sink k).vdir = 0 →
        (s.sink k).src < 0x1000 →
        let v := (mapGet (fun _ => 0) s.mix.srcNow (s.sink k).src).toInt
        mapGet (fun _ => 0) t.mix.sinkOut k =
          wdI (satInt 32 (rneShift ((s.sinkGain k).2 * (s.sinkGain k).1 * (2 ^ 30 * v)) 89))))))

/-- A step takes the command at the front of the queue and is its meaning on the queue's rest; with an empty queue the
engine passes one ecyc (log 1); and no command ends in a fault or a refusal. -/
def Obligations.StepRunsFront : Prop :=
   (∀ (c : Instr) (l : List Instr) (s : State), step { s with pending := c :: l } = exec c { s with pending := l }) ∧
  (∀ s : State, s.pending = [] → step s = .next s.engineCycle) ∧
  (∀ (c : Instr) (s : State), ∃ t, exec c s = .next t)

/-- R9, R517, R541, R548 and the resets of the object tables: the state after reset is in canonical form with an empty
queue, every object at its class's default, the guard muted for want of an activation, and the power sequencer at Eclosion's
first stage. Of the model's own choices this rests on log 42 (a field without a reset value in the spec is zero or empty). -/
def Obligations.ResetState : Prop :=
   Canonical State.reset ∧ State.reset.pending = [] ∧ (∀ o, State.reset.ob o = oidDflt o) ∧ State.reset.obj = [] ∧
  State.reset.tiles = [] ∧ State.reset.sess = [] ∧ State.reset.ports = [] ∧
  State.reset.guard.safe = [0] ∧ State.reset.pw = pwEclosion ∧ State.reset.pwr.stage = 1

/-- The canonical form of the register, tile, session and port maps is an invariant: every step from a state that has it
leads to a state that has it. -/
def Obligations.CanonicalKept : Prop :=
  ∀ s t : State, Canonical s → step s = .next t → Canonical t

/-- A step takes exactly one command from the queue: it alone leaves, the rest keeps its order, and no command enters. -/
def Obligations.QueueKept : Prop :=
  ∀ s t : State, step s = .next t → t.pending = s.pending.tail

/-- R40, R84–R91: the operations that a program word carries. The spec's worked word reads as its four slots, and the empty
word as none. For every value of their fields, the MAC, store and memory slots, the ALU slot of format 0, the receive and
send fields of format 1, the four AGU fields of format 2 and the LOOP of format 3 stand where the layouts place them. An
ecyc of the engine with an empty queue (log 1). Where no tile may issue, nothing happens. Where one tile may, with no window
service waiting, its word acts and the tile comes to the next one: a word without an operation only passes, and the one
operation of a word acts as its command does. -/
def Obligations.WordsAndCycles : Prop :=

  (∀ (n : Fin 36) (a f g lv : Fin 4) (x y z : Fin 32) (k : Fin 8) (sn : Bool) (c : Fin 16) (lane : Fin 8)
    (cnt : BitVec 16) (last : BitVec 13),
  let p : Slot := ⟨n, 0, ⟨k, sn⟩⟩
  let p0 : Slot := ⟨n, 0, ⟨0, false⟩⟩
  let word (l : List (Nat × Nat)) : PmWord := BitVec.ofNat 128 (l.map (fun e => e.1 * 2 ^ e.2)).sum
  let b := if sn then 1 else 0
  wordOps n 0x04424800_000810C1_14800000_00010800 = [.mac p0 0 8 9 0 2, .rdb p0 3 0 8 ⟨0, 0, []⟩, .rd p0 true 1 9 ⟨0, 0, []⟩, .aguPlusStep p0 0 1] ∧
  wordOps n 0 = [] ∧
  wordOps n (word [(1, 122), (a, 120), (x, 115), (y, 110), (f, 108), (g, 106), (k, 103), (b, 102)]) = [.mac p a x y f g] ∧
  wordOps n (word [(6, 122), (a, 120), (y, 110), (1, 106), (k, 103), (b, 102)]) = [.accshf p a (BitVec.ofNat 6 (32 + y.val))] ∧
  wordOps n (word [(1, 100), (a, 98), (x, 93), (f, 91), (g, 89), (1, 88), (k, 85), (b, 84)]) = [.st p x a f g true] ∧
  wordOps n (word [(2, 82), (c, 78), (x, 73), (lane, 70), (k, 67), (b, 66)]) = [.rdb p lane c x ⟨0, 0, []⟩] ∧
  wordOps n (word [(2, 64), (c, 60), (x, 55), (k, 52), (b, 51)]) = [.wr p c x] ∧
  wordOps n (word [(2, 45), (x, 40), (y, 35), (z, 30), (k, 21), (b, 20)]) = [.add p x y z] ∧
  wordOps n (word [(0x20, 45), (y, 35), (z, 30), (2, 27), (lane, 24), (k, 21), (b, 20)]) = [.cmp p 2 y z lane] ∧
  wordOps n (word [(0x0E, 45), (x, 40), (cnt.toNat, 24), (k, 21), (b, 20)]) = [.ldil p x cnt] ∧
  wordOps n (word [(1, 126), (1, 50), (x, 45), (1, 28), (y, 23), (k, 20), (b, 19)]) = [.txbSend p0 0 x, .txbReceive p 1 y 0] ∧
  wordOps n (word [(2, 126), (c, 47), (1, 42), (c, 38), (2, 33), (c, 29), (16 + c.val, 24), (c, 20), (1, 15), (1, 8), (z, 3)]) =
    [.aguPlusStep p0 0 c, .aguMinusStep p0 1 c, .aguImmediate p0 2 c (BitVec.ofNat 4 c.val), .aguPlusStep p0 3 c, .txbSend p0 1 z] ∧
  wordOps n (word [(3, 126), (1, 49), (lv, 47), (cnt.toNat, 31), (last.toNat, 18)]) = [.loop p0 lv cnt last]) ∧
  (∀ (s u : State) (p : Fin 36) (c : Instr), Canonical s → s.pending = [] →
  let may (q : Fin 36) : Bool := s.canIssue ⟨q, 0, ⟨0, false⟩⟩
  let w := mapGet (fun _ => 0) (s.tile p).pm (s.tile p).ip
  let quiet (v : State) : Prop := exec (.checkpointCycle p 0) v = .next v ∧ exec (.t3WindowService p 0) v = .next v
  let passed (v : State) : State := (v.setTile p (v.tile p).tick).pmReport p
  ((∀ q, may q = false) → step s = .next s) ∧
  (may p = true → (∀ q, q ≠ p → may q = false) →
    (wordOps p w = [] → quiet s → step s = .next (passed s) ∧ ((passed s).tile p).cyc = (s.tile p).cyc + 1) ∧
    (wordOps p w = [c] → exec c s = .next u → quiet u → step s = .next (passed u))))
end

