-- ==== Sys2Proof/Laws/Maps.lean ====
section
/-!
SUPPORT. What the operations on sparse maps do: a read after a write, and the canonical form that every write keeps.
-/

namespace Sys2Proof.Machine

variable {α : Type}

/-- In a canonical map whose keys lie at `lo` or above, a key below `lo` reads its default. -/
theorem mapGet_below [DecidableEq α] (d : Nat → α) {m : SMap α} {lo k : Nat} (h : mapWfFrom d lo m = true) (hk : k < lo) :
    mapGet d m k = d k := by
  cases m with
  | nil => rfl
  | cons e r =>
    obtain ⟨i, w⟩ := e
    simp only [mapWfFrom, Bool.and_eq_true, decide_eq_true_eq] at h
    have : ¬k = i := by omega
    have : k < i := by omega
    simp [mapGet, *]

/-- A canonical map stays canonical for a lower bound. -/
theorem mapWfFrom_mono [DecidableEq α] (d : Nat → α) {m : SMap α} {lo lo' : Nat} (h : mapWfFrom d lo m = true) (hl : lo' ≤ lo) :
    mapWfFrom d lo' m = true := by
  cases m with
  | nil => rfl
  | cons e r =>
    simp only [mapWfFrom, Bool.and_eq_true, decide_eq_true_eq] at h ⊢
    exact ⟨⟨by omega, h.1.2⟩, h.2⟩

/-- Inserting a value that is not the default keeps the canonical form. -/
theorem mapPut_wfFrom [DecidableEq α] (d : Nat → α) {k : Nat} {v : α} (hv : v ≠ d k) :
    ∀ {m : SMap α} {lo : Nat}, mapWfFrom d lo m = true → lo ≤ k → mapWfFrom d lo (mapPut k v m) = true
  | [], lo, _, hk => by simp [mapPut, mapWfFrom, hv, hk]
  | (i, w) :: r, lo, h, hk => by
    simp only [mapWfFrom, Bool.and_eq_true, decide_eq_true_eq] at h
    simp only [mapPut]
    split
    · next e => subst e; simp [mapWfFrom, hv, hk, h.2]
    · split
      · simp only [mapWfFrom, Bool.and_eq_true, decide_eq_true_eq]
        exact ⟨⟨hk, hv⟩, ⟨by omega, h.1.2⟩, h.2⟩
      · simp only [mapWfFrom, Bool.and_eq_true, decide_eq_true_eq]
        exact ⟨h.1, mapPut_wfFrom d hv h.2 (by omega)⟩

/-- Removing a key keeps the canonical form. -/
theorem mapDel_wfFrom [DecidableEq α] (d : Nat → α) (k : Nat) :
    ∀ {m : SMap α} {lo : Nat}, mapWfFrom d lo m = true → mapWfFrom d lo (mapDel k m) = true
  | [], _, _ => rfl
  | (i, w) :: r, lo, h => by
    have h' := h
    simp only [mapWfFrom, Bool.and_eq_true, decide_eq_true_eq] at h
    simp only [mapDel]
    split
    · exact mapWfFrom_mono d h.2 (by omega)
    · split
      · exact h'
      · simp only [mapWfFrom, Bool.and_eq_true, decide_eq_true_eq]
        exact ⟨h.1, mapDel_wfFrom d k h.2⟩

/-- A write keeps the canonical form. -/
theorem mapSet_wf [DecidableEq α] (d : Nat → α) (m : SMap α) (k : Nat) (v : α) (h : mapWf d m = true) :
    mapWf d (mapSet d m k v) = true := by
  unfold mapSet
  split
  · exact mapDel_wfFrom d k h
  · next hv => exact mapPut_wfFrom d hv h (Nat.zero_le _)

/-- Modifying a value keeps the canonical form. -/
theorem mapMod_wf [DecidableEq α] (d : Nat → α) (m : SMap α) (k : Nat) (f : α → α) (h : mapWf d m = true) :
    mapWf d (mapMod d m k f) = true := mapSet_wf d m k _ h

/-- Writing consecutive keys keeps the canonical form. -/
theorem mapSetFrom_wf [DecidableEq α] (d : Nat → α) :
    ∀ (l : List α) (m : SMap α) (k : Nat), mapWf d m = true → mapWf d (mapSetFrom d m k l) = true
  | [], _, _, h => h
  | v :: r, m, k, h => mapSetFrom_wf d r _ _ (mapSet_wf d m k v h)

/-- Dropping entries keeps the canonical form. -/
theorem mapFilter_wfFrom [DecidableEq α] (d : Nat → α) (p : Nat × α → Bool) :
    ∀ {m : SMap α} {lo : Nat}, mapWfFrom d lo m = true → mapWfFrom d lo (m.filter p) = true
  | [], _, _ => rfl
  | (i, w) :: r, lo, h => by
    simp only [mapWfFrom, Bool.and_eq_true, decide_eq_true_eq] at h
    rw [List.filter_cons]
    split
    · simp only [mapWfFrom, Bool.and_eq_true, decide_eq_true_eq]
      exact ⟨h.1, mapFilter_wfFrom d p h.2⟩
    · exact mapWfFrom_mono d (mapFilter_wfFrom d p h.2) (by omega)

/-- A read after an insertion. -/
theorem mapGet_mapPut (d : Nat → α) (k j : Nat) (v : α) :
    ∀ m : SMap α, mapGet d (mapPut k v m) j = if j = k then v else mapGet d m j
  | [] => by simp only [mapPut, mapGet]; repeat' split <;> simp_all
  | (i, w) :: r => by
    have hr := mapGet_mapPut d k j v r
    by_cases e : k = i
    · subst e
      simp only [mapPut, mapGet, if_true]
      by_cases hj : j = k <;> simp [hj]
    · by_cases l : k < i
      · simp only [mapPut, mapGet, e, l, if_true, if_false]
        by_cases hj : j = k
        · simp [hj]
        · by_cases hl : j < k
          · have : ¬j = i := by omega
            have : j < i := by omega
            simp [*]
          · simp [hj, hl]
      · simp only [mapPut, mapGet, e, l, if_false, hr]
        by_cases hj : j = k
        · subst hj; simp [e, l]
        · simp [hj]

/-- A read after a removal, in a canonical map. -/
theorem mapGet_mapDel [DecidableEq α] (d : Nat → α) (k j : Nat) :
    ∀ {m : SMap α} {lo : Nat}, mapWfFrom d lo m = true → mapGet d (mapDel k m) j = if j = k then d k else mapGet d m j
  | [], _, _ => by simp only [mapDel, mapGet]; split <;> simp_all
  | (i, w) :: r, lo, h => by
    simp only [mapWfFrom, Bool.and_eq_true, decide_eq_true_eq] at h
    simp only [mapDel]
    split
    · next e =>
      subst e
      split
      · next e => subst e; exact mapGet_below d h.2 (by omega)
      · simp only [mapGet]
        split
        · omega
        · split
          · exact mapGet_below d h.2 (by omega)
          · rfl
    · split
      · simp only [mapGet]
        repeat' split
        all_goals first | rfl | omega | simp_all
      · have hr := mapGet_mapDel d k j h.2
        simp only [mapGet, hr]
        repeat' split
        all_goals first | rfl | omega

/-- A read after a write to the same key gives the value, whatever the map. -/
theorem mapGet_mapSet [DecidableEq α] (d : Nat → α) {m : SMap α} (h : mapWf d m = true) (k j : Nat) (v : α) :
    mapGet d (mapSet d m k v) j = if j = k then v else mapGet d m j := by
  unfold mapSet
  split
  · next e => subst e; exact mapGet_mapDel d k j h
  · exact mapGet_mapPut d k j v m

end Sys2Proof.Machine
end

