-- ==== Sys2Proof/Laws/State.lean ====
section
/-!
SUPPORT. What each update of the state leaves of every field, so that no later proof unfolds a record update.
-/

namespace Sys2Proof.Machine

variable (s : State)

@[simp] theorem State.put_obj (o : Nat) (v : Word) : (s.put o v).obj = mapSet oidDflt s.obj o v := rfl
@[simp] theorem State.put_ps (o : Nat) (v : Word) : (s.put o v).ps = s.ps := rfl
@[simp] theorem State.put_tiles (o : Nat) (v : Word) : (s.put o v).tiles = s.tiles := rfl
@[simp] theorem State.put_img (o : Nat) (v : Word) : (s.put o v).img = s.img := rfl
@[simp] theorem State.put_mix (o : Nat) (v : Word) : (s.put o v).mix = s.mix := rfl
@[simp] theorem State.put_moult (o : Nat) (v : Word) : (s.put o v).moult = s.moult := rfl
@[simp] theorem State.put_dmem (o : Nat) (v : Word) : (s.put o v).dmem = s.dmem := rfl
@[simp] theorem State.put_conv (o : Nat) (v : Word) : (s.put o v).conv = s.conv := rfl
@[simp] theorem State.put_ports (o : Nat) (v : Word) : (s.put o v).ports = s.ports := rfl
@[simp] theorem State.put_aligns (o : Nat) (v : Word) : (s.put o v).aligns = s.aligns := rfl
@[simp] theorem State.put_shares (o : Nat) (v : Word) : (s.put o v).shares = s.shares := rfl
@[simp] theorem State.put_clk (o : Nat) (v : Word) : (s.put o v).clk = s.clk := rfl
@[simp] theorem State.put_time (o : Nat) (v : Word) : (s.put o v).time = s.time := rfl
@[simp] theorem State.put_net (o : Nat) (v : Word) : (s.put o v).net = s.net := rfl
@[simp] theorem State.put_host (o : Nat) (v : Word) : (s.put o v).host = s.host := rfl
@[simp] theorem State.put_twin (o : Nat) (v : Word) : (s.put o v).twin = s.twin := rfl
@[simp] theorem State.put_guard (o : Nat) (v : Word) : (s.put o v).guard = s.guard := rfl
@[simp] theorem State.put_pwr (o : Nat) (v : Word) : (s.put o v).pwr = s.pwr := rfl
@[simp] theorem State.put_jnl (o : Nat) (v : Word) : (s.put o v).jnl = s.jnl := rfl
@[simp] theorem State.put_sess (o : Nat) (v : Word) : (s.put o v).sess = s.sess := rfl
@[simp] theorem State.put_faultQ (o : Nat) (v : Word) : (s.put o v).faultQ = s.faultQ := rfl
@[simp] theorem State.put_marks (o : Nat) (v : Word) : (s.put o v).marks = s.marks := rfl
@[simp] theorem State.put_grainInstar (o : Nat) (v : Word) : (s.put o v).grainInstar = s.grainInstar := rfl
@[simp] theorem State.put_freeCtr (o : Nat) (v : Word) : (s.put o v).freeCtr = s.freeCtr := rfl
@[simp] theorem State.put_answer (o : Nat) (v : Word) : (s.put o v).answer = s.answer := rfl
@[simp] theorem State.put_pending (o : Nat) (v : Word) : (s.put o v).pending = s.pending := rfl

@[simp] theorem State.setTile_obj (n : Nat) (t : Tile) : (s.setTile n t).obj = s.obj := rfl
@[simp] theorem State.setTile_ps (n : Nat) (t : Tile) : (s.setTile n t).ps = s.ps := rfl
@[simp] theorem State.setTile_tiles (n : Nat) (t : Tile) : (s.setTile n t).tiles = mapSet (fun _ => {}) s.tiles n t := rfl
@[simp] theorem State.setTile_img (n : Nat) (t : Tile) : (s.setTile n t).img = s.img := rfl
@[simp] theorem State.setTile_mix (n : Nat) (t : Tile) : (s.setTile n t).mix = s.mix := rfl
@[simp] theorem State.setTile_moult (n : Nat) (t : Tile) : (s.setTile n t).moult = s.moult := rfl
@[simp] theorem State.setTile_dmem (n : Nat) (t : Tile) : (s.setTile n t).dmem = s.dmem := rfl
@[simp] theorem State.setTile_conv (n : Nat) (t : Tile) : (s.setTile n t).conv = s.conv := rfl
@[simp] theorem State.setTile_ports (n : Nat) (t : Tile) : (s.setTile n t).ports = s.ports := rfl
@[simp] theorem State.setTile_aligns (n : Nat) (t : Tile) : (s.setTile n t).aligns = s.aligns := rfl
@[simp] theorem State.setTile_shares (n : Nat) (t : Tile) : (s.setTile n t).shares = s.shares := rfl
@[simp] theorem State.setTile_clk (n : Nat) (t : Tile) : (s.setTile n t).clk = s.clk := rfl
@[simp] theorem State.setTile_time (n : Nat) (t : Tile) : (s.setTile n t).time = s.time := rfl
@[simp] theorem State.setTile_net (n : Nat) (t : Tile) : (s.setTile n t).net = s.net := rfl
@[simp] theorem State.setTile_host (n : Nat) (t : Tile) : (s.setTile n t).host = s.host := rfl
@[simp] theorem State.setTile_twin (n : Nat) (t : Tile) : (s.setTile n t).twin = s.twin := rfl
@[simp] theorem State.setTile_guard (n : Nat) (t : Tile) : (s.setTile n t).guard = s.guard := rfl
@[simp] theorem State.setTile_pwr (n : Nat) (t : Tile) : (s.setTile n t).pwr = s.pwr := rfl
@[simp] theorem State.setTile_jnl (n : Nat) (t : Tile) : (s.setTile n t).jnl = s.jnl := rfl
@[simp] theorem State.setTile_sess (n : Nat) (t : Tile) : (s.setTile n t).sess = s.sess := rfl
@[simp] theorem State.setTile_faultQ (n : Nat) (t : Tile) : (s.setTile n t).faultQ = s.faultQ := rfl
@[simp] theorem State.setTile_marks (n : Nat) (t : Tile) : (s.setTile n t).marks = s.marks := rfl
@[simp] theorem State.setTile_grainInstar (n : Nat) (t : Tile) : (s.setTile n t).grainInstar = s.grainInstar := rfl
@[simp] theorem State.setTile_freeCtr (n : Nat) (t : Tile) : (s.setTile n t).freeCtr = s.freeCtr := rfl
@[simp] theorem State.setTile_answer (n : Nat) (t : Tile) : (s.setTile n t).answer = s.answer := rfl
@[simp] theorem State.setTile_pending (n : Nat) (t : Tile) : (s.setTile n t).pending = s.pending := rfl

@[simp] theorem State.setSes_obj (n : Nat) (q : Session) : (s.setSes n q).obj = s.obj := rfl
@[simp] theorem State.setSes_ps (n : Nat) (q : Session) : (s.setSes n q).ps = s.ps := rfl
@[simp] theorem State.setSes_tiles (n : Nat) (q : Session) : (s.setSes n q).tiles = s.tiles := rfl
@[simp] theorem State.setSes_img (n : Nat) (q : Session) : (s.setSes n q).img = s.img := rfl
@[simp] theorem State.setSes_mix (n : Nat) (q : Session) : (s.setSes n q).mix = s.mix := rfl
@[simp] theorem State.setSes_moult (n : Nat) (q : Session) : (s.setSes n q).moult = s.moult := rfl
@[simp] theorem State.setSes_dmem (n : Nat) (q : Session) : (s.setSes n q).dmem = s.dmem := rfl
@[simp] theorem State.setSes_conv (n : Nat) (q : Session) : (s.setSes n q).conv = s.conv := rfl
@[simp] theorem State.setSes_ports (n : Nat) (q : Session) : (s.setSes n q).ports = s.ports := rfl
@[simp] theorem State.setSes_aligns (n : Nat) (q : Session) : (s.setSes n q).aligns = s.aligns := rfl
@[simp] theorem State.setSes_shares (n : Nat) (q : Session) : (s.setSes n q).shares = s.shares := rfl
@[simp] theorem State.setSes_clk (n : Nat) (q : Session) : (s.setSes n q).clk = s.clk := rfl
@[simp] theorem State.setSes_time (n : Nat) (q : Session) : (s.setSes n q).time = s.time := rfl
@[simp] theorem State.setSes_net (n : Nat) (q : Session) : (s.setSes n q).net = s.net := rfl
@[simp] theorem State.setSes_host (n : Nat) (q : Session) : (s.setSes n q).host = s.host := rfl
@[simp] theorem State.setSes_twin (n : Nat) (q : Session) : (s.setSes n q).twin = s.twin := rfl
@[simp] theorem State.setSes_guard (n : Nat) (q : Session) : (s.setSes n q).guard = s.guard := rfl
@[simp] theorem State.setSes_pwr (n : Nat) (q : Session) : (s.setSes n q).pwr = s.pwr := rfl
@[simp] theorem State.setSes_jnl (n : Nat) (q : Session) : (s.setSes n q).jnl = s.jnl := rfl
@[simp] theorem State.setSes_sess (n : Nat) (q : Session) : (s.setSes n q).sess = mapSet (fun _ => {}) s.sess n q := rfl
@[simp] theorem State.setSes_faultQ (n : Nat) (q : Session) : (s.setSes n q).faultQ = s.faultQ := rfl
@[simp] theorem State.setSes_marks (n : Nat) (q : Session) : (s.setSes n q).marks = s.marks := rfl
@[simp] theorem State.setSes_grainInstar (n : Nat) (q : Session) : (s.setSes n q).grainInstar = s.grainInstar := rfl
@[simp] theorem State.setSes_freeCtr (n : Nat) (q : Session) : (s.setSes n q).freeCtr = s.freeCtr := rfl
@[simp] theorem State.setSes_answer (n : Nat) (q : Session) : (s.setSes n q).answer = s.answer := rfl
@[simp] theorem State.setSes_pending (n : Nat) (q : Session) : (s.setSes n q).pending = s.pending := rfl

@[simp] theorem State.setPort_obj (n : Nat) (x : Port) : (s.setPort n x).obj = s.obj := rfl
@[simp] theorem State.setPort_ps (n : Nat) (x : Port) : (s.setPort n x).ps = s.ps := rfl
@[simp] theorem State.setPort_tiles (n : Nat) (x : Port) : (s.setPort n x).tiles = s.tiles := rfl
@[simp] theorem State.setPort_img (n : Nat) (x : Port) : (s.setPort n x).img = s.img := rfl
@[simp] theorem State.setPort_mix (n : Nat) (x : Port) : (s.setPort n x).mix = s.mix := rfl
@[simp] theorem State.setPort_moult (n : Nat) (x : Port) : (s.setPort n x).moult = s.moult := rfl
@[simp] theorem State.setPort_dmem (n : Nat) (x : Port) : (s.setPort n x).dmem = s.dmem := rfl
@[simp] theorem State.setPort_conv (n : Nat) (x : Port) : (s.setPort n x).conv = s.conv := rfl
@[simp] theorem State.setPort_ports (n : Nat) (x : Port) : (s.setPort n x).ports = mapSet (fun _ => {}) s.ports n x := rfl
@[simp] theorem State.setPort_aligns (n : Nat) (x : Port) : (s.setPort n x).aligns = s.aligns := rfl
@[simp] theorem State.setPort_shares (n : Nat) (x : Port) : (s.setPort n x).shares = s.shares := rfl
@[simp] theorem State.setPort_clk (n : Nat) (x : Port) : (s.setPort n x).clk = s.clk := rfl
@[simp] theorem State.setPort_time (n : Nat) (x : Port) : (s.setPort n x).time = s.time := rfl
@[simp] theorem State.setPort_net (n : Nat) (x : Port) : (s.setPort n x).net = s.net := rfl
@[simp] theorem State.setPort_host (n : Nat) (x : Port) : (s.setPort n x).host = s.host := rfl
@[simp] theorem State.setPort_twin (n : Nat) (x : Port) : (s.setPort n x).twin = s.twin := rfl
@[simp] theorem State.setPort_guard (n : Nat) (x : Port) : (s.setPort n x).guard = s.guard := rfl
@[simp] theorem State.setPort_pwr (n : Nat) (x : Port) : (s.setPort n x).pwr = s.pwr := rfl
@[simp] theorem State.setPort_jnl (n : Nat) (x : Port) : (s.setPort n x).jnl = s.jnl := rfl
@[simp] theorem State.setPort_sess (n : Nat) (x : Port) : (s.setPort n x).sess = s.sess := rfl
@[simp] theorem State.setPort_faultQ (n : Nat) (x : Port) : (s.setPort n x).faultQ = s.faultQ := rfl
@[simp] theorem State.setPort_marks (n : Nat) (x : Port) : (s.setPort n x).marks = s.marks := rfl
@[simp] theorem State.setPort_grainInstar (n : Nat) (x : Port) : (s.setPort n x).grainInstar = s.grainInstar := rfl
@[simp] theorem State.setPort_freeCtr (n : Nat) (x : Port) : (s.setPort n x).freeCtr = s.freeCtr := rfl
@[simp] theorem State.setPort_answer (n : Nat) (x : Port) : (s.setPort n x).answer = s.answer := rfl
@[simp] theorem State.setPort_pending (n : Nat) (x : Port) : (s.setPort n x).pending = s.pending := rfl

@[simp] theorem State.setPe_obj (n : Nat) (e : PsEntry) : (s.setPe n e).obj = s.obj := rfl
@[simp] theorem State.setPe_ps (n : Nat) (e : PsEntry) : (s.setPe n e).ps = mapSet psDflt s.ps n e := rfl
@[simp] theorem State.setPe_tiles (n : Nat) (e : PsEntry) : (s.setPe n e).tiles = s.tiles := rfl
@[simp] theorem State.setPe_img (n : Nat) (e : PsEntry) : (s.setPe n e).img = s.img := rfl
@[simp] theorem State.setPe_mix (n : Nat) (e : PsEntry) : (s.setPe n e).mix = s.mix := rfl
@[simp] theorem State.setPe_moult (n : Nat) (e : PsEntry) : (s.setPe n e).moult = s.moult := rfl
@[simp] theorem State.setPe_dmem (n : Nat) (e : PsEntry) : (s.setPe n e).dmem = s.dmem := rfl
@[simp] theorem State.setPe_conv (n : Nat) (e : PsEntry) : (s.setPe n e).conv = s.conv := rfl
@[simp] theorem State.setPe_ports (n : Nat) (e : PsEntry) : (s.setPe n e).ports = s.ports := rfl
@[simp] theorem State.setPe_aligns (n : Nat) (e : PsEntry) : (s.setPe n e).aligns = s.aligns := rfl
@[simp] theorem State.setPe_shares (n : Nat) (e : PsEntry) : (s.setPe n e).shares = s.shares := rfl
@[simp] theorem State.setPe_clk (n : Nat) (e : PsEntry) : (s.setPe n e).clk = s.clk := rfl
@[simp] theorem State.setPe_time (n : Nat) (e : PsEntry) : (s.setPe n e).time = s.time := rfl
@[simp] theorem State.setPe_net (n : Nat) (e : PsEntry) : (s.setPe n e).net = s.net := rfl
@[simp] theorem State.setPe_host (n : Nat) (e : PsEntry) : (s.setPe n e).host = s.host := rfl
@[simp] theorem State.setPe_twin (n : Nat) (e : PsEntry) : (s.setPe n e).twin = s.twin := rfl
@[simp] theorem State.setPe_guard (n : Nat) (e : PsEntry) : (s.setPe n e).guard = s.guard := rfl
@[simp] theorem State.setPe_pwr (n : Nat) (e : PsEntry) : (s.setPe n e).pwr = s.pwr := rfl
@[simp] theorem State.setPe_jnl (n : Nat) (e : PsEntry) : (s.setPe n e).jnl = s.jnl := rfl
@[simp] theorem State.setPe_sess (n : Nat) (e : PsEntry) : (s.setPe n e).sess = s.sess := rfl
@[simp] theorem State.setPe_faultQ (n : Nat) (e : PsEntry) : (s.setPe n e).faultQ = s.faultQ := rfl
@[simp] theorem State.setPe_marks (n : Nat) (e : PsEntry) : (s.setPe n e).marks = s.marks := rfl
@[simp] theorem State.setPe_grainInstar (n : Nat) (e : PsEntry) : (s.setPe n e).grainInstar = s.grainInstar := rfl
@[simp] theorem State.setPe_freeCtr (n : Nat) (e : PsEntry) : (s.setPe n e).freeCtr = s.freeCtr := rfl
@[simp] theorem State.setPe_answer (n : Nat) (e : PsEntry) : (s.setPe n e).answer = s.answer := rfl
@[simp] theorem State.setPe_pending (n : Nat) (e : PsEntry) : (s.setPe n e).pending = s.pending := rfl

@[simp] theorem State.setNet_obj (n : NetSt) : (s.setNet n).obj = s.obj := rfl
@[simp] theorem State.setNet_ps (n : NetSt) : (s.setNet n).ps = s.ps := rfl
@[simp] theorem State.setNet_tiles (n : NetSt) : (s.setNet n).tiles = s.tiles := rfl
@[simp] theorem State.setNet_img (n : NetSt) : (s.setNet n).img = s.img := rfl
@[simp] theorem State.setNet_mix (n : NetSt) : (s.setNet n).mix = s.mix := rfl
@[simp] theorem State.setNet_moult (n : NetSt) : (s.setNet n).moult = s.moult := rfl
@[simp] theorem State.setNet_dmem (n : NetSt) : (s.setNet n).dmem = s.dmem := rfl
@[simp] theorem State.setNet_conv (n : NetSt) : (s.setNet n).conv = s.conv := rfl
@[simp] theorem State.setNet_ports (n : NetSt) : (s.setNet n).ports = s.ports := rfl
@[simp] theorem State.setNet_aligns (n : NetSt) : (s.setNet n).aligns = s.aligns := rfl
@[simp] theorem State.setNet_shares (n : NetSt) : (s.setNet n).shares = s.shares := rfl
@[simp] theorem State.setNet_clk (n : NetSt) : (s.setNet n).clk = s.clk := rfl
@[simp] theorem State.setNet_time (n : NetSt) : (s.setNet n).time = s.time := rfl
@[simp] theorem State.setNet_net (n : NetSt) : (s.setNet n).net = n := rfl
@[simp] theorem State.setNet_host (n : NetSt) : (s.setNet n).host = s.host := rfl
@[simp] theorem State.setNet_twin (n : NetSt) : (s.setNet n).twin = s.twin := rfl
@[simp] theorem State.setNet_guard (n : NetSt) : (s.setNet n).guard = s.guard := rfl
@[simp] theorem State.setNet_pwr (n : NetSt) : (s.setNet n).pwr = s.pwr := rfl
@[simp] theorem State.setNet_jnl (n : NetSt) : (s.setNet n).jnl = s.jnl := rfl
@[simp] theorem State.setNet_sess (n : NetSt) : (s.setNet n).sess = s.sess := rfl
@[simp] theorem State.setNet_faultQ (n : NetSt) : (s.setNet n).faultQ = s.faultQ := rfl
@[simp] theorem State.setNet_marks (n : NetSt) : (s.setNet n).marks = s.marks := rfl
@[simp] theorem State.setNet_grainInstar (n : NetSt) : (s.setNet n).grainInstar = s.grainInstar := rfl
@[simp] theorem State.setNet_freeCtr (n : NetSt) : (s.setNet n).freeCtr = s.freeCtr := rfl
@[simp] theorem State.setNet_answer (n : NetSt) : (s.setNet n).answer = s.answer := rfl
@[simp] theorem State.setNet_pending (n : NetSt) : (s.setNet n).pending = s.pending := rfl

@[simp] theorem State.setTime_obj (x : TimeSt) : (s.setTime x).obj = s.obj := rfl
@[simp] theorem State.setTime_ps (x : TimeSt) : (s.setTime x).ps = s.ps := rfl
@[simp] theorem State.setTime_tiles (x : TimeSt) : (s.setTime x).tiles = s.tiles := rfl
@[simp] theorem State.setTime_img (x : TimeSt) : (s.setTime x).img = s.img := rfl
@[simp] theorem State.setTime_mix (x : TimeSt) : (s.setTime x).mix = s.mix := rfl
@[simp] theorem State.setTime_moult (x : TimeSt) : (s.setTime x).moult = s.moult := rfl
@[simp] theorem State.setTime_dmem (x : TimeSt) : (s.setTime x).dmem = s.dmem := rfl
@[simp] theorem State.setTime_conv (x : TimeSt) : (s.setTime x).conv = s.conv := rfl
@[simp] theorem State.setTime_ports (x : TimeSt) : (s.setTime x).ports = s.ports := rfl
@[simp] theorem State.setTime_aligns (x : TimeSt) : (s.setTime x).aligns = s.aligns := rfl
@[simp] theorem State.setTime_shares (x : TimeSt) : (s.setTime x).shares = s.shares := rfl
@[simp] theorem State.setTime_clk (x : TimeSt) : (s.setTime x).clk = s.clk := rfl
@[simp] theorem State.setTime_time (x : TimeSt) : (s.setTime x).time = x := rfl
@[simp] theorem State.setTime_net (x : TimeSt) : (s.setTime x).net = s.net := rfl
@[simp] theorem State.setTime_host (x : TimeSt) : (s.setTime x).host = s.host := rfl
@[simp] theorem State.setTime_twin (x : TimeSt) : (s.setTime x).twin = s.twin := rfl
@[simp] theorem State.setTime_guard (x : TimeSt) : (s.setTime x).guard = s.guard := rfl
@[simp] theorem State.setTime_pwr (x : TimeSt) : (s.setTime x).pwr = s.pwr := rfl
@[simp] theorem State.setTime_jnl (x : TimeSt) : (s.setTime x).jnl = s.jnl := rfl
@[simp] theorem State.setTime_sess (x : TimeSt) : (s.setTime x).sess = s.sess := rfl
@[simp] theorem State.setTime_faultQ (x : TimeSt) : (s.setTime x).faultQ = s.faultQ := rfl
@[simp] theorem State.setTime_marks (x : TimeSt) : (s.setTime x).marks = s.marks := rfl
@[simp] theorem State.setTime_grainInstar (x : TimeSt) : (s.setTime x).grainInstar = s.grainInstar := rfl
@[simp] theorem State.setTime_freeCtr (x : TimeSt) : (s.setTime x).freeCtr = s.freeCtr := rfl
@[simp] theorem State.setTime_answer (x : TimeSt) : (s.setTime x).answer = s.answer := rfl
@[simp] theorem State.setTime_pending (x : TimeSt) : (s.setTime x).pending = s.pending := rfl

@[simp] theorem State.setTwin_obj (x : TwinSt) : (s.setTwin x).obj = s.obj := rfl
@[simp] theorem State.setTwin_ps (x : TwinSt) : (s.setTwin x).ps = s.ps := rfl
@[simp] theorem State.setTwin_tiles (x : TwinSt) : (s.setTwin x).tiles = s.tiles := rfl
@[simp] theorem State.setTwin_img (x : TwinSt) : (s.setTwin x).img = s.img := rfl
@[simp] theorem State.setTwin_mix (x : TwinSt) : (s.setTwin x).mix = s.mix := rfl
@[simp] theorem State.setTwin_moult (x : TwinSt) : (s.setTwin x).moult = s.moult := rfl
@[simp] theorem State.setTwin_dmem (x : TwinSt) : (s.setTwin x).dmem = s.dmem := rfl
@[simp] theorem State.setTwin_conv (x : TwinSt) : (s.setTwin x).conv = s.conv := rfl
@[simp] theorem State.setTwin_ports (x : TwinSt) : (s.setTwin x).ports = s.ports := rfl
@[simp] theorem State.setTwin_aligns (x : TwinSt) : (s.setTwin x).aligns = s.aligns := rfl
@[simp] theorem State.setTwin_shares (x : TwinSt) : (s.setTwin x).shares = s.shares := rfl
@[simp] theorem State.setTwin_clk (x : TwinSt) : (s.setTwin x).clk = s.clk := rfl
@[simp] theorem State.setTwin_time (x : TwinSt) : (s.setTwin x).time = s.time := rfl
@[simp] theorem State.setTwin_net (x : TwinSt) : (s.setTwin x).net = s.net := rfl
@[simp] theorem State.setTwin_host (x : TwinSt) : (s.setTwin x).host = s.host := rfl
@[simp] theorem State.setTwin_twin (x : TwinSt) : (s.setTwin x).twin = x := rfl
@[simp] theorem State.setTwin_guard (x : TwinSt) : (s.setTwin x).guard = s.guard := rfl
@[simp] theorem State.setTwin_pwr (x : TwinSt) : (s.setTwin x).pwr = s.pwr := rfl
@[simp] theorem State.setTwin_jnl (x : TwinSt) : (s.setTwin x).jnl = s.jnl := rfl
@[simp] theorem State.setTwin_sess (x : TwinSt) : (s.setTwin x).sess = s.sess := rfl
@[simp] theorem State.setTwin_faultQ (x : TwinSt) : (s.setTwin x).faultQ = s.faultQ := rfl
@[simp] theorem State.setTwin_marks (x : TwinSt) : (s.setTwin x).marks = s.marks := rfl
@[simp] theorem State.setTwin_grainInstar (x : TwinSt) : (s.setTwin x).grainInstar = s.grainInstar := rfl
@[simp] theorem State.setTwin_freeCtr (x : TwinSt) : (s.setTwin x).freeCtr = s.freeCtr := rfl
@[simp] theorem State.setTwin_answer (x : TwinSt) : (s.setTwin x).answer = s.answer := rfl
@[simp] theorem State.setTwin_pending (x : TwinSt) : (s.setTwin x).pending = s.pending := rfl

@[simp] theorem State.setGuard_obj (x : GuardSt) : (s.setGuard x).obj = s.obj := rfl
@[simp] theorem State.setGuard_ps (x : GuardSt) : (s.setGuard x).ps = s.ps := rfl
@[simp] theorem State.setGuard_tiles (x : GuardSt) : (s.setGuard x).tiles = s.tiles := rfl
@[simp] theorem State.setGuard_img (x : GuardSt) : (s.setGuard x).img = s.img := rfl
@[simp] theorem State.setGuard_mix (x : GuardSt) : (s.setGuard x).mix = s.mix := rfl
@[simp] theorem State.setGuard_moult (x : GuardSt) : (s.setGuard x).moult = s.moult := rfl
@[simp] theorem State.setGuard_dmem (x : GuardSt) : (s.setGuard x).dmem = s.dmem := rfl
@[simp] theorem State.setGuard_conv (x : GuardSt) : (s.setGuard x).conv = s.conv := rfl
@[simp] theorem State.setGuard_ports (x : GuardSt) : (s.setGuard x).ports = s.ports := rfl
@[simp] theorem State.setGuard_aligns (x : GuardSt) : (s.setGuard x).aligns = s.aligns := rfl
@[simp] theorem State.setGuard_shares (x : GuardSt) : (s.setGuard x).shares = s.shares := rfl
@[simp] theorem State.setGuard_clk (x : GuardSt) : (s.setGuard x).clk = s.clk := rfl
@[simp] theorem State.setGuard_time (x : GuardSt) : (s.setGuard x).time = s.time := rfl
@[simp] theorem State.setGuard_net (x : GuardSt) : (s.setGuard x).net = s.net := rfl
@[simp] theorem State.setGuard_host (x : GuardSt) : (s.setGuard x).host = s.host := rfl
@[simp] theorem State.setGuard_twin (x : GuardSt) : (s.setGuard x).twin = s.twin := rfl
@[simp] theorem State.setGuard_guard (x : GuardSt) : (s.setGuard x).guard = x := rfl
@[simp] theorem State.setGuard_pwr (x : GuardSt) : (s.setGuard x).pwr = s.pwr := rfl
@[simp] theorem State.setGuard_jnl (x : GuardSt) : (s.setGuard x).jnl = s.jnl := rfl
@[simp] theorem State.setGuard_sess (x : GuardSt) : (s.setGuard x).sess = s.sess := rfl
@[simp] theorem State.setGuard_faultQ (x : GuardSt) : (s.setGuard x).faultQ = s.faultQ := rfl
@[simp] theorem State.setGuard_marks (x : GuardSt) : (s.setGuard x).marks = s.marks := rfl
@[simp] theorem State.setGuard_grainInstar (x : GuardSt) : (s.setGuard x).grainInstar = s.grainInstar := rfl
@[simp] theorem State.setGuard_freeCtr (x : GuardSt) : (s.setGuard x).freeCtr = s.freeCtr := rfl
@[simp] theorem State.setGuard_answer (x : GuardSt) : (s.setGuard x).answer = s.answer := rfl
@[simp] theorem State.setGuard_pending (x : GuardSt) : (s.setGuard x).pending = s.pending := rfl

@[simp] theorem State.setPwr_obj (x : PowerSt) : (s.setPwr x).obj = s.obj := rfl
@[simp] theorem State.setPwr_ps (x : PowerSt) : (s.setPwr x).ps = s.ps := rfl
@[simp] theorem State.setPwr_tiles (x : PowerSt) : (s.setPwr x).tiles = s.tiles := rfl
@[simp] theorem State.setPwr_img (x : PowerSt) : (s.setPwr x).img = s.img := rfl
@[simp] theorem State.setPwr_mix (x : PowerSt) : (s.setPwr x).mix = s.mix := rfl
@[simp] theorem State.setPwr_moult (x : PowerSt) : (s.setPwr x).moult = s.moult := rfl
@[simp] theorem State.setPwr_dmem (x : PowerSt) : (s.setPwr x).dmem = s.dmem := rfl
@[simp] theorem State.setPwr_conv (x : PowerSt) : (s.setPwr x).conv = s.conv := rfl
@[simp] theorem State.setPwr_ports (x : PowerSt) : (s.setPwr x).ports = s.ports := rfl
@[simp] theorem State.setPwr_aligns (x : PowerSt) : (s.setPwr x).aligns = s.aligns := rfl
@[simp] theorem State.setPwr_shares (x : PowerSt) : (s.setPwr x).shares = s.shares := rfl
@[simp] theorem State.setPwr_clk (x : PowerSt) : (s.setPwr x).clk = s.clk := rfl
@[simp] theorem State.setPwr_time (x : PowerSt) : (s.setPwr x).time = s.time := rfl
@[simp] theorem State.setPwr_net (x : PowerSt) : (s.setPwr x).net = s.net := rfl
@[simp] theorem State.setPwr_host (x : PowerSt) : (s.setPwr x).host = s.host := rfl
@[simp] theorem State.setPwr_twin (x : PowerSt) : (s.setPwr x).twin = s.twin := rfl
@[simp] theorem State.setPwr_guard (x : PowerSt) : (s.setPwr x).guard = s.guard := rfl
@[simp] theorem State.setPwr_pwr (x : PowerSt) : (s.setPwr x).pwr = x := rfl
@[simp] theorem State.setPwr_jnl (x : PowerSt) : (s.setPwr x).jnl = s.jnl := rfl
@[simp] theorem State.setPwr_sess (x : PowerSt) : (s.setPwr x).sess = s.sess := rfl
@[simp] theorem State.setPwr_faultQ (x : PowerSt) : (s.setPwr x).faultQ = s.faultQ := rfl
@[simp] theorem State.setPwr_marks (x : PowerSt) : (s.setPwr x).marks = s.marks := rfl
@[simp] theorem State.setPwr_grainInstar (x : PowerSt) : (s.setPwr x).grainInstar = s.grainInstar := rfl
@[simp] theorem State.setPwr_freeCtr (x : PowerSt) : (s.setPwr x).freeCtr = s.freeCtr := rfl
@[simp] theorem State.setPwr_answer (x : PowerSt) : (s.setPwr x).answer = s.answer := rfl
@[simp] theorem State.setPwr_pending (x : PowerSt) : (s.setPwr x).pending = s.pending := rfl

@[simp] theorem State.setJnl_obj (x : JnlSt) : (s.setJnl x).obj = s.obj := rfl
@[simp] theorem State.setJnl_ps (x : JnlSt) : (s.setJnl x).ps = s.ps := rfl
@[simp] theorem State.setJnl_tiles (x : JnlSt) : (s.setJnl x).tiles = s.tiles := rfl
@[simp] theorem State.setJnl_img (x : JnlSt) : (s.setJnl x).img = s.img := rfl
@[simp] theorem State.setJnl_mix (x : JnlSt) : (s.setJnl x).mix = s.mix := rfl
@[simp] theorem State.setJnl_moult (x : JnlSt) : (s.setJnl x).moult = s.moult := rfl
@[simp] theorem State.setJnl_dmem (x : JnlSt) : (s.setJnl x).dmem = s.dmem := rfl
@[simp] theorem State.setJnl_conv (x : JnlSt) : (s.setJnl x).conv = s.conv := rfl
@[simp] theorem State.setJnl_ports (x : JnlSt) : (s.setJnl x).ports = s.ports := rfl
@[simp] theorem State.setJnl_aligns (x : JnlSt) : (s.setJnl x).aligns = s.aligns := rfl
@[simp] theorem State.setJnl_shares (x : JnlSt) : (s.setJnl x).shares = s.shares := rfl
@[simp] theorem State.setJnl_clk (x : JnlSt) : (s.setJnl x).clk = s.clk := rfl
@[simp] theorem State.setJnl_time (x : JnlSt) : (s.setJnl x).time = s.time := rfl
@[simp] theorem State.setJnl_net (x : JnlSt) : (s.setJnl x).net = s.net := rfl
@[simp] theorem State.setJnl_host (x : JnlSt) : (s.setJnl x).host = s.host := rfl
@[simp] theorem State.setJnl_twin (x : JnlSt) : (s.setJnl x).twin = s.twin := rfl
@[simp] theorem State.setJnl_guard (x : JnlSt) : (s.setJnl x).guard = s.guard := rfl
@[simp] theorem State.setJnl_pwr (x : JnlSt) : (s.setJnl x).pwr = s.pwr := rfl
@[simp] theorem State.setJnl_jnl (x : JnlSt) : (s.setJnl x).jnl = x := rfl
@[simp] theorem State.setJnl_sess (x : JnlSt) : (s.setJnl x).sess = s.sess := rfl
@[simp] theorem State.setJnl_faultQ (x : JnlSt) : (s.setJnl x).faultQ = s.faultQ := rfl
@[simp] theorem State.setJnl_marks (x : JnlSt) : (s.setJnl x).marks = s.marks := rfl
@[simp] theorem State.setJnl_grainInstar (x : JnlSt) : (s.setJnl x).grainInstar = s.grainInstar := rfl
@[simp] theorem State.setJnl_freeCtr (x : JnlSt) : (s.setJnl x).freeCtr = s.freeCtr := rfl
@[simp] theorem State.setJnl_answer (x : JnlSt) : (s.setJnl x).answer = s.answer := rfl
@[simp] theorem State.setJnl_pending (x : JnlSt) : (s.setJnl x).pending = s.pending := rfl

end Sys2Proof.Machine
end

