-- ==== Sys2Proof/Laws/Ops.lean ====
section
/-!
SUPPORT. What the shared operations do, each said once: object reads after writes, events, faults, the fault log, slots of
the collections.
-/

namespace Sys2Proof.Machine

/-! ### Objects -/

/-- The object map stays canonical over a write. -/
theorem State.put_wf {s : State} (h : mapWf oidDflt s.obj = true) (o : Nat) (v : Word) :
    mapWf oidDflt (s.put o v).obj = true := mapSet_wf _ _ _ _ h

/-- A read after a write of an object. -/
theorem State.ob_put {s : State} (h : mapWf oidDflt s.obj = true) (o o' : Nat) (v : Word) :
    (s.put o v).ob o' = if o' = o then v else s.ob o' := mapGet_mapSet _ h _ _ _

/-- An object reads what was just written. -/
theorem State.ob_put_same {s : State} (h : mapWf oidDflt s.obj = true) (o : Nat) (v : Word) : (s.put o v).ob o = v := by
  rw [State.ob_put h]; simp

/-- The tile just written. -/
theorem State.tile_setTile {s : State} (h : mapWf (fun _ => ({} : Tile)) s.tiles = true) (n m : Nat) (t : Tile) :
    (s.setTile n t).tile m = if m = n then t else s.tile m := mapGet_mapSet _ h _ _ _

/-- The session just written. -/
theorem State.ses_setSes {s : State} (h : mapWf (fun _ => ({} : Session)) s.sess = true) (n m : Nat) (q : Session) :
    (s.setSes n q).ses m = if m = n then q else s.ses m := mapGet_mapSet _ h _ _ _

/-! ### Repetition -/

/-- A relation that is reflexive and transitive and that every step satisfies holds over a fold. -/
theorem foldl_rel {σ α : Type} {R : σ → σ → Prop} (r : ∀ s, R s s) (t : ∀ {a b c}, R a b → R b c → R a c)
    {f : σ → α → σ} (hf : ∀ s x, R s (f s x)) (l : List α) (s : σ) : R s (l.foldl f s) := by
  induction l generalizing s with
  | nil => exact r s
  | cons a l ih => exact t (hf s a) (ih _)

/-- The same over `forUpTo`. -/
theorem forUpTo_rel {σ : Type} {R : σ → σ → Prop} (r : ∀ s, R s s) (t : ∀ {a b c}, R a b → R b c → R a c)
    {f : Nat → σ → σ} (hf : ∀ i s, R s (f i s)) (n : Nat) (s : σ) : R s (forUpTo n f s) :=
  foldl_rel r t (fun s i => hf i s) (List.range n) s

/-! ### What leaves the rest of the state -/

theorem leaves_refl (p : Nat → Bool) (s : State) : Leaves p s s := ⟨rfl, fun h => ⟨h, fun _ _ _ => rfl⟩⟩

theorem Leaves.trans {p : Nat → Bool} {s t u : State} (a : Leaves p s t) (b : Leaves p t u) : Leaves p s u := by
  refine ⟨?_, fun h => ?_⟩
  · have ha := a.rest; have hb := b.rest
    rw [hb]; rw [ha]
  · obtain ⟨h1, h2⟩ := a.objs h
    obtain ⟨h3, h4⟩ := b.objs h1
    exact ⟨h3, fun o x y => (h4 o x y).trans (h2 o x y)⟩

theorem Leaves.mono {p q : Nat → Bool} {s t : State} (a : Leaves p s t) (h : ∀ o, q o = false → p o = false) :
    Leaves q s t := ⟨a.rest, fun w => ⟨(a.objs w).1, fun o x y => (a.objs w).2 o (h o x) y⟩⟩

/-- A write of an object of `p`, or of an event's object. -/
theorem leaves_put {p : Nat → Bool} {s : State} {o : Nat} {v : Word} (h : (p o || eventOid o) = true) :
    Leaves p s (s.put o v) := by
  refine ⟨rfl, fun w => ⟨State.put_wf w o v, fun o' x y => ?_⟩⟩
  rw [State.ob_put w]
  split
  · next e => subst e; simp [x, y] at h
  · rfl

theorem leaves_putn {p : Nat → Bool} {s : State} {o n : Nat} (h : (p o || eventOid o) = true) : Leaves p s (s.putn o n) :=
  leaves_put h
theorem leaves_count {p : Nat → Bool} {s : State} {o : Nat} (h : (p o || eventOid o) = true) : Leaves p s (s.count o) :=
  leaves_put h
theorem leaves_putFld {p : Nat → Bool} {s : State} {o a b v : Nat} (h : (p o || eventOid o) = true) :
    Leaves p s (s.putFld o a b v) := leaves_put h

/-- A sticky flag with its counter (R11). -/
theorem leaves_sticky {p : Nat → Bool} {s : State} {o n c : Nat} (h : (p o || eventOid o) = true)
    (k : (p c || eventOid c) = true) : Leaves p s (s.sticky o n c) := (leaves_put h).trans (leaves_count k)

theorem leaves_setSes {p : Nat → Bool} {s : State} {n : Nat} {q : Session} : Leaves p s (s.setSes n q) :=
  ⟨rfl, fun h => ⟨h, fun _ _ _ => rfl⟩⟩

theorem leaves_host {p : Nat → Bool} {s : State} {h : HostSt} : Leaves p s { s with host := h } :=
  ⟨rfl, fun h => ⟨h, fun _ _ _ => rfl⟩⟩

theorem leaves_marks {p : Nat → Bool} {s : State} {l : List Nat} : Leaves p s { s with marks := l } :=
  ⟨rfl, fun h => ⟨h, fun _ _ _ => rfl⟩⟩

theorem leaves_foldl {α : Type} {p : Nat → Bool} {f : State → α → State} (l : List α) (hf : ∀ t, ∀ x ∈ l, Leaves p t (f t x))
    (s : State) : Leaves p s (l.foldl f s) := by
  induction l generalizing s with
  | nil => exact leaves_refl p s
  | cons a l ih => exact (hf s a (by simp)).trans (ih (fun t x hx => hf t x (by simp [hx])) _)

theorem leaves_forUpTo {p : Nat → Bool} {f : Nat → State → State} (n : Nat) (hf : ∀ i t, i < n → Leaves p t (f i t))
    (s : State) : Leaves p s (forUpTo n f s) :=
  leaves_foldl _ (fun t i hi => hf i t (by simpa using hi)) s

/-- A message of a vector changes the host block only (R450). -/
theorem leaves_msiSend {p : Nat → Bool} {s : State} {v : Nat} : Leaves p s (s.msiSend v) := by
  unfold State.msiSend
  split
  · exact leaves_refl p s
  · split <;> exact leaves_host

/-! ### Events (R435–R439) -/

/-- INT_PENDING and INT_EVT_CNT of a group below 32. -/
theorem leaves_intRaise {p : Nat → Bool} {s : State} {g : Nat} (hg : g < 32) : Leaves p s (s.intRaise g) := by
  unfold State.intRaise
  refine (leaves_forUpTo 4 (fun k t hk => ?_) s).trans (leaves_count (by simp [eventOid, oidIntEvtCnt]; omega))
  dsimp only
  split
  · have h : Leaves p t (t.put (oidIntPending k) (setBit (t.ob (oidIntPending k)) g true)) :=
      leaves_put (by simp [eventOid, oidIntPending]; omega)
    split
    · exact h.trans leaves_msiSend
    · exact h
  · exact leaves_refl p t

theorem leaves_enterEv {p : Nat → Bool} {s : State} {n c : Nat} {l : List Nat} {a b : Word} :
    Leaves p s (s.enterEv n c l a b) := by
  unfold State.enterEv
  dsimp only
  split
  · exact leaves_setSes.trans (leaves_sticky (by simp [eventOid]) (by simp [eventOid, oidFcpCnt]))
  · split
    · exact leaves_setSes.trans (leaves_intRaise (by decide))
    · exact leaves_setSes

theorem leaves_raiseFull {p : Nat → Bool} {s : State} {only : Option Nat} {a b : Word} {g i : Nat} {l : List (Nat × Nat)}
    (hg : g < 32) : Leaves p s (s.raiseFull only a b g i l) := by
  unfold State.raiseFull
  dsimp only
  refine Leaves.trans ?_ (leaves_intRaise hg)
  split
  · split
    · exact leaves_enterEv
    · exact leaves_refl p s
  · refine leaves_forUpTo 64 (fun k t _ => ?_) s
    split
    · exact leaves_enterEv
    · exact leaves_refl p t

/-- An event changes its own objects, the sessions' queues and the message counts, no more. -/
theorem leaves_raise {p : Nat → Bool} {s : State} {g i : Nat} {l : List (Nat × Nat)} (hg : g < 32) :
    Leaves p s (s.raise g i l) := leaves_raiseFull hg

theorem leaves_raiseOnce {p : Nat → Bool} {s : State} {k g i : Nat} {l : List (Nat × Nat)} (hg : g < 32) :
    Leaves p s (s.raiseOnce k g i l) := by
  unfold State.raiseOnce
  dsimp only
  split
  · exact leaves_refl p s
  · exact leaves_marks.trans (leaves_raise hg)

/-- What a command leaves keeps the canonical form of the objects. -/
theorem Leaves.wf {p : Nat → Bool} {s t : State} (a : Leaves p s t) (h : mapWf oidDflt s.obj = true) :
    mapWf oidDflt t.obj = true := (a.objs h).1

/-- An object outside `p` and the events' own reads as before. -/
theorem Leaves.ob {p : Nat → Bool} {s t : State} (a : Leaves p s t) (h : mapWf oidDflt s.obj = true) {o : Nat}
    (x : p o = false) (y : eventOid o = false) : t.ob o = s.ob o := (a.objs h).2 o x y

/-- An object reads as before an event. -/
theorem State.ob_raise {s : State} (h : mapWf oidDflt s.obj = true) {g i o : Nat} {l : List (Nat × Nat)} (hg : g < 32)
    (y : eventOid o = false) : (s.raise g i l).ob o = s.ob o :=
  (leaves_raise (p := fun _ => false) hg).ob h rfl y

/-! ### The bus error log and a refusal (R412, R472–R475) -/

theorem leaves_busError {p : Nat → Bool} {s : State} {m t k : Nat} {w : Bool} {a : Word}
    (hp : ∀ o, busErrOid o = true → p o = true) : Leaves p s (s.busError m t k w a) := by
  unfold State.busError
  dsimp only
  have he : (if s.obn oidBusErrNewest = 0xFF then 0 else (s.obn oidBusErrNewest + 1) % 16) < 16 := by split <;> omega
  generalize (if s.obn oidBusErrNewest = 0xFF then 0 else (s.obn oidBusErrNewest + 1) % 16) = e at he ⊢
  have q : ∀ {t : State} {o : Nat} {v : Word}, busErrOid o = true → Leaves p t (t.put o v) :=
    fun h => leaves_put (by simp [hp _ h])
  refine Leaves.trans (Leaves.trans (Leaves.trans (Leaves.trans (Leaves.trans (Leaves.trans
    (q (by decide)) (q ?_)) (q ?_)) (q ?_)) (q ?_)) (q (by decide))) (leaves_raiseOnce (by decide)) <;>
    simp [busErrOid, oidBuserrAddr, oidBuserrInfo, oidBuserrDtSec, oidBuserrDtNs] <;> omega

theorem leaves_denied {p : Nat → Bool} {s : State} {acc : Access} {o : Nat} {w : Bool}
    (hp : ∀ o, busErrOid o = true → p o = true) (h : p (oidFcpCnt 7) = true) : Leaves p s (s.denied acc o w) :=
  (leaves_busError hp).trans (leaves_sticky (by simp [eventOid]) (by simp [h]))

/-! ### The journal's queue (R564–R569) -/

theorem leaves_jnlFlag {p : Nat → Bool} {s : State} {b : Nat} (h : p oidJnlSticky = true) (k : p (oidJnlCnt b) = true) :
    Leaves p s (s.jnlFlag b) := leaves_sticky (by simp [h]) (by simp [k])

/-- `t` is `s` but for the journal's queue and flags and what an event changes. -/
structure LeavesJ (s t : State) : Prop where
  rest : t = { s with obj := t.obj, sess := t.sess, host := t.host, marks := t.marks, jnl := t.jnl }
  objs : mapWf oidDflt s.obj = true →
    mapWf oidDflt t.obj = true ∧ ∀ o, journalOid o = false → eventOid o = false → t.ob o = s.ob o

theorem leavesJ_refl (s : State) : LeavesJ s s := ⟨rfl, fun h => ⟨h, fun _ _ _ => rfl⟩⟩

theorem LeavesJ.trans {s t u : State} (a : LeavesJ s t) (b : LeavesJ t u) : LeavesJ s u := by
  refine ⟨?_, fun h => ?_⟩
  · have ha := a.rest; have hb := b.rest
    rw [hb]; rw [ha]
  · obtain ⟨h1, h2⟩ := a.objs h
    obtain ⟨h3, h4⟩ := b.objs h1
    exact ⟨h3, fun o x y => (h4 o x y).trans (h2 o x y)⟩

theorem Leaves.toJ {s t : State} (a : Leaves journalOid s t) : LeavesJ s t := by
  refine ⟨?_, a.objs⟩
  have := a.rest
  rw [this]

theorem leavesJ_setJnl (s : State) (j : JnlSt) : LeavesJ s (s.setJnl j) := ⟨rfl, fun h => ⟨h, fun _ _ _ => rfl⟩⟩

theorem leavesJ_ite {s a b : State} {c : Prop} [Decidable c] (ha : LeavesJ s a) (hb : LeavesJ s b) :
    LeavesJ s (if c then a else b) := by
  split <;> assumption

theorem leavesJ_jnlPump (s : State) (fill : Bool) : LeavesJ s (s.jnlPump fill) := by
  unfold State.jnlPump
  dsimp only
  refine leavesJ_ite (leavesJ_refl s) (leavesJ_ite (leavesJ_refl s) (leavesJ_ite ?_ (leavesJ_ite (leavesJ_refl s) ?_)))
  · exact (((leaves_putn (by decide)).trans (leaves_jnlFlag (by decide) (by decide))).trans (leaves_raise (by decide))).toJ
  · exact leavesJ_setJnl s _

theorem leavesJ_jnlPush (s : State) (l : List JRec) : LeavesJ s (s.jnlPush l) := by
  unfold State.jnlPush
  dsimp only
  split
  · exact leavesJ_refl s
  · refine LeavesJ.trans ?_ (leavesJ_jnlPump _ _)
    exact (leavesJ_setJnl s _).trans
      (leaves_forUpTo _ (fun _ _ _ => leaves_jnlFlag (by decide) (by decide)) _).toJ

/-- A journal record changes the journal's queue and flags, no more (R564). -/
theorem leavesJ_jnlDirect (s : State) (n o : Nat) : LeavesJ s (s.jnlDirect n o) := by
  unfold State.jnlDirect
  split
  · exact leavesJ_refl s
  · split
    · exact leavesJ_jnlPush s _
    · exact leavesJ_refl s

/-! ### A write to one object (R422, R434) -/

/-- A write that passes its checks and its object's rule completes with the state that the rule leaves. -/
theorem State.writeCmd_stored {s u : State} {acc : Access} {oid : Nat} {v : Word} {f : ObjClass → State → Wr}
    (w : mapWf oidDflt u.obj = true) (h : s.admits acc oid v = true) (e : ∀ c, f c s = .ok u) :
    Stored u (s.writeCmd acc oid v f) := by
  unfold State.admits at h
  unfold State.writeCmd State.writeWith
  split at h
  · cases h
  · next c hc =>
    simp only [Bool.and_eq_true, Bool.not_eq_true'] at h
    obtain ⟨⟨⟨h1, h2⟩, h3⟩, h4⟩ := h
    have k := leavesJ_jnlDirect u acc.session oid
    simp only [hc, h1, h2, h3, e, h4]
    refine ⟨?_, fun o x y => (k.objs w).2 o x y⟩
    have := k.rest
    simp only [Bool.false_eq_true, if_false]
    rw [this]

/-- A write that its object's rule refuses changes nothing but the answer. -/
theorem State.writeCmd_turned {s : State} {acc : Access} {oid st : Nat} {v : Word} {f : ObjClass → State → Wr}
    (h : s.admits acc oid v = true) (e : ∀ c, f c s = .error st) : TurnedAway s oid st (s.writeCmd acc oid v f) := by
  unfold State.admits at h
  unfold State.writeCmd State.writeWith
  split at h
  · cases h
  · next c hc =>
    simp only [Bool.and_eq_true, Bool.not_eq_true'] at h
    obtain ⟨⟨⟨h1, h2⟩, h3⟩, h4⟩ := h
    simp only [hc, h1, h2, h3, e]
    rfl

end Sys2Proof.Machine
end

