-- ==== Sys2Proof/Machine/Pins.lean ====
section
/-!
DEFINITION. What the device does at its pins in each state (R586), from the levels of R289, R308, R309, R335, R439, R520, R522, R544
and R593.
-/

namespace Sys2Proof.Machine

/-- A pin or a group of pins of one kind (R578). `txd` is TXD of a port in bit position `pos` of its frame. -/
inductive Pin where
  | txd (p : Fin 24) (pos : Nat)
  | portInput
  | mod (n : Fin 64)
  | twinOe (k : Fin 4)
  | mclk (k : Fin 8)
  | gpio (n : Fin 32)
  | safeMuteN
  | safeOk
  | intN (k : Fin 4)
  | serialOut
  | ospi
  | ospiResetN
  | lane (n : Fin 4)
  | pwrEn (n : Fin 4)
  deriving DecidableEq, Repr

/-- What the device does at a pin: `clock` runs at a frequency in Hz, `idle` is electrical idle, `active` a transmitter or a bus in
use. -/
inductive Drive where
  | unpowered
  | highZ
  | input
  | pullDown
  | low
  | high
  | clock (hz : Nat)
  | idle
  | active
  deriving DecidableEq, Repr

/-- A driven level. -/
def Drive.level (b : Bool) : Drive := if b then .high else .low
/-- An open-drain pin, asserted low. -/
def Drive.openDrain (asserted : Bool) : Drive := if asserted then .low else .highZ

/-- The rails of the pins are up: neither OFF, STANDBY nor WAKING (R544, R586). -/
def State.pinsPowered (s : State) : Bool := !s.pwr.off && decide (s.pw ≠ pwStandby) && decide (s.pw ≠ pwWaking)
/-- Step 7 of Eclosion has begun (R586). -/
def State.pinsLive (s : State) : Bool := decide (s.pw = pwRun) || (decide (s.pw = pwEclosion) && decide (s.pwr.stage ≥ 7))
/-- The chain of a modulator pin is enabled (R284, R309). -/
def State.modPin (s : State) (n : Nat) : Drive := if s.pinsLive && bit (s.ob (oidModCfg n)) 0 then .input else .pullDown

/-- What the device does at a pin (R586). A host's serial outputs are driven in the device phases of its transactions only, which is
not state. -/
def State.pin (s : State) (x : Pin) : Drive :=
  match x with
  | .pwrEn n => .level (s.pwrEn n)
  | .txd p pos =>
    if !s.pinsPowered then .unpowered
    else if !s.pinsLive then .highZ
    else match (s.port p).line[pos]? with
      | some .low => .low
      | some .high => .high
      | _ => .highZ
  | .portInput => if s.pinsPowered then .input else .unpowered
  | .mod n => if s.pinsPowered then s.modPin n else .unpowered
  | .twinOe k => if !s.pinsPowered then .unpowered else if s.pinsLive then .level (bit (s.ob oidTwinOeState) k) else .low
  | .mclk k =>
    if !s.pinsPowered then .unpowered
    else if s.pinsLive ∧ s.mclkHz k ≠ 0 then .clock (s.mclkHz k) else .low
  | .gpio n =>
    if !s.pinsPowered then .unpowered
    else if s.pinsLive ∧ bit (s.ob oidGpioTimeOut) n then .level (bit s.time.gpio n) else .pullDown
  | .safeMuteN => if s.pinsPowered then .openDrain (s.guard.safe ≠ []) else .unpowered
  | .safeOk => if !s.pinsPowered then .unpowered else if s.pinsLive then .level s.guard.level else .low
  | .intN k => if !s.pinsPowered then .unpowered else .openDrain (s.pinsLive && s.intAsserted k)
  | .serialOut => if s.pinsPowered then .highZ else .unpowered
  | .ospi => if !s.pinsPowered then .unpowered else if s.ospiResetN then .active else .highZ
  | .ospiResetN => if !s.pinsPowered then .unpowered else .level s.ospiResetN
  | .lane n => if !s.pinsPowered then .unpowered else if s.pinsLive ∧ s.lane n = lnUp then .active else .idle

end Sys2Proof.Machine
end

