-- ==== Sys2Proof/WellFormed.lean ====
section
/-!
DEFINITION. The well-formed commands: what an operand's type does not bound and the interface that sends the command does.
-/

namespace Sys2Proof

/-- A frame header that a port can carry: a host channel lies below 8 (R448), a UDP port has 16 bits (R413). -/
def Hdr.wf (h : Hdr) : Bool :=
  decide (h.src.udp < 65536) && (h.src.pc != 1 || decide (h.src.port < 8))

/-- A burst that a master can issue (R467, R470): a beat is 1, 2, 4, 8 or 16 bytes, a burst 1 to 16 beats, a wrap length 4, 8
or 16; a write brings its data; a locked transfer is one beat of at most 4. -/
def BusReq.wf (r : BusReq) : Bool :=
  decide (r.beat ∈ [1, 2, 4, 8, 16]) && decide (1 ≤ r.beats) && decide (r.beats ≤ 16) && decide (r.wrap ∈ [0, 4, 8, 16]) &&
  decide (r.addr < 2 ^ 32) && (!r.write || decide (r.data.length = r.beat * r.beats)) &&
  decide (r.lock ≤ 4) && (decide (r.lock = 0) || decide (r.beats = 1))

/-- What the loader met lies in DMEM, in one of the regions of an image (R115, R231). -/
def LoadErr.wf : LoadErr → Bool
  | .ok => true
  | .image a => decide (a < 2 ^ 27)
  | .ckpt a _ => decide (a < 2 ^ 27)

/-- A receive buffer: in T7, of 128 to 2,048 bytes, a multiple of 64 (R36, R392). -/
def bufWf (b : Nat × Nat) : Bool :=
  decide (0x50000000 ≤ b.1) && decide (b.1 + b.2 ≤ 0x50400000) && decide (128 ≤ b.2) && decide (b.2 ≤ 2048) &&
  decide (b.2 % 64 = 0)

/-- The commands whose operands lie in the ranges of their interface. -/
def Instr.wf : Instr → Bool
  | .grainBoundary _ _ dl reports => dl.all (fun e => decide (e.owner < 4096)) && reports.all (fun e => decide (e.1 < 2 ^ 24))
  | .sampleBoundary _ clk bits reports => decide (clk.length ≤ 4) && bits.all (fun e => decide (e.1 < 64)) && reports.all (fun r => decide (r.group < 16))
  | .imgLoadDone ue => match ue with | some a => decide (a < 2 ^ 27) | none => true
  | .spareLoadDone _ e => e.wf
  | .tileReloadDone _ e => e.wf
  | .patchXfEnd k => decide (k < 0x1000)
  | .patchDeferredStart k => decide (k < 0x1000)
  | .patchStatusWrite _ k _ => decide (k < 0x1000)
  | .silHoldExpire _ reports => reports.all (fun e => decide (e.1 < 2 ^ 24))
  | .writeStage h _ _ es => h.wf && decide (es.length ≤ 255) && es.all (fun e => decide (e.oid < 2 ^ 32))
  | .commit h _ _ _ _ _ => h.wf
  | .psScrub o _ => decide (o < 2 ^ 24)
  | .dmemScrub a _ _ => decide (a < 2 ^ 27)
  | .dlXfEnd o => decide (o < 4096)
  | .publish h _ _ => h.wf
  | .tdmFrame _ f => decide (f.periods.length ≤ 2048)
  | .frameReceive _ _ b bufs _ => decide (b.length ≤ 65535) && decide (bufs.length ≤ 1024) && bufs.all bufWf
  | .pauseRx _ pfc _ ts => decide (ts.length = if pfc then 8 else 1)
  | .mediaRxPacket _ p => decide (p.fmt ≤ 3)
  | .openSession h _ _ _ _ _ => h.wf
  | .closeSession h => h.wf
  | .keepalive h => h.wf
  | .read h _ oids => h.wf && decide (oids.length ≤ 255) && oids.all (fun o => decide (o < 2 ^ 32))
  | .write h es => h.wf && decide (es.length ≤ 65535) && es.all (fun e => decide (e.1 < 2 ^ 32))
  | .registerWrite _ o _ => decide (o < 2 ^ 24)
  | .readBlock h o _ _ => h.wf && decide (o < 2 ^ 32)
  | .writeBlock h o ws => h.wf && decide (o < 2 ^ 32) && decide (ws.length ≤ 65535)
  | .describe h o _ => h.wf && decide (o < 2 ^ 32)
  | .subscribe h _ _ => h.wf
  | .syncSummary h => h.wf
  | .frameTx h _ _ _ d => h.wf && decide (d.length ≤ 1424)
  | .send _ _ _ _ f => decide (f.length ≤ 65535)
  | .memRead _ _ n _ => decide (n ≤ 65535)
  | .memWrite _ _ d _ => decide (d.length ≤ 65535)
  | .busAccess rs => rs.all BusReq.wf
  | .beacon m _ _ _ => decide (m.phases.length = 16)
  | .fwVerifyDone slot => match slot with | some p => decide (p.1.length = 256) | none => true
  | .mgmtRestartDone sha => decide (sha.length = 32)
  | .mac .. | .msu .. | .mpy .. | .accld .. | .accclr .. | .accshf .. | .accadd .. | .st .. | .rst .. | .mov ..
  | .add .. | .sub .. | .adds .. | .subs .. | .negs .. | .abss .. | .min .. | .max .. | .and .. | .or .. | .xor ..
  | .not .. | .ldil .. | .ldih .. | .shl .. | .shls .. | .shr .. | .asr .. | .asrn .. | .lsc .. | .bexprd ..
  | .ashv .. | .shlv .. | .shlsv .. | .shrv .. | .asrv .. | .asrnv .. | .cmp .. | .csel .. | .kand .. | .kor ..
  | .kxor .. | .knot .. | .kset .. | .kbit .. | .rd .. | .rdb .. | .wr .. | .wrt .. | .aguPlusStep ..
  | .aguMinusStep .. | .aguImmediate .. | .txbSend .. | .txbReceive .. | .loop .. | .checkpointCycle ..
  | .t3WindowService .. | .asGeomWrite .. | .asStepmodWrite .. | .imgWrOffsetWrite .. | .imgWrDataWrite ..
  | .verify .. | .imgVerifyDone .. | .activate .. | .discard .. | .loadNor .. | .storeNor .. | .cancel ..
  | .imgActivationBegin | .imgTilesStop | .imgTilesStart | .imgAutoActivate | .spareStart .. | .tileRestart ..
  | .domRateAWrite .. | .engineStop | .engineRestart | .domRateBcWrite .. | .domainAssignWrite .. | .moultLatch ..
  | .foldComplete | .moultBoundary | .moultSettle | .withdraw .. | .withdrawAll .. | .moultCancel .. | .sceneGoEdge ..
  | .sramScrub .. | .publishPrepared .. | .revert .. | .bulkCopyDone .. | .firSliceComplete .. | .firXfEnd ..
  | .brgGrpCfgWrite .. | .brgFarWrite .. | .brgLock .. | .brgAcqTimeout .. | .brgRatioOut .. | .brgPositionSlip ..
  | .brgRecentred .. | .modCfgWrite .. | .modclkCfgWrite .. | .acCfgWrite .. | .decSyncPin .. | .decSyncCmd ..
  | .syncResetApply .. | .modReentry .. | .meterWindowEnd .. | .pd5Ready | .start .. | .stop .. | .restart ..
  | .portFrameWrite .. | .portTxShareWrite .. | .portLock .. | .portClockLoss .. | .portZcTimeout ..
  | .portSubstEnd .. | .alignGroupEnter .. | .shareHandover .. | .refCfgWrite .. | .refLimitsWrite .. | .refLos ..
  | .refSignalPresent .. | .refMonitorUpdate .. | .refQualify .. | .esmcPdu .. | .ssmTimeout .. | .refWtrExpire ..
  | .dpllModeWrite .. | .dpllManualRefWrite .. | .dpllDcoWrite .. | .dpllTrackBwWrite .. | .dpllBuildoutDone ..
  | .dpllStageAdvance .. | .dpllAcqTimeout .. | .dpllLockLoss .. | .dpllBuildoutRemoved .. | .ogPullDone ..
  | .ogCfgWrite .. | .mclkCfgWrite .. | .xoLost | .xoRestored | .timeClockTick | .set .. | .adjust ..
  | .servoCfgWrite .. | .servoSample | .servoSampleTimeout | .ptpMessageRx .. | .ptpMessageTx .. | .announceTimeout ..
  | .ptpParentChange .. | .taCfgWrite .. | .timeActionFire .. | .gpioPulseEnd .. | .capCfgWrite .. | .captureEdge ..
  | .laneCfgWrite .. | .laneLinkUp .. | .laneLinkDown .. | .bridgeModeWrite .. | .frameTransmit .. | .fdbAgeing
  | .configChange .. | .gclChange .. | .gclEntryAdvance .. | .pauseExpire .. | .pauseTxSend .. | .netRxCfgWrite ..
  | .netTxCfgWrite .. | .mediaTxPacket .. | .netRxTimeout .. | .summaryCapture | .sessionTimeout ..
  | .sessionCloseComplete .. | .eventFrameSend .. | .eventResend .. | .fcpPcEnableWrite .. | .mgmtSaturationDetect ..
  | .sqTailWrite .. | .cqDbWrite .. | .evqDbWrite .. | .chanResetWrite .. | .intAckWrite .. | .perstAssert ..
  | .pcieLinkDown .. | .pcieLinkUp .. | .d3hotEntry | .status .. | .fetch .. | .doorbell .. | .spiAbort ..
  | .lockTimeout .. | .targetTimeout .. | .busErrClear .. | .twinCfgWrite .. | .resync .. | .yield .. | .resume ..
  | .clearPartial .. | .helloSend | .hello .. | .beaconDeadlineMiss .. | .altWaitExpire | .switchover .. | .peerAbsent
  | .startupShareHoldEnd | .copy .. | .copyAck .. | .copySent .. | .copyApply | .mirror .. | .mirrorApply
  | .handoverBoundary | .twinWtrExpire | .twinConvTimeout | .guardSample .. | .guardHoldExpire ..
  | .guardUnlockWrite .. | .guardUnlockExpire .. | .guardCeilWrite .. | .guardCfgWrite .. | .releaseSafe ..
  | .releaseCh .. | .releaseAll .. | .fuse .. | .guardOscFault .. | .guardCfgScrub .. | .safeOkEdge
  | .faultLogClear .. | .vaonOn | .vaonLoss | .wakePin | .rtcAlarm | .resetPin | .railGood | .railTimeout
  | .bootXoTimeout | .stateRestoreDone .. | .bootClockReady .. | .eclosionComplete .. | .standby .. | .reset ..
  | .qreset .. | .mgmtWatchdog .. | .pdSwitch .. | .quadWakeReady .. | .chrRtcLoWrite .. | .chrWakeCfgWrite ..
  | .jnlPageProgramDone .. | .jnlPageFillTimeout | .jnlEraseDone .. | .compact .. | .clearState .. | .compactionBegin
  | .snapshotBodyDone | .snapshotSeal .. | .pfail .. | .jnlResume | .dieTempUpdate .. | .dieTempMaxWrite ..
  | .perstRelease | .d3hotExit | .spiProtocolError .. | .bootXoRunning => true

end Sys2Proof
end

