-- ==== Sys2Proof/Tests/Slice0.lean ====
section
/-!
SUPPORT. Tests: what the spec's own examples give, ill-formed commands that WellFormed refuses, and for each statement with
hypotheses a witness: states and operands that meet them, clause by clause.
-/

namespace Sys2Proof.Tests

open Sys2Proof Sys2Proof.Machine

set_option linter.all false
set_option Elab.async false

/-! ### Small states -/

def leB (n v : Nat) : List Byte := leBytes n v
def putB (m : SMap Byte) (o : Nat) (l : List Byte) : SMap Byte := mapSetFrom (fun _ => 0) m o l
def mkImg (g cs : Nat) (works : Nat) (secs : List (Nat × Nat × Nat × List Byte)) : ImgBuf :=
  let n := secs.length
  let m := putB [] 8 (leB 4 4096 ++ leB 2 cs ++ leB 1 g)
  let m := putB m 24 (leB 8 works)
  let m := putB m 32 [8, 17, 26, 35]
  let m := putB m 40 (leB 4 64 ++ leB 2 n)
  let r := secs.foldl (fun (a : SMap Byte × Nat × Nat) s =>
    let o := a.2.2
    (putB (putB a.1 (64 + 16 * a.2.1) (leB 2 s.1 ++ leB 1 s.2.1 ++ [0] ++ leB 4 o ++ leB 4 s.2.2.2.length ++ leB 4 s.2.2.1)) o s.2.2.2, a.2.1 + 1, o + s.2.2.2.length))
    (m, 0, 64 + 16 * n)
  { bytes := r.1, recv := r.2.2 }
def img1 : ImgBuf := mkImg 8 4608 (2 ^ 4) [
  (1, 4, 8, List.replicate 128 0),
  (4, 4, 1, [1, 0x0F] ++ leB 2 32 ++ leB 2 8 ++ [0, 0]),
  (5, 4, 1, leB 4 100 ++ [0, 5, 1, 0]),
  (6, 4, 1, leB 4 200 ++ leB 2 64 ++ [1, 0]),
  (7, 4, 1, leB 2 16 ++ leB 2 2 ++ leB 4 0),
  (0x14, 0xFF, 1, [4, 3] ++ leB 2 0x100 ++ leB 2 0x100 ++ [0, 0])]
def baseS : State :=
  let s := ({} : State).put oidImgActiveForm (wd (4608 + 8 * 65536))
  { s with img := { s.img with active := img1 } }
def tileS (t : Tile) : State := (baseS.setTileState 4 2).setTile 4 t
def tA0 : Tile := { cyc := 100, d := [(0, 5), (1, 0x7FFFFFF0), (2, 0x80000000), (8, 7), (9, 0x70000000), (10, 0xFFFFFFFF), (17, 3), (18, 33)], k := [(9, true)] }
def tA1 : Tile := { tA0 with a := [(0, ⟨5, false, false⟩), (1, ⟨0x4000000000000000000000, false, false⟩), (9, ⟨7, false, false⟩), (16, ⟨0x40000000000000000, true, true⟩)] }
def tA2 : Tile := { tA1 with aSeen := [(0, ⟨5, false, false⟩), (1, ⟨0x4000000000000000000000, true, true⟩), (2, ⟨0x400000000000, false, false⟩), (9, ⟨7, false, false⟩)] }
def tA : Tile := { tA2 with dm := [(8, 11), (9, 12), (10, 13)], sets := [(0, { base := 1 }), (1, { len := 5, ptr := 3, step := 4, mode := 1, base := 16383 }), (2, { ptr := 3, brw := 3, step := -1, mode := 2 })] }
def sA : State := tileS tA
def sl0 : Slot := ⟨4, 0, ⟨0, false⟩⟩
def sl1 : Slot := ⟨4, 3, ⟨1, false⟩⟩
def acc1 : Access := ⟨1, 1, true⟩
def pst (s : State) (n : Nat) : State := s.put oidImgPendState (wd n)
def sImg (st : Nat) (im : ImgSt) : State := pst { ({} : State) with img := im } st
def img2 : ImgBuf := mkImg 4 2304 (2 ^ 4) []
def img3 : ImgBuf := mkImg 4 9216 (2 ^ 4) []
def img1I : ImgSt := { active := img1 }
def sSil (st cl : Nat) (i : SilDet) : State :=
  let s := ({ baseS with img := { img1I with running := true }, mix := { silClock := cl } } : State).put (oidSilState 7) (wd st)
  s.setDet 7 i
def okC (e : Except (Nat × Bool) ObjClass) : Option ObjClass := match e with | .ok c => some c | .error _ => none
def psDflt0 : ObjClass := (okC (checkWrite acc1 (oidPatchStatus 3))).get (by decide +kernel)
def hel : HelloMsg := ⟨5, 5, 0x10000, 5, 0xF0005, 0, 0xA0, 0xA1, 0⟩
def sMir : State := { ({} : State).put oidTwinState 2 with twin := { peer := some hel } }
def pd (n : Nat) : State := ({} : State).put oidPwrDomains (wd n)
def sB : State := (({} : State).put oidDomRateB 2).put oidDomRateC 6
def brgAt (g st : Nat) : State := (sB.put (oidBrgGrpStatus g) (wd st)).put (oidBrgGrpCfg g) 1
def ses1 : Session := { st := 1, pc := 1, expert := true, credit := 4, timeout := 100, port := 2 }
def sOp : State := ({} : State).setSes 3 ses1
def src1 : Source := ⟨1, 2, 0, 0⟩
def hd1 : Hdr := ⟨src1, 3, 5, none, none⟩
def okS (e : Except Refused State) : State := match e with | .ok c => c | .error _ => {}
def es1 : List StageEntry := [⟨0xC0000, 0x3F800000, 0xFFFF⟩, ⟨0xC0080, 0x3F800000, 100⟩]
def es2 : List StageEntry := [⟨0xC0000, 0x3F800000, 0xFFFF⟩, ⟨0xF6801, 0x3F800000, 100⟩]
def com0 : Commit := { instar := 1, mode := 0, all := true, session := 3, ramp := none }
def sCom (l : List Commit) : State :=
  let s := okS (sOp.stageAll ⟨3, 1, true⟩ false none es1)
  { s with moult := { s.moult with commits := l, assigned := 1 } }
def acc3 : Access := ⟨3, 1, true⟩
def stby : State := { ({} : State).put oidTwinState 5 with twin := { peer := some hel } }
def sBulk (k st : Nat) (p : Bool) : State := sOp.setBset k { st := st, owner := 3, preparing := p }
def k0 : Nat := setKey 0 5
def k1 : Nat := setKey 1 5
def fr1 : Frame := { len := 64, tc := 3, src := 0, at' := 0, bytes := [1,2,3] }
def prt (p st : Nat) (x : Port) : State := (({} : State).put (oidPortState p) (wd st)).setPort p x
def tfr (n : Nat) (dev phase : Int) (slots : List Word) (ended : Bool := true) : TdmFrame :=
  { ended := ended, dev := dev, phase := phase
    periods := (List.range n).map (fun q =>
      let e : TdmEdge := ⟨decide (q = 0), decide (1 ≤ q) && (slots.getD ((q - 1) / 32) 0).getLsbD (31 - (q - 1) % 32)⟩
      ⟨e, e⟩) }
def frm : TdmFrame := tfr 256 5 100 [0xFFFFFFFF, 2]
def rf (st : Nat) : State := (((({} : State).put (oidRefState 1) (wd st)).put (oidRefLimits 1) (wd (10 + 1024*20 + 1048576*5))).put (oidRefDriftLim 1) 100)
def dp (st : Nat) (x : Dpll) : State :=
  let s := ((({} : State).put (oidDpllState 1) (wd st)).put (oidDpllSelected 1) 2).setDpll 1 x
  ((((s.put (oidRefState 2) 3).put (oidRefRank 2) 14).put (oidRefState 3) 3).put (oidRefRank 3) 14).put (oidDpllManualRef 1) 3
def tS (c : Nat) (t : Tile) : State := tileS { t with cyc := c }
def imgP : ImgBuf := mkImg 8 4608 (2 ^ 4) [
  (1, 4, 8, List.replicate 128 0), (6, 4, 1, leB 4 200 ++ leB 2 64 ++ [0, 0])]
def pt1 : State := ((((({} : State).put oidPtpCfg (wd (4096 + 8*5))).put oidPtpParentIdLo 5).put oidServoCfg 1).put oidServoState 2).put (oidTsAsym 1) 77777
def ta0 : State := ((({} : State).put oidGpioTimeOut 0x0F).put (oidTaArg 5) 2).put (oidTaDueNs 5) 5000
def cp0 (c : Nat) : State := { ({} : State).put (oidCapCfg 9) (wd c) with time := {dt := 2^75 + 12345678901234567890, cyc := 1000} }
def lnS (c st : Nat) : State := (({} : State).put (oidLaneCfg 1) (wd c)).put (oidLaneState 1) (wd st)
def q1 (s : State) : State := { s with net := { s.net with queues := [(11, [fr1])] } }
def macs (s : State) : State := ((((s.put (oidLaneMacHi 0) 0x0200).put (oidLaneMacHi 1) 0x0200).put (oidLaneMacLo 0) 1).put (oidLaneMacLo 1) 2).put (oidLaneMacLo 2) 3
def eth (d s : Nat) : List Byte := beBytes 6 d ++ beBytes 6 s ++ [0x08, 0x99] ++ List.replicate 60 0
def upS (l m : Nat) : State := ((({} : State).put (oidLaneState 0) 2).put (oidLaneState l) 2).put oidBridgeMode (wd m)
def gc0 (g : Gcl) : State := { (({} : State).put (oidGclAdminCycle 1) 5000).put (oidGclAdmin 1 0) 0x10000 with net := { gcl := [(1, g)] } }
def big : Frame := { len := 200000, tc := 3, src := 1, at' := 0, bytes := [] }
def pk : MediaPkt := { aaf := false, dmac := 0x01005E000001, dest := 0xE1000001, port := 0, srcIp := 0, ptype := 96, chans := 2, fmt := 1, rate := 48000, seq := 5, ts := 5, ext := none, ssrc := 0, vlan := 0, dscp := 0, payload := (List.range 12).map (BitVec.ofNat 8) }
def vr : Word := wd (1+4+16+128+96*2^23)
def rxS (c : Word) (st : Nat) (x : NetRx) : State := { ((((upS 0 0).put (oidNetRxCfg 5) c).put (oidNetRxStatus 5) (wd st)).put (oidNetRxMatchLo 5) 0xE1000001) with net := { rx := if x = {} then [] else [(5, x)] } }
def txS (c : Word) (st : Nat) (x : NetTx) : State := { ((((upS 1 0).put (oidNetTxCfg 5) c).put (oidNetTxState 5) (wd st)).put (oidNetTxDest 5) 0xE1000001) with net := { tx := if x = {} then [] else [(5, x)] } }
def dab : List Byte := beBytes 6 5 ++ beBytes 6 6 ++ [0x88, 0xB5] ++ List.replicate 60 7
def rn (s : State) : State := s.put oidPwrState 3
def hO (s t : Nat) : Hdr := ⟨src1, BitVec.ofNat 8 s, BitVec.ofNat 8 t, none, none⟩
def rO : State := rn {}
def rS : State := rn sOp
def sesW (q : Session) : State := rn (({} : State).setSes 3 q)
def ev (n : Nat) (b : Bool) : EvRecord := ⟨n, n, 0, 0, 0, 0, 0, b⟩
def src2 : Source := ⟨2, 2, 0, 0⟩
def cm : Completion := { opcode := 3, session := 3, tag := 5, status := 0, body := [7] }
def okSW (u : State) (es : List (Nat × Word)) : State := match u.writeAll (u.sesAccess 3) es 0 [] with | .ok (w, _) => w | .error _ => {}
def kb : Nat := k1
def ob1 : Nat := (setRange k1).1
def okO (s : State) (a : Access) (o : Nat) (v : Word) : State := match checkWrite a o with | .ok d => (match wrObj a o v d s with | .ok t => t | .error _ => {}) | .error _ => {}
def clsW (a : Access) (o : Nat) : ObjClass := (okC (checkWrite a o)).getD psDflt0
def wBulkB : List (Nat × Word) := [(oidBulkCtrl, wd (1 + 4*5 + 32768))]
def sBk : State := rS.setBset kb {st := 1, owner := 3}
def sEx : State := rS.setPe (secBase 5 + 4) {target := 1}
def twc : ObjClass := (anyClass oidTwinState).getD psDflt0
def fr (op se tag : Nat) : List Byte := [0x46, 0x43, 1, BitVec.ofNat 8 op, BitVec.ofNat 8 se, BitVec.ofNat 8 tag, 0, 0, 0, 0, 0, 0, 0, 0, 0, 0]
def up (s : State) : State := s.put oidPcieStatus 1
def sqFrame (c : Nat) (f : List Byte) (s : State) : State := { s with host := { s.host with sram := mapSetFrom (fun _ => 0) s.host.sram (areaBase c) f } }
def evr (n : Nat) : EvRecord := ⟨n, n, 0, 0, 0, 0, 0, false⟩
def rq (m : Fin 10) (a : Nat) (w : Bool) : BusReq := ⟨m, a, false, w, 4, 1, 0, if w then [1,2,3,4] else [], 0, 0, false⟩
def nr : State := { rn {} with host := { netRam := [(0x50000001, 9)] } }
def sv (s : State) : State := s.put oidFcpPcEnable 0x17
def tw (st : Nat) (x : TwinSt) : State := { (({} : State).put oidTwinState (wd st)).put oidTwinCfg 0x508 with twin := x }
def hm (st c : Nat) : HelloMsg := ⟨5, 5, 0x10000, st, BitVec.ofNat 24 c, 0, 0xA0, 0xA1, 0⟩
def bc (fl : Nat) (sg : Word) : BeaconMsg := ⟨12, 0, BitVec.ofNat 8 fl, 77, 3, 0, sg, ({}:State).cfgDigest, List.replicate 16 0⟩
def hm2 (st c : Nat) : HelloMsg := ⟨5, 7, ({}:State).ob oidFwVersion, st, BitVec.ofNat 24 c, 0, 0xA0, 0xA1, ({}:State).cfgDigest⟩
def psr : PsRecord := ⟨0xC0000, 1, 2, 3, 4, 5, none⟩
def imr : MirrorRec := .image true 3
def cpS (st stt : Nat) (x : TwinSt) : State := (tw st x).put oidTwinStatus (wd stt)
def gS (g : Nat) (c : GCh) (q : GuardSt) : State := { ({} : State).put (oidPortState (g / 32)) 3 with guard := { q with chs := if c = {} then [] else [(g, c)] }, mix := { sinkOut := [(guardSink g, 0x7FFFFFF0)] } }
def okq : GuardSt := { safe := [], sys := false }
def iM : GInst := { m := 2^30, xs := [0x80000000, 0x7FFFFFFF] }
def hq (n : Nat) : GuardSt := { okq with holder := some n }
def acc2 : Access := ⟨3, 1, true⟩
def fz : State := ((gS 65 {} (hq 3)).put (oidGuardFuseRange 4) (wd (64 + 65536 * 70))).put (oidGuardFuseCeil 4) 0xFFFFFFA0
def fwh : List Byte := [83,72,70,87,3,0,2,1,255,255,255,255,0,0,0,0,107,23,209,242,225,44,66,71,248,188,230,229,99,164,64,242,119,
  3,125,129,45,235,51,160,244,161,57,69,216,152,194,150,79,227,66,226,254,26,127,155,142,231,235,74,124,15,158,22,43,206,51,87,107,
  49,94,206,203,182,64,104,55,191,81,245,107,23,209,242,225,44,66,71,248,188,230,229,99,164,64,242,119,3,125,129,45,235,51,160,244,
  161,57,69,216,152,194,150,182,90,88,108,168,9,87,65,182,131,190,177,92,217,98,9,118,48,161,184,199,160,7,179,205,76,253,250,148,
  171,28,244,0,0,0,0,0,0,0,0,0,0,0,0,0,0,0,0,0,0,0,0,0,0,0,0,0,0,0,0,0,0,0,0,0,0,0,0,0,0,0,0,0,0,0,0,0,0,0,0,0,0,0,0,0,0,0,0,0,0,0,
  0,0,0,0,0,0,0,0,0,0,0,0,0,0,0,0,0,0,0,0,0,0,0,0,0,0,0,0,0,0,0,0,0,0,0,0,0,0,0,0,0,0,0,0,0,0,0,0,0,0,0,0,
  0].map (fun (n : Nat) => (BitVec.ofNat 8 n : Byte))
def pkey (x : PowerSt) : PowerSt := { x with otpMin := 0, otpKey := 0xd875db7def232236aec738c6b0bb3e80142f5d0fd8f4df24fed6eef5cbb50d9f }
def pw (st : Nat) (x : PowerSt) : State := { ({} : State).put oidPwrState (wd st) with pwr := x }
def wc (v : Nat) (s : State) : State := s.put oidChrWakeCfg (wd v)
def rich (s : State) : State := ((s.setSes 3 ses1).setTile 4 { cyc := 7 }).setTileState 4 1
def wt0 : Waiting := ⟨5, 0x11, [k1]⟩
def jr1 : JRec := { seq := 1, kind := 2, oid := oidBridgeMode, value := 1 }
def jl : JnlSt := { live := [{ idx := 4, recs := [{ seq := 1, kind := 1 }, jr1] }] }
def jn (st : Nat) (j : JnlSt) : State := { ({} : State).put oidJnlState (wd st) with jnl := j }
def rec (n : Nat) : JRec := { seq := BitVec.ofNat 32 n, kind := 2, oid := oidBridgeMode, value := 1 }
def seg : JSeg := { idx := 4, recs := [{ seq := 1, kind := 1 }] }
def cc : Comp := { region := false, cut := 2, instar := 3 }
def dd : Snap := { gen := 1, cut := 2, instar := 3, close := 0 }
def smp : State := { ({} : State) with mix := { sinks := [(65, { src := 5 })], srcNow := [(5, 0x12345678)] } }
def imgQ : ImgBuf := mkImg 8 4608 (2 ^ 4) [
  (1, 4, 8, List.replicate 128 0), (6, 4, 1, leB 4 200 ++ leB 2 64 ++ [0, 0]), (0x10, 0xFF, 1, leB 3 oidBridgeMode ++ [0, 4, 1] ++ leB 2 9 ++ leB 2 0 ++ [0, 0])]

/-! ### What the spec's own examples give -/

/-- R44, R47–R50: the rows of the example of 02_tile_datapath.md: A0 holds 0.5 + 2^−32, A1 holds 1.25. -/
theorem test_store_rows :
    let a0 : AccVal := ⟨0x0000_2000_0000_4000_0000, false, false⟩
    let a1 : AccVal := ⟨0x0000_5000_0000_0000_0000, false, false⟩
    storeValue a0 0 0 = (0x4000_0000, false) ∧ residueValue a0 0 0 = 0x4000_0000 ∧
    storeValue a0 0 1 = (0x4000_0001, false) ∧ residueValue a0 0 1 = 0xC000_0000 ∧
    storeValue a0 0 2 = (0x4000_0000, false) ∧ residueValue a0 0 2 = 0x4000_0000 ∧
    storeValue a1 0 0 = (0x7FFF_FFFF, true) ∧ residueValue a1 0 0 = 0 ∧
    storeValue a1 3 0 = (0x0A00_0000, false) ∧ residueValue a1 3 0 = 0 := by decide +kernel
/-- R61, R62: the circular example of AS3: 45, 2, 7, 12, and 2 − 5 gives 45. -/
theorem test_circular :
    let k (p : Nat) (d : Int) : Nat := ({ base := 0x1200, len := 48, step := 5, mode := 1, ptr := p } : AddrSet).advance d
    k 45 5 = 2 ∧ k 2 5 = 7 ∧ k 7 5 = 12 ∧ k 2 (-5) = 45 := by decide +kernel
/-- R63: the bit-reversed example of AS6, with BRW 3 and with BRW 10. -/
theorem test_bit_reversed :
    let k (w p : Nat) : Nat := ({ base := 0x0800, brw := w, step := 1, mode := 2, ptr := p } : AddrSet).advance 1
    [k 3 0, k 3 4, k 3 2, k 3 6, k 3 1, k 3 5, k 3 3, k 3 7] = [4, 2, 6, 1, 5, 3, 7, 0] ∧ [k 10 0, k 10 512, k 10 256] = [512, 256, 768] := by
  decide +kernel
/-- R65: LEN 40 written to AS3 takes effect in AS4 too, and AS3's pointer is reduced. -/
theorem test_shared_buffer :
    let t : Tile := { sets := [(3, { base := 0x1200, len := 48, mode := 1, ptr := 43 }), (4, { base := 0x1200, len := 48, mode := 1, ptr := 12 })], shadows := [(3, { len := some 40 })] }
    (t.applyShadows.as' 3).ptr = 3 ∧ (t.applyShadows.as' 4).len = 40 ∧ (t.applyShadows.as' 4).ptr = 12 := by decide +kernel
/-- R66: the leading-sign counts of the block exponent example. -/
theorem test_leading_sign :
    leadSign 0x0800_0000 = 3 ∧ leadSign 0xF000_0000 = 3 ∧ leadSign 0x0010_0000 = 10 ∧ leadSign 0 = 31 ∧ leadSign 0xFFFF_FFFF = 31 := by
  decide +kernel
/-- R84–R103: the inner word of the crosspoint example carries its four operations, by the field table of
03_tile_instructions.md. -/
theorem test_word :
    let p : Slot := ⟨12, 0, ⟨0, false⟩⟩
    wordOps 12 (2 ^ 122 + 2 ^ 118 + 2 ^ 113 + 2 ^ 110 + 2 ^ 107 + 2 ^ 83 + 2 ^ 76 + 2 ^ 71 + 2 ^ 70 + 2 ^ 64 + 2 ^ 60 + 2 ^ 58 + 2 ^ 55 + 2 ^ 16 + 2 ^ 11) =
      [.mac p 0 8 9 0 2, .rdb p 3 0 8 ⟨0, 0, []⟩, .rd p true 1 9 ⟨0, 0, []⟩, .aguPlusStep p 0 1] := by decide +kernel
/-- R159, R160: XP_LEVEL 0.0 dB, XP_ON 1 and a centred pan give 0x16A0_9E66 under CONST_POWER for both buses of a linked
pair, and 0x1000_0000 under LINEAR. -/
theorem test_pan_centre :
    let on (o : Nat) (s : State) : State := s.setPe o { psDflt o with start := 1, target := 1 }
    let s := on (oidBusLink 16) (on (oidXpTap 9488) (on (oidXpOn 9488) {}))
    s.xpCoef 9488 true 0 = 0x16A0_9E66 ∧ s.xpCoef 9489 true 0 = 0x16A0_9E66 ∧
    (on (oidBusPanLaw 16) s).xpCoef 9488 true 0 = 0x1000_0000 ∧ (on (oidBusPanLaw 16) s).xpCoef 9489 true 0 = 0x1000_0000 := by
  decide +kernel
/-- R177: at k = 127 of 256 the equal-power weights are 0x2D41_3CCD, the equal-gain weights 0x2000_0000. -/
theorem test_crossfade_midpoint :
    xfWeights false 127 256 = (0x2D41_3CCD, 0x2D41_3CCD) ∧ xfWeights true 127 256 = (0x2000_0000, 0x2000_0000) := by decide +kernel
/-- R273: LIN3 and MIN3 are refused at OSR 64, where R would be 8; at OSR 128 they are not. -/
theorem test_chain_rate : modRBad (4 * 128) 0 = true ∧ modRBad (5 * 128) 0 = true ∧ modRBad (4 * 128) 8 = false := by decide +kernel
/-- The digest of R117 on the empty and on the one-block message of FIPS 180-4, the CRC of R458 on the nine digits. -/
theorem test_digests :
    (sha256 []).take 4 = [0xE3, 0xB0, 0xC4, 0x42] ∧ (sha256 [0x61, 0x62, 0x63]).take 4 = [0xBA, 0x78, 0x16, 0xBF] ∧
    crc32c [0x31, 0x32, 0x33, 0x34, 0x35, 0x36, 0x37, 0x38, 0x39] = 0xE306_9283 := by decide +kernel
/-- R213, R407: binary32 sums and products are rounded once, to nearest even. -/
theorem test_binary32 :
    f32Add 0x3F80_0000 0x3380_0000 = 0x3F80_0000 ∧ f32Add 0x3F80_0001 0x3380_0000 = 0x3F80_0002 ∧ f32Mul 0x3FC0_0000 0x4000_0000 = 0x4040_0000 ∧
    f32Div 0x3F80_0000 0x4040_0000 = 0x3EAA_AAAB := by decide +kernel
/-- R530: the word at offset 0 of the entry of an uncorrectable DM error in tile 12 at word 0x1A40, class 2. -/
theorem test_fault_word :
    (({} : State).putFault 0 0 0 2 0x0180_1A40 0 0).ob (oidFaultWord 0) = 0x3003_4802 := by decide +kernel
/-- R595: DIE_TEMP 0x05B4 is 91.25 °C, in sixteenths. -/
theorem test_die_temp : ((match execDieTempUpdate 0x05B4 {} with | .next t => t | _ => {}).ob oidDieTemp).toInt = 16 * 91 + 4 := by
  decide +kernel
/-- R56: a write stores only in the lanes whose predicate is true. -/
theorem test_masked_write :
    let s := tileS { cyc := 100, d := [(8, 5), (9, 6)], k := [(8, true)] }
    let u := ((match execWr ⟨4, 0, ⟨1, false⟩⟩ 0 1 s with | .next u => u | _ => {}).tile 4).tick.tick
    u.dmw 0 0 = 5 ∧ u.dmw 0 1 = 0 := by decide +kernel

/-! ### Ill-formed commands -/

/-- No command of the list is well formed. -/
def refused (l : List Instr) : Bool := l.all (fun i => !i.wf)
def hdWf : Hdr := ⟨⟨1, 2, 0, 0⟩, 3, 5, none, none⟩
def hdUdp : Hdr := ⟨⟨4, 0, 0, 65536⟩, 3, 5, none, none⟩
def hdPort : Hdr := ⟨⟨1, 8, 0, 0⟩, 3, 5, none, none⟩
def rqWf : BusReq := ⟨1, 0x5000_0000, false, true, 4, 1, 0, [1, 2, 3, 4], 0, 0, false⟩
def bmWf : BeaconMsg := ⟨12, 0, 0, 77, 3, 0, 5, 0, List.replicate 16 0⟩
def pkWf : MediaPkt := { aaf := false, dmac := 0x0100_5E00_0001, dest := 0xE100_0001, port := 0, srcIp := 0, ptype := 96, chans := 2, fmt := 1, rate := 48000, seq := 5, ts := 5, ext := none, ssrc := 0, vlan := 0, dscp := 0, payload := [] }

/-- The terms that the refused ones differ from in one operand are well formed. -/
theorem test_wf_accepts : [.keepalive hdWf, .busAccess [rqWf], .beacon bmWf false true 0, .mediaRxPacket 0 pkWf, .registerWrite ⟨0, 1, true⟩ 0xFF_FFFF 0,
    .frameReceive 0 true [] [(0x5000_0000, 128)] false].all Instr.wf = true := by decide +kernel
/-- A UDP port beyond 16 bits and a host channel beyond 7, for every command with a header. -/
theorem test_wf_header : [hdUdp, hdPort].all (fun h => refused [.writeStage h 0 0 [], .commit h 0 0 0 0 0, .publish h 0 0, .openSession h 0 1 0 0 false,
    .closeSession h, .keepalive h, .read h 0 [], .write h [], .readBlock h 0 1 0, .writeBlock h 0 [], .describe h 0 0, .subscribe h 0 0, .syncSummary h,
    .frameTx h 0 false 0 []]) = true := by decide +kernel
/-- A beat of 3 bytes, no beat, 17 beats, a wrap of 5, an address beyond 32 bits, a write without its data, a lock code of 5, a
locked burst of two beats. -/
theorem test_wf_burst : refused [.busAccess [{ rqWf with beat := 3 }], .busAccess [{ rqWf with beats := 0, data := [] }],
    .busAccess [{ rqWf with beats := 17, write := false }], .busAccess [{ rqWf with wrap := 5 }], .busAccess [{ rqWf with addr := 2 ^ 32 }],
    .busAccess [{ rqWf with data := [1] }], .busAccess [{ rqWf with lock := 5 }],
    .busAccess [{ rqWf with lock := 1, beats := 2, data := [1, 2, 3, 4, 5, 6, 7, 8] }]] = true := by decide +kernel
/-- A DMEM address beyond the image regions, in each report of the loader and in a scrub. -/
theorem test_wf_dmem : refused [.imgLoadDone (some (2 ^ 27)), .spareLoadDone 0 (.image (2 ^ 27)), .spareLoadDone 0 (.ckpt (2 ^ 27) 0),
    .tileReloadDone 0 (.image (2 ^ 27)), .tileReloadDone 0 (.ckpt (2 ^ 27) 0), .dmemScrub (2 ^ 27) false 0] = true := by decide +kernel
/-- A receive buffer below T7, past its end, too small, too large, of a length that 64 does not divide. -/
theorem test_wf_buffers : refused [.frameReceive 0 true [] [(0x4FFF_FFC0, 128)] false, .frameReceive 0 true [] [(0x503F_FFC0, 128)] false,
    .frameReceive 0 true [] [(0x5000_0000, 64)] false, .frameReceive 0 true [] [(0x5000_0000, 2112)] false,
    .frameReceive 0 true [] [(0x5000_0000, 160)] false, .frameReceive 0 true [] (List.replicate 1025 (0x5000_0000, 128)) false] = true := by
  decide +kernel
/-- The reports of a grain, a sample and a silence hold: a delay line, a tap, a clock group, a chain and a bridge group that do not exist. -/
theorem test_wf_reports : refused [.grainBoundary [] [] [⟨4096, 0, false, false⟩] [], .grainBoundary [] [] [] [(2 ^ 24, 0, 0)],
    .sampleBoundary .a [1, 1, 1, 1, 1] [] [], .sampleBoundary .a [] [(64, [])] [], .sampleBoundary .a [] [] [⟨16, 0, 0, 0⟩],
    .silHoldExpire 0 [(2 ^ 24, 0, 0)]] = true := by decide +kernel
/-- A sink and a delay line that do not exist; an OID beyond its field. -/
theorem test_wf_numbers : refused [.patchXfEnd 0x1000, .patchDeferredStart 0x1000, .patchStatusWrite ⟨0, 1, true⟩ 0x1000 0, .dlXfEnd 4096,
    .psScrub (2 ^ 24) .clean, .registerWrite ⟨0, 1, true⟩ (2 ^ 24) 0, .writeStage hdWf 0 0 [⟨2 ^ 32, 0, 0⟩], .read hdWf 0 [2 ^ 32], .write hdWf [(2 ^ 32, 0)],
    .readBlock hdWf (2 ^ 32) 1 0, .writeBlock hdWf (2 ^ 32) [], .describe hdWf (2 ^ 32) 0] = true := by decide +kernel
/-- More entries than a count field holds, more bytes than a frame. -/
theorem test_wf_counts : refused [.writeStage hdWf 0 0 (List.replicate 256 ⟨0, 0, 0⟩), .read hdWf 0 (List.replicate 256 0),
    .frameTx hdWf 0 false 0 (List.replicate 1425 0), .tdmFrame 0 ⟨true, List.replicate 2049 ⟨⟨false, false⟩, ⟨false, false⟩⟩, 0, 0⟩,
    .pauseRx 0 true 0 [0], .pauseRx 0 false 0 []] = true := by decide +kernel
/-- Longer than a 16-bit length says. -/
theorem test_wf_long (b : List Byte) (es : List (Nat × Word)) (ws : List Word) (hb : b.length = 65536) (he : es.length = 65536)
    (hw : ws.length = 65536) : (Instr.write hdWf es).wf = false ∧ (Instr.writeBlock hdWf 0 ws).wf = false ∧
    (Instr.frameReceive 0 true b [] false).wf = false ∧ (Instr.send 0 true true false b).wf = false ∧
    (Instr.memRead true 0 65536 false).wf = false ∧ (Instr.memWrite true 0 b false).wf = false := by
  refine ⟨?_, ?_, ?_, ?_, rfl, ?_⟩
  · show (hdWf.wf && decide (es.length ≤ 65535) && es.all (fun e => decide (e.1 < 2 ^ 32))) = false
    rw [he]; rfl
  · show (hdWf.wf && decide (0 < 2 ^ 32) && decide (ws.length ≤ 65535)) = false
    rw [hw]; rfl
  · show (decide (b.length ≤ 65535) && decide (([] : List (Nat × Nat)).length ≤ 1024) && ([] : List (Nat × Nat)).all bufWf) = false
    rw [hb]; rfl
  · show decide (b.length ≤ 65535) = false
    rw [hb]; rfl
  · show decide (b.length ≤ 65535) = false
    rw [hb]; rfl
/-- A media format beyond 3, a beacon without its 16 phases, a firmware header of another length, a digest of another length. -/
theorem test_wf_messages : refused [.mediaRxPacket 0 { pkWf with fmt := 4 }, .beacon { bmWf with phases := [] } false true 0,
    .fwVerifyDone (some ([], [])), .mgmtRestartDone []] = true := by decide +kernel

/-! ### Witnesses -/

theorem macs_wf {s : State} (h : mapWf oidDflt s.obj = true) : mapWf oidDflt (macs s).obj = true :=
  State.put_wf (State.put_wf (State.put_wf (State.put_wf (State.put_wf h _ _) _ _) _ _) _ _) _ _
theorem macs_ob {s : State} (h : mapWf oidDflt s.obj = true) (o : Nat) : (macs s).ob o =
    if o = oidLaneMacLo 2 then 3 else if o = oidLaneMacLo 1 then 2 else if o = oidLaneMacLo 0 then 1
    else if o = oidLaneMacHi 1 then 0x0200 else if o = oidLaneMacHi 0 then 0x0200 else s.ob o := by
  unfold macs
  rw [State.ob_put (State.put_wf (State.put_wf (State.put_wf (State.put_wf h _ _) _ _) _ _) _ _), State.ob_put (State.put_wf (State.put_wf (State.put_wf h _ _) _ _) _ _),
    State.ob_put (State.put_wf (State.put_wf h _ _) _ _), State.ob_put (State.put_wf h _ _), State.ob_put h]
theorem macs_laneUp {s : State} (h : mapWf oidDflt s.obj = true) (l : Nat) (hl : l < 4) : (macs s).laneUp l = s.laneUp l := by
  unfold State.laneUp State.lane State.obn
  have e (k n : Nat) (hk : k = 2 ∨ k = 3) (hn : n < 3) : oidLaneState l ≠ 0xFD000 + k + 0x40 * n := by unfold oidLaneState; omega
  rw [macs_ob h, if_neg (e 3 2 (by decide) (by decide)), if_neg (e 3 1 (by decide) (by decide)), if_neg (e 3 0 (by decide) (by decide)), if_neg (e 2 1 (by decide) (by decide)),
    if_neg (e 2 0 (by decide) (by decide))]
theorem macs_mac0 {s : State} (h : mapWf oidDflt s.obj = true) : (macs s).mac 0 = 0x020000000001 := by
  unfold State.mac State.obn
  rw [macs_ob h, macs_ob h]
  simp [oidLaneMacHi, oidLaneMacLo]
theorem macs_mac2 {s : State} (h : mapWf oidDflt s.obj = true) : (macs s).mac 2 % 2 ^ 32 = 3 := by
  unfold State.mac State.obn
  rw [macs_ob h (oidLaneMacLo 2), if_pos rfl, Nat.mul_comm, Nat.mul_add_mod]
  rfl
theorem jnlS_le (m : Nat) : jnlS m ≤ 33554432 := by unfold jnlS; split <;> decide


/-- An empty queue, and a queue with one command. -/
theorem witness_StepRunsFront : ({} : State).pending = [] := rfl
theorem witness_CanonicalKept : Canonical State.reset ∧ step State.reset = .next State.reset.engineCycle :=
  ⟨by unfold Canonical; decide +kernel, rfl⟩
theorem witness_QueueKept :
    step { State.reset with pending := [.altWaitExpire, .helloSend] } = .next { State.reset with pending := [.helloSend] } := rfl
/-- The tile of `sA` may issue, alone: where its word is empty, and where its word is an AGU update. -/
def cycS : State := tileS { cyc := 100 }
def cycW : State := tileS { cyc := 100, pm := [(0, 2 ^ 16 + 2 ^ 11)] }
def cycU : State := match execAguPlusStep ⟨4, 0, ⟨0, false⟩⟩ 0 1 cycW with | .next t => t | _ => {}
theorem witness_WordsAndCycles :
    (Canonical ({} : State) ∧ ∀ q : Fin 36, ({} : State).canIssue ⟨q, 0, ⟨0, false⟩⟩ = false) ∧
    (Canonical cycS ∧ cycS.pending = [] ∧ cycS.canIssue ⟨4, 0, ⟨0, false⟩⟩ = true ∧
      (∀ q : Fin 36, q ≠ 4 → cycS.canIssue ⟨q, 0, ⟨0, false⟩⟩ = false) ∧ wordOps 4 (mapGet (fun _ => 0) (cycS.tile 4).pm (cycS.tile 4).ip) = []) ∧
    (Canonical cycW ∧ cycW.pending = [] ∧ cycW.canIssue ⟨4, 0, ⟨0, false⟩⟩ = true ∧
      (∀ q : Fin 36, q ≠ 4 → cycW.canIssue ⟨q, 0, ⟨0, false⟩⟩ = false) ∧
      wordOps 4 (mapGet (fun _ => 0) (cycW.tile 4).pm (cycW.tile 4).ip) = [.aguPlusStep ⟨4, 0, ⟨0, false⟩⟩ 0 1]) := by
  refine ⟨⟨?_, ?_⟩, ⟨?_, ?_, ?_, ?_, ?_⟩, ⟨?_, ?_, ?_, ?_, ?_⟩⟩ <;> (try unfold Canonical) <;> decide +kernel
set_option maxRecDepth 100000 in
theorem witness_WordsAndCycles_quiet : exec (.checkpointCycle 4 0) cycS = .next cycS ∧ exec (.t3WindowService 4 0) cycS = .next cycS := ⟨rfl, rfl⟩
set_option maxRecDepth 100000 in
theorem witness_WordsAndCycles_acts : exec (.aguPlusStep ⟨4, 0, ⟨0, false⟩⟩ 0 1) cycW = .next cycU ∧
    exec (.checkpointCycle 4 0) cycU = .next cycU ∧ exec (.t3WindowService 4 0) cycU = .next cycU := ⟨rfl, rfl, rfl⟩

theorem witness_AluRegister :
    let s : State := sA; let p : Slot := sl0; Canonical s ∧ s.issues p .alu = true := by
  (try unfold Canonical) <;> (try dsimp only) <;> decide +kernel

theorem witness_RoundingAndOverflow :
    (let a : Int := (7:Int); let n : Nat := (1:Nat); let q := rneShift a n; let w : Word := (0xFFFF0000:Word); let i := (7:Int); n ≠ 0 ∧ (2 * (q * 2 ^ n - a) = 2 ^ n ∨ 2 * (a - q * 2 ^ n) = 2 ^ n) ∧ i < leadSign w ∧ leadSign w < 31) ∧
    (let a : Int := 7; let n : Nat := 1; let q := roundMode 0 a n; n ≠ 0 ∧ (2 * (q * 2 ^ n - a) = 2 ^ n ∨ 2 * (a - q * 2 ^ n) = 2 ^ n)) ∧
    (let xs : List Int := [2^78, 2^78, -5, 2^79]; let a : AccVal := ⟨3, false, false⟩; let r := xs.foldl (fun b x => accResult b (b.v.toInt + x)) a; a.aov = false ∧ r.aov = true) ∧
    (let xs : List Int := [2^78, -5]; let a : AccVal := ⟨3, false, false⟩; let r := xs.foldl (fun b x => accResult b (b.v.toInt + x)) a; a.aov = false ∧ r.aov = false) := by
  refine ⟨?_, ?_, ?_, ?_⟩ <;> (try unfold Canonical) <;> (try dsimp only) <;> decide +kernel

theorem witness_AluSaturating :
    let s : State := sA; let p : Slot := sl0; Canonical s ∧ s.issues p .alu = true := by
  (try unfold Canonical) <;> (try dsimp only) <;> decide +kernel

theorem witness_VariableShifts :
    let s : State := sA; let p : Slot := sl0; Canonical s ∧ s.issues p .alu = true := by
  (try unfold Canonical) <;> (try dsimp only) <;> decide +kernel

theorem witness_Compares :
    (let s : State := sA; let p : Slot := sl0; let c : Fin 8 := 0; Canonical s ∧ s.issues p .alu = true ∧ c.val < 6) ∧
    (let s : State := sA; let p : Slot := sl1; let c : Fin 8 := 6; Canonical s ∧ s.issues p .alu = true ∧ 6 ≤ c.val) := by
  refine ⟨?_, ?_⟩ <;> (try unfold Canonical) <;> (try dsimp only) <;> decide +kernel

theorem witness_AluPredicates :
    let s : State := sA; let p : Slot := sl1; Canonical s ∧ s.issues p .alu = true := by
  (try unfold Canonical) <;> (try dsimp only) <;> decide +kernel

theorem witness_MacSlot :
    let s : State := sA; let p : Slot := sl0; Canonical s ∧ s.issues p .mac = true := by
  (try unfold Canonical) <;> (try dsimp only) <;> decide +kernel

theorem witness_AccumulatorStores :
    (let s : State := sA; let p : Slot := sl0; let rm : Fin 4 := 0; Canonical s ∧ s.issues p .store = true ∧ rm ≠ 3) ∧
    (let s : State := sA; let p : Slot := sl0; let rm : Fin 4 := 3; Canonical s ∧ s.issues p .store = true ∧ rm = 3) ∧
    (let g : Nat := 8; let p : Nat := 3; let j : Nat := 5; let k : Nat := 31; p < g ∧ j < g ∧ k < 32) := by
  refine ⟨?_, ?_, ?_⟩ <;> (try unfold Canonical) <;> (try dsimp only) <;> decide +kernel

theorem witness_MemorySlots :
    (let s : State := sA; let p : Slot := sl0; let m1 : Bool := true; let κ := SlotKind.mem1; Canonical s ∧ κ = (if m1 = true then SlotKind.mem1 else .mem0) ∧ s.issues p κ = true ∧ s.issues p .mem0 = true ∧ s.issues p .mem1 = true) ∧
    (let t : Tile := tA; let a : Nat := 1; mapWf (fun _ => (0 : Word)) t.dm = true ∧ a < 16384) := by
  refine ⟨?_, ?_⟩ <;> (try unfold Canonical) <;> (try dsimp only) <;> decide +kernel

theorem witness_PointersAndCrossbar :
    (let s : State := sA; let p : Slot := sl0; let n : Fin 4 := 0; Canonical s ∧ s.issues p (.agu n) = true) ∧
    (let s : State := sA; let p : Slot := sl1; let ch : Fin 2 := 0; let perr : Byte := 0xFF; let b := s.toWord p; let n : Nat := p.tile; let u := opTile s p (.recv ch); let owner := b.img.active.txbOwner (b.workOf n) u.cyc ch; Canonical s ∧ s.issues p (.send ch) = true ∧ s.issues p (.recv ch) = true ∧ owner = none ∧ perr &&& u.mask p.pred ≠ 0) ∧
    (let s : State := ((sA.setTile 5 { cyc := 100, sends := [⟨96, 1, [1,2,3,4,5,6,7,8]⟩] }).setTileState 5 2); let p : Slot := ⟨4, 0, ⟨0, false⟩⟩; let ch : Fin 2 := 0; let perr : Byte := 0x0; let b := s.toWord p; let n : Nat := p.tile; let u := opTile s p (.recv ch); let owner := b.img.active.txbOwner (b.workOf n) u.cyc ch; let src := (5:Nat); let sch := (1:Nat); let x := (⟨96, 1, [1,2,3,4,5,6,7,8]⟩ : TxbSend); let q := b.carrierOf src; Canonical s ∧ s.issues p (.recv ch) = true ∧ owner = some (src, sch) ∧ b.tileState q = 2 ∧ q ≠ n ∧ x ∈ (b.tile q).sends ∧ x.cyc + (if q / 9 = n / 9 then 4 else 6) = u.cyc ∧ x.ch = sch ∧ (∀ y ∈ (b.tile q).sends, y.cyc = x.cyc → y.ch = x.ch → y = x) ∧ perr &&& u.mask p.pred = 0) := by
  refine ⟨?_, ?_, ?_⟩ <;> (try unfold Canonical) <;> (try dsimp only) <;> decide +kernel

theorem witness_LoopsAndIssue :
    (let s : State := sA; let p : Slot := sl0; let lv : Fin 4 := 0; let n : BitVec 16 := 3; let e : BitVec 13 := 5; let u := opTile s p .loop; let inside (v : Nat) : Prop := (u.loop v).left ≠ 0 ∧ (u.loop v).first ≤ u.ip ∧ u.ip ≤ (u.loop v).last ∧ e.toNat ≤ (u.loop v).last; let good : Prop := n ≠ 0 ∧ u.ip < e.toNat ∧ e.toNat < s.img.active.progLen (s.workOf p.tile) ∧ (∀ v, lv.val ≤ v → v < 4 → (u.loop v).left = 0) ∧ (lv = 0 ∨ inside (lv - 1)); Canonical s ∧ s.issues p .loop = true ∧ good) ∧
    (let s : State := sA; let p : Slot := sl0; let lv : Fin 4 := 1; let n : BitVec 16 := 3; let e : BitVec 13 := 5; let u := opTile s p .loop; let inside (v : Nat) : Prop := (u.loop v).left ≠ 0 ∧ (u.loop v).first ≤ u.ip ∧ u.ip ≤ (u.loop v).last ∧ e.toNat ≤ (u.loop v).last; let good : Prop := n ≠ 0 ∧ u.ip < e.toNat ∧ e.toNat < s.img.active.progLen (s.workOf p.tile) ∧ (∀ v, lv.val ≤ v → v < 4 → (u.loop v).left = 0) ∧ (lv = 0 ∨ inside (lv - 1)); Canonical s ∧ s.issues p .loop = true ∧ ¬good) ∧
    (let t : Tile := { tA with ip := 8191 }; let v : Nat := 1; let ends (k : Nat) : Prop := (t.loop k).left ≠ 0 ∧ (t.loop k).last = t.ip; v < 4 ∧ mapWf (fun _ => ({} : LoopLevel)) t.loops = true ∧ (∀ k, k < 4 → ¬ends k)) ∧
    (let t : Tile := { tA with ip := 6, loops := [(0, ⟨2, 6, 3⟩)] }; let v : Nat := 0; let ends (k : Nat) : Prop := (t.loop k).left ≠ 0 ∧ (t.loop k).last = t.ip; v < 4 ∧ mapWf (fun _ => ({} : LoopLevel)) t.loops = true ∧ ends v ∧ (∀ k, k < 4 → v < k → ¬ends k) ∧ 1 < (t.loop v).left) ∧
    (let t : Tile := { tA with ip := 6, loops := [(0, ⟨2, 6, 1⟩)] }; let v : Nat := 0; let ends (k : Nat) : Prop := (t.loop k).left ≠ 0 ∧ (t.loop k).last = t.ip; v < 4 ∧ mapWf (fun _ => ({} : LoopLevel)) t.loops = true ∧ ends v ∧ (∀ k, k < 4 → k ≠ v → ¬ends k) ∧ (t.loop v).left = 1) ∧
    (let s : State := baseS; let c : Instr := .mov sl0 1 2; let p : Slot := sl0; let k : SlotKind := .alu; let n : Nat := p.tile; let x := s.tile n; let may : Prop := s.tileState n = 2 ∧ 96 ≤ x.cyc ∧ x.cyc + p.adv < s.cs * s.gsize; slotOf c = some (p, k) ∧ s.issues p k = false ∧ ¬may) ∧
    (let s : State := tileS { tA with pmErr := [(0, true)] }; let c : Instr := .mov ⟨4, 1, ⟨0, false⟩⟩ 1 2; let p : Slot := ⟨4, 1, ⟨0, false⟩⟩; let k : SlotKind := .alu; let n : Nat := p.tile; let x := s.tile n; let may : Prop := s.tileState n = 2 ∧ 96 ≤ x.cyc ∧ x.cyc + p.adv < s.cs * s.gsize; let ue := true; slotOf c = some (p, k) ∧ may ∧ Canonical s ∧ p.adv = 1 ∧ x.pmHits = [] ∧ x.pmErr = [(x.ip, ue)] ∧ ue = true) ∧
    (let s : State := sA; let c : Instr := .mov sl0 1 2; let p : Slot := sl0; let k : SlotKind := .alu; let n : Nat := p.tile; let x := s.tile n; let may : Prop := s.tileState n = 2 ∧ 96 ≤ x.cyc ∧ x.cyc + p.adv < s.cs * s.gsize; slotOf c = some (p, k) ∧ may ∧ Canonical s ∧ x.pmErr = [] ∧ x.pmHits = []) ∧
    (let s : State := tileS { tA with pmErr := [(0, false)] }; let c : Instr := .mov ⟨4, 1, ⟨0, false⟩⟩ 1 2; let p : Slot := ⟨4, 1, ⟨0, false⟩⟩; let k : SlotKind := .alu; let n : Nat := p.tile; let x := s.tile n; let may : Prop := s.tileState n = 2 ∧ 96 ≤ x.cyc ∧ x.cyc + p.adv < s.cs * s.gsize; let ue := false; slotOf c = some (p, k) ∧ may ∧ Canonical s ∧ p.adv = 1 ∧ x.pmHits = [] ∧ x.pmErr = [(x.ip, ue)] ∧ ue = false) ∧
    (let s : State := tileS { tA with pmErr := [(0, true)] }; let c : Instr := .mov sl0 1 2; let p : Slot := sl0; let k : SlotKind := .alu; let n : Nat := p.tile; let x := s.tile n; let may : Prop := s.tileState n = 2 ∧ 96 ≤ x.cyc ∧ x.cyc + p.adv < s.cs * s.gsize; slotOf c = some (p, k) ∧ may ∧ Canonical s ∧ p.adv = 0 ∧ x.pmHits = [] ∧ x.pmErr.contains (x.ip, true) = true) := by
  refine ⟨?_, ?_, ?_, ?_, ?_, ?_, ?_, ?_, ?_, ?_⟩ <;> (try unfold Canonical) <;> (try dsimp only) <;> decide +kernel

theorem witness_Landing :
    (let t : Tile := { lands := [⟨105, 2, 7, .reg 5 3 [9, 8, 7]⟩], d := [(40, 4)] }; let d : Fin 32 := 5; let m : Byte := 3; let vals : List Word := [9, 8, 7]; let at' : Nat := 105; let prio : Nat := 2; let seq : Nat := 7; let c : Nat := 105; mapWf (fun _ => (0 : Word)) t.d = true ∧ t.lands = [⟨at', prio, seq, .reg d m vals⟩] ∧ at' ≤ c) ∧
    (let t : Tile := { lands := [⟨105, 2, 7, .reg 5 3 [9, 8, 7]⟩], d := [(40, 4)] }; let d : Fin 32 := 5; let m : Byte := 3; let vals : List Word := [9, 8, 7]; let at' : Nat := 105; let prio : Nat := 2; let seq : Nat := 7; let c : Nat := 104; mapWf (fun _ => (0 : Word)) t.d = true ∧ t.lands = [⟨at', prio, seq, .reg d m vals⟩] ∧ c < at') := by
  refine ⟨?_, ?_⟩ <;> (try unfold Canonical) <;> (try dsimp only) <;> decide +kernel

theorem witness_TileDataOutsideWords :
    (let s : State := sA; let acc : Access := acc1; let n : Fin 36 := 4; let k : Fin 16 := 3; let v : Word := 0x00020007; let p := (s.asTile n).1; let base := v.toNat % 2 ^ 14; let len := v.toNat / 2 ^ 14 % 2 ^ 15; let md := v.toNat / 2 ^ 16 % 4; let brw := v.toNat / 2 ^ 18 % 16; let r := ((0x100, 0x100) : Nat × Nat); Canonical s ∧ mapWf (fun _ => ({} : AsShadow)) (s.tile p).shadows = true ∧ s.admits acc (oidAsGeom n k) v = true ∧ s.img.active.tunable (s.asTile n).2 k = some r ∧ (len = 0 ∨ 16384 < len ∨ base < r.1 ∨ r.1 + r.2 < base + len) ∧ s.admits acc (oidAsStepmod n k) v = true ∧ (md = 3 ∨ md = 2 ∧ (brw = 0 ∨ brw = 15))) ∧
    (let s : State := sA; let acc : Access := acc1; let n : Fin 36 := 4; let k : Fin 16 := 3; let v : Word := 0x00100140; let p := (s.asTile n).1; let base := v.toNat % 2 ^ 14; let len := v.toNat / 2 ^ 14 % 2 ^ 15; let md := v.toNat / 2 ^ 16 % 4; let brw := v.toNat / 2 ^ 18 % 16; let r := ((0x100, 0x100) : Nat × Nat); Canonical s ∧ mapWf (fun _ => ({} : AsShadow)) (s.tile p).shadows = true ∧ s.admits acc (oidAsGeom n k) v = true ∧ s.img.active.tunable (s.asTile n).2 k = some r ∧ (v.toNat < 2 ^ 29 ∧ 1 ≤ len ∧ len ≤ 16384 ∧ r.1 ≤ base ∧ base + len ≤ r.1 + r.2) ∧ s.admits acc (oidAsStepmod n k) v = true ∧ (v.toNat < 2 ^ 22 ∧ v.getLsbD 15 = false ∧ md ≠ 3 ∧ (md = 2 → 1 ≤ brw ∧ brw ≤ 14))) ∧
    (let t : Tile := { tA with shadows := [(1, { base := some 7 })] }; let k : Nat := 1; let b := (7 : Nat); k < 16 ∧ mapWf (fun _ => ({} : AddrSet)) t.sets = true ∧ (t.shadow k).base = some b ∧ (t.shadow k).step = none ∧ (∀ j, j < 16 → (t.shadow j).len = none)) ∧
    (let t : Tile := { tA with shadows := [(1, { len := some 2, base := some 7, step := some 3, md := some (1, 4)})] }; let k : Nat := 1; let u := t.applyShadows; let m := ((1,4) : Nat × Nat); k < 16 ∧ mapWf (fun _ => ({} : AddrSet)) t.sets = true ∧ (t.shadow k).md = some m ∧ (u.as' k).len ≠ (t.as' k).len ∧ 0 < (u.as' k).len) ∧
    (let t : Tile := { tA with shadows := [(1, { len := some 2, base := some 7, step := some 3, md := some (1, 4)})] }; let k : Nat := 1; let l := (2 : Nat); k < 16 ∧ mapWf (fun _ => ({} : AddrSet)) t.sets = true ∧ (t.shadow k).len = some l) ∧
    (let t : Tile := { tA with shadows := [(1, { len := some 2, base := some 7, step := some 3, md := some (1, 4)})] }; let k : Nat := 1; let d := (3 : Int); k < 16 ∧ mapWf (fun _ => ({} : AddrSet)) t.sets = true ∧ (t.shadow k).step = some d) ∧
    (let s : State := sA; let n : Fin 36 := 4; let adv : Nat := 0; let p : Slot := ⟨n, adv, ⟨0, false⟩⟩; let b := s.toWord p; let x := opTile s p .window; let v := b.setTile n x; let mine : Prop := s.canIssue p = true ∧ fitsWord x.used = true ∧ v.serviceWaits n = false ∧ (b.img.active.windowAt (b.workOf n) x.cyc).map Prod.snd = some 1; Canonical s ∧ mapWf (fun _ => (0 : Word)) x.ckpt.pass = true ∧ ¬mine) ∧
    (let s : State := tS 210 tA; let n : Fin 36 := 4; let adv : Nat := 0; let p : Slot := ⟨n, adv, ⟨0, false⟩⟩; let b := s.toWord p; let x := opTile s p .window; let v := b.setTile n x; let ws := b.img.active.persistWords (b.workOf n); let mine : Prop := s.canIssue p = true ∧ fitsWord x.used = true ∧ v.serviceWaits n = false ∧ (b.img.active.windowAt (b.workOf n) x.cyc).map Prod.snd = some 1; Canonical s ∧ mapWf (fun _ => (0 : Word)) x.ckpt.pass = true ∧ mine ∧ x.failed = false ∧ ws ≠ []) ∧
    (let s : State := tS 210 { tA with failed := true }; let n : Fin 36 := 4; let adv : Nat := 0; let p : Slot := ⟨n, adv, ⟨0, false⟩⟩; let b := s.toWord p; let x := opTile s p .window; let v := b.setTile n x; let ws := b.img.active.persistWords (b.workOf n); let mine : Prop := s.canIssue p = true ∧ fitsWord x.used = true ∧ v.serviceWaits n = false ∧ (b.img.active.windowAt (b.workOf n) x.cyc).map Prod.snd = some 1; Canonical s ∧ mapWf (fun _ => (0 : Word)) x.ckpt.pass = true ∧ mine ∧ (x.failed = true ∨ ws = [])) ∧
    (let s : State := tS 210 { tA with used := [.mem1] }; let n : Fin 36 := 4; let adv : Nat := 0; let p : Slot := ⟨n, adv, ⟨0, false⟩⟩; let b := s.toWord p; let x := opTile s p .window; let free : Prop := s.canIssue p = true ∧ fitsWord x.used = true; let range := b.img.active.windowAt (b.workOf n) x.cyc; Canonical s ∧ (¬free ∨ range = none)) ∧
    (let s : State := tS 210 tA; let n : Fin 36 := 4; let adv : Nat := 0; let p : Slot := ⟨n, adv, ⟨0, false⟩⟩; let b := s.toWord p; let x := opTile s p .window; let v := b.setTile n x; let free : Prop := s.canIssue p = true ∧ fitsWord x.used = true; let range := b.img.active.windowAt (b.workOf n) x.cyc; let i := (0:Nat); Canonical s ∧ free ∧ range = some (i, 1) ∧ v.serviceWaits n = false) ∧
    (let s : State := (let b := tS 210 tA; { b with img := { b.img with active := imgP } }); let n : Fin 36 := 4; let adv : Nat := 0; let p : Slot := ⟨n, adv, ⟨0, false⟩⟩; let b := s.toWord p; let x := opTile s p .window; let v := b.setTile n x; let free : Prop := s.canIssue p = true ∧ fitsWord x.used = true; let range := b.img.active.windowAt (b.workOf n) x.cyc; let i := (0:Nat); Canonical s ∧ free ∧ range = some (i, 0) ∧ v.nextBound n i (v.gn + 1) = none) ∧
    (let s : State := (let b := (tS 210 tA).put oidBridgeMode 2; { b with img := { b.img with active := imgQ } }); let n : Fin 36 := 4; let adv : Nat := 0; let p : Slot := ⟨n, adv, ⟨0, false⟩⟩; let b := s.toWord p; let x := opTile s p .window; let v := b.setTile n x; let free : Prop := s.canIssue p = true ∧ fitsWord x.used = true; let range := b.img.active.windowAt (b.workOf n) x.cyc; let i := (0:Nat); let w := (⟨4, 0, 73, 2⟩ : ParamWord); Canonical s ∧ free ∧ range = some (i, 0) ∧ v.nextBound n i (v.gn + 1) = some w) ∧
    (let s : State := (tS 210 tA).setFir 8 { phase := 1 }; let n : Fin 36 := 4; let adv : Nat := 0; let p : Slot := ⟨n, adv, ⟨0, false⟩⟩; let b := s.toWord p; let x := opTile s p .window; let v := b.setTile n x; let free : Prop := s.canIssue p = true ∧ fitsWord x.used = true; let range := b.img.active.windowAt (b.workOf n) x.cyc; let i := (0:Nat); let m := (8:Nat); Canonical s ∧ free ∧ range = some (i, 1) ∧ x.t3used < 32 ∧ v.firNext (v.workOf n) = some m) ∧
    (let s : State := tS 210 { tA with t3q := [{ write := true, addr := 9, data := 77, bytes := 3 }] }; let n : Fin 36 := 4; let adv : Nat := 0; let p : Slot := ⟨n, adv, ⟨0, false⟩⟩; let b := s.toWord p; let x := opTile s p .window; let v := b.setTile n x; let free : Prop := s.canIssue p = true ∧ fitsWord x.used = true; let range := b.img.active.windowAt (b.workOf n) x.cyc; let one (a : T3Acc) (w : Word) (i : Nat) : Byte := if a.bytes.getLsbD i = true then a.data.extractLsb' (8 * i) 8 else w.extractLsb' (8 * i) 8; let i := (0:Nat); let a := ({ write := true, addr := 9, data := 77, bytes := 3 } : T3Acc); let r := ([] : List T3Acc); Canonical s ∧ free ∧ range = some (i, 1) ∧ x.t3used < 32 ∧ v.firNext (v.workOf n) = none ∧ x.t3q = a :: r ∧ a.write = true) ∧
    (let s : State := tS 210 { tA with t3q := [{ write := false, addr := 9, data := 77, bytes := 3 }] }; let n : Fin 36 := 4; let adv : Nat := 3; let p : Slot := ⟨n, adv, ⟨0, false⟩⟩; let b := s.toWord p; let x := opTile s p .window; let v := b.setTile n x; let free : Prop := s.canIssue p = true ∧ fitsWord x.used = true; let range := b.img.active.windowAt (b.workOf n) x.cyc; let one (a : T3Acc) (w : Word) (i : Nat) : Byte := if a.bytes.getLsbD i = true then a.data.extractLsb' (8 * i) 8 else w.extractLsb' (8 * i) 8; let i := (0:Nat); let a := ({ write := false, addr := 9, data := 77, bytes := 3 } : T3Acc); let r := ([] : List T3Acc); Canonical s ∧ free ∧ range = some (i, 1) ∧ x.t3used < 32 ∧ v.firNext (v.workOf n) = none ∧ x.t3q = a :: r ∧ a.write = false) := by
  refine ⟨?_, ?_, ?_, ?_, ?_, ?_, ?_, ?_, ?_, ?_, ?_, ?_, ?_, ?_, ?_, ?_⟩ <;> (try unfold Canonical) <;> (try dsimp only) <;> decide +kernel

theorem witness_ImageBuffer :
    (let s : State := (sImg 1 {}).put oidImgWrOffset 0x1000000; let acc : Access := acc1; let v : Word := 0x12345678; let o := (s.ob oidImgWrOffset).toNat; let st := (s.ob oidImgPendState).toNat; Canonical s ∧ s.admits acc oidImgWrOffset v = true ∧ v.toNat % 4 = 0 ∧ st ≠ 2 ∧ st ≠ 5 ∧ s.admits acc oidImgWrData v = true ∧ 0x1000000 ≤ o) ∧
    (let s : State := sImg 2 {}; let acc : Access := acc1; let v : Word := 0x12345678; let o := (s.ob oidImgWrOffset).toNat; let st := (s.ob oidImgPendState).toNat; Canonical s ∧ s.admits acc oidImgWrOffset v = true ∧ v.toNat % 4 = 0 ∧ (st = 2 ∨ st = 5) ∧ s.admits acc oidImgWrData v = true ∧ o < 0x1000000) ∧
    (let s : State := sImg 0 {}; let acc : Access := acc1; let v : Word := 0x12345679; let o := (s.ob oidImgWrOffset).toNat; let st := (s.ob oidImgPendState).toNat; Canonical s ∧ s.admits acc oidImgWrOffset v = true ∧ v.toNat % 4 ≠ 0 ∧ s.admits acc oidImgWrData v = true ∧ o < 0x1000000 ∧ st ≠ 2 ∧ st ≠ 5 ∧ mapWf (fun _ => (0 : Byte)) s.img.pend.bytes = true) ∧
    (let s : State := sImg 2 {}; let acc : Access := acc1; let part : Bool := true; let time : Bool := false; let slot : Bool := true; let boot : Bool := true; let st := (s.ob oidImgPendState).toNat; let code (n : Nat) : Word := BitVec.ofNat 32 n; let ta := 2 + (if part then 64 else 0) + (if time then 128 else 0); let tl := 4 + (if slot then 16 else 0); let ts := 5 + (if slot then 16 else 0) + (if boot then 32 else 0); Canonical s ∧ (st = 2 ∨ st = 5) ∧ s.admits acc oidImgCtrl 1 = true ∧ s.admits acc oidImgCtrl (code ta) = true ∧ s.admits acc oidImgCtrl 3 = true ∧ s.admits acc oidImgCtrl (code tl) = true ∧ s.admits acc oidImgCtrl (code ts) = true ∧ s.admits acc oidImgCtrl 6 = true ∧ st ≠ 5) ∧
    (let s : State := sImg 1 {}; let acc : Access := acc1; let part : Bool := true; let time : Bool := false; let slot : Bool := true; let boot : Bool := true; let st := (s.ob oidImgPendState).toNat; let code (n : Nat) : Word := BitVec.ofNat 32 n; let ta := 2 + (if part then 64 else 0) + (if time then 128 else 0); let tl := 4 + (if slot then 16 else 0); let ts := 5 + (if slot then 16 else 0) + (if boot then 32 else 0); Canonical s ∧ st ≠ 2 ∧ st ≠ 5 ∧ s.admits acc oidImgCtrl 1 = true ∧ st = 1 ∧ s.admits acc oidImgCtrl (code ta) = true ∧ (st ≠ 3 ∨ time = true ∧ s.taEnabled 8 = none) ∧ s.admits acc oidImgCtrl 3 = true ∧ s.admits acc oidImgCtrl (code tl) = true ∧ s.admits acc oidImgCtrl (code ts) = true ∧ st ≠ 3) ∧
    (let s : State := sImg 3 { pend := img1, nor0 := some img2 }; let acc : Access := acc1; let part : Bool := true; let time : Bool := false; let slot : Bool := false; let boot : Bool := true; let st := (s.ob oidImgPendState).toNat; let code (n : Nat) : Word := BitVec.ofNat 32 n; let ta := 2 + (if part then 64 else 0) + (if time then 128 else 0); let ts := 5 + (if slot then 16 else 0) + (if boot then 32 else 0); Canonical s ∧ st ≠ 2 ∧ st ≠ 5 ∧ s.admits acc oidImgCtrl 1 = true ∧ st ≠ 1 ∧ s.admits acc oidImgCtrl (code ta) = true ∧ st = 3 ∧ (time = true → (s.taEnabled 8).isSome = true) ∧ s.admits acc oidImgCtrl (code ts) = true) ∧
    (let s : State := sImg 5 { act := { phase := 1 } }; let acc : Access := acc1; let st := (s.ob oidImgPendState).toNat; Canonical s ∧ s.admits acc oidImgCtrl 6 = true ∧ st = 5 ∧ s.img.act.phase = 1) ∧
    (let s : State := sImg 5 { act := { phase := 3 } }; let acc : Access := acc1; let st := (s.ob oidImgPendState).toNat; Canonical s ∧ s.admits acc oidImgCtrl 6 = true ∧ st = 5 ∧ s.img.act.phase ≠ 1) := by
  refine ⟨?_, ?_, ?_, ?_, ?_, ?_, ?_, ?_⟩ <;> (try unfold Canonical) <;> (try dsimp only) <;> decide +kernel

theorem witness_ImageEventsAndTakeover :
    (let s : State := sImg 2 { pend := img1 }; let st := (s.ob oidImgPendState).toNat; let a := s.img.act; Canonical s ∧ st = 2 ∧ (a.phase ≠ 1 ∨ a.peerWait = true ∨ a.atTime = true ∧ a.fired = false) ∧ a.phase ≠ 3 ∧ a.phase ≠ 4 ∧ (a.phase ≠ 5 ∨ s.img.relock = true) ∧ (s.img.relockStop = false ∨ st ≠ 3 ∨ s.img.pend.cs ≠ rateCs s.conv.rateA)) ∧
    (let s : State := sImg 5 { pend := img1, active := img2, act := { phase := 4, len := 5, samples := 4 } }; let st := (s.ob oidImgPendState).toNat; let a := s.img.act; Canonical s ∧ st ≠ 2 ∧ a.phase = 4) ∧
    (let s : State := sImg 5 { pend := img1, act := { phase := 3, len := 5, samples := 5 } }; let a := s.img.act; Canonical s ∧ a.phase = 3 ∧ a.len ≤ a.samples) ∧
    (let s : State := sImg 5 { pend := img1, act := { phase := 3, len := 5, samples := 4 } }; let a := s.img.act; Canonical s ∧ a.phase = 3 ∧ a.samples < a.len) ∧
    (let s : State := sImg 5 { pend := img1, active := img2, act := { phase := 5, len := 5, samples := 4 } }; let a := s.img.act; Canonical s ∧ a.phase = 5 ∧ s.img.relock = false ∧ a.back = false ∧ s.img.pend.cs ≠ rateCs s.conv.rateA) ∧
    (let s : State := sImg 5 { pend := img1, active := img2, act := { phase := 5, back := true } }; let a := s.img.act; Canonical s ∧ a.phase = 5 ∧ s.img.relock = false ∧ (a.back = true ∨ s.img.pend.cs = rateCs s.conv.rateA)) ∧
    (let s : State := sImg 3 { pend := img3, relockStop := true }; let st := (s.ob oidImgPendState).toNat; Canonical s ∧ s.img.relockStop = true ∧ st = 3 ∧ s.img.pend.cs = rateCs s.conv.rateA ∧ (s.cs ≠ rateCs s.conv.rateA ∨ s.img.autoAct = true)) ∧
    (let s : State := sImg 5 { pend := img3, act := { phase := 1 } }; let a := s.img.act; Canonical s ∧ a.phase = 1 ∧ a.peerWait = false ∧ (a.atTime = true → a.fired = true) ∧ a.b0.all (fun x => 0 ≤ (s.gn + 1 - x).toInt) = true ∧ s.actRefusal = none) ∧
    (let s : State := sImg 5 { pend := img1, act := { phase := 1 } }; let a := s.img.act; let refused (e : ImgErr) (t : State) : Prop := t.ob oidImgErrCode = wd e.1 ∧ t.ob oidImgErrTile = wd e.2.1 ∧ t.ob oidImgErrLoc = wd e.2.2; let e : ImgErr := (((sImg 5 { pend := img1, act := { phase := 1 } }).actRefusal.getD default) : ImgErr); Canonical s ∧ a.phase = 1 ∧ a.peerWait = false ∧ (a.atTime = true → a.fired = true) ∧ a.b0.all (fun x => 0 ≤ (s.gn + 1 - x).toInt) = true ∧ s.actRefusal = some e) ∧
    (let s : State := (sImg 0 { active := img1, takeovers := [⟨4, 8, 2, []⟩] , engaged := [(8, 5)] }).setTileState 8 1; let n : Fin 36 := 8; let k : Takeover := ⟨4, 8, 2, []⟩; Canonical s ∧ s.takeover n = some k ∧ k.onto = n.val ∧ k.work ≠ n.val ∧ k.phase = 2 ∧ s.carrierOf k.work = n.val ∧ s.tileState n = 1 ∧ s.workOf n = k.work ∧ s.img.retired.contains k.work = false) ∧
    (let s : State := (sImg 0 { active := img1, takeovers := [⟨4, 4, 0, []⟩] }).setTileState 4 1; let n : Fin 36 := 4; let k : Takeover := ⟨4, 4, 0, []⟩; Canonical s ∧ s.takeover n = some k ∧ k.onto = n.val ∧ k.phase = 0) ∧
    (let s : State := (sImg 0 { active := img1, takeovers := [⟨4, 8, 1, []⟩] }).setTileState 8 1; let n : Fin 36 := 8; let k : Takeover := ⟨4, 8, 1, []⟩; Canonical s ∧ s.takeover n = some k ∧ k.onto = n.val ∧ k.work ≠ n.val ∧ k.phase = 1) ∧
    (let s : State := (sImg 0 { active := img1, takeovers := [⟨4, 4, 1, []⟩] }).setTileState 4 1; let n : Fin 36 := 4; let k : Takeover := ⟨4, 4, 1, []⟩; Canonical s ∧ s.takeover n = some k ∧ k.onto = n.val ∧ s.workOf n = k.work ∧ s.img.retired.contains k.work = false ∧ k.phase = 1) := by
  refine ⟨?_, ?_, ?_, ?_, ?_, ?_, ?_, ?_, ?_, ?_, ?_, ?_, ?_⟩ <;> (try unfold Canonical) <;> (try dsimp only) <;> decide +kernel

theorem witness_DomainsAndRelock :
    (let s : State := ({} : State); let acc : Access := acc1; let v : Word := 0; let c : Bool := false; let kind : Fin 3 := 0; let n : Fin 128 := 5; let rb := if c then oidDomRateC else oidDomRateB; let od := if kind.val = 0 then oidPortDomain n else if kind.val = 1 then oidNetRxDomain n else oidNetTxDomain n; Canonical s ∧ s.admits acc oidDomRateA v = true ∧ v = 0 ∧ s.admits acc rb v = true ∧ s.ob rb = v ∧ s.admits acc od v = true ∧ v.toNat < 3 ∧ s.domHz v.toNat ≠ 0) ∧
    (let s : State := ({} : State); let acc : Access := acc1; let v : Word := 2; let c : Bool := true; let kind : Fin 3 := 0; let n : Fin 128 := 5; let rb := if c then oidDomRateC else oidDomRateB; let od := if kind.val = 0 then oidPortDomain n else if kind.val = 1 then oidNetRxDomain n else oidNetTxDomain n; Canonical s ∧ s.admits acc oidDomRateA v = true ∧ v ≠ 0 ∧ s.ob oidDomRateA = v ∧ s.admits acc rb v = true ∧ s.ob rb ≠ v ∧ s.admits acc od v = true ∧ (3 ≤ v.toNat ∨ s.domHz v.toNat = 0)) ∧
    (let s : State := ({} : State); let acc : Access := acc1; let v : Word := 4; Canonical s ∧ s.admits acc oidDomRateA v = true ∧ v ≠ 0 ∧ s.ob oidDomRateA ≠ v) ∧
    (let s : State := { ((baseS.setTileState 4 2).setTileState 5 3).put oidDomRateA 4 with img := { img1I with relock := true } }; let stop : Prop := s.img.relock = true ∧ ¬(s.img.relockStop = true ∧ (s.ob oidDomRateA).toNat = s.conv.rateA); let go : Prop := s.img.relock = true ∧ s.img.relockStop = true ∧ (s.ob oidDomRateA).toNat = s.conv.rateA ∧ s.ob oidXoState = 0; Canonical s ∧ stop ∧ ¬go ∧ s.ob oidXoState = 0) ∧
    (let s : State := { baseS.put oidImgActiveForm 0x82400 with img := { img1I with relock := true, relockStop := true } }; let stop : Prop := s.img.relock = true ∧ ¬(s.img.relockStop = true ∧ (s.ob oidDomRateA).toNat = s.conv.rateA); let go : Prop := s.img.relock = true ∧ s.img.relockStop = true ∧ (s.ob oidDomRateA).toNat = s.conv.rateA ∧ s.ob oidXoState = 0; Canonical s ∧ ¬stop ∧ go) ∧
    (let s : State := ({} : State).put oidXoState 1; Canonical s ∧ s.ob oidXoState ≠ 0) := by
  refine ⟨?_, ?_, ?_, ?_, ?_, ?_⟩ <;> (try unfold Canonical) <;> (try dsimp only) <;> decide +kernel

theorem witness_RoutesAndSilence :
    (let s : State := ({} : State).setSink 3 { xfL := 64, xfK := 64 }; let acc : Access := acc1; let k : Nat := 3; let v : Word := 8; let tic : Fin 4096 := 7; let p := s.sink k; let o := oidPatchStatus k; let runs : Prop := s.img.running = true ∧ s.mix.silHeld = false ∧ s.img.relock = false ∧ s.img.relockStop = false; Canonical s ∧ p.xfL ≠ 0 ∧ p.xfL ≤ p.xfK ∧ (p.waiting = none ∨ p.xfL ≠ 0) ∧ s.admits acc o v = true ∧ v.getLsbD 3 = true ∧ (¬runs ∨ s.sil tic = 0 ∨ s.sil tic = 3)) ∧
    (let s : State := ({} : State).setSink 3 { waiting := some 5, src := 6 }; let acc : Access := acc1; let k : Nat := 3; let src : Nat := 5; let v : Word := 0; let p := s.sink k; let o := oidPatchStatus k; Canonical s ∧ (p.xfL = 0 ∨ p.xfK < p.xfL) ∧ p.waiting = some src ∧ p.xfL = 0 ∧ src ≠ p.src ∧ p.vdir ≠ 2 ∧ s.admits acc o v = true ∧ v.getLsbD 3 = false) ∧
    (let s : State := sSil 2 1000000000 {}; let tic : Fin 4096 := 7; let reports : List (Nat × Nat × Nat) := []; let d := s.tapReports (reports.filter (fun r => stripOfTap r.1 = some tic.val)); let runs : Prop := s.img.running = true ∧ s.mix.silHeld = false ∧ s.img.relock = false ∧ s.img.relockStop = false; Canonical s ∧ runs ∧ s.sil tic = 2 ∧ d.tailQuiet tic = true) ∧
    (let s : State := ({} : State).setSink 3 { waiting := some 5, src := 5 }; let k : Nat := 3; let src : Nat := 5; let p := s.sink k; Canonical s ∧ p.waiting = some src ∧ p.xfL = 0 ∧ src = p.src) ∧
    (let s : State := sSil 1 1000000000 {}; let tic : Fin 4096 := 7; let reports : List (Nat × Nat × Nat) := []; let d := s.tapReports (reports.filter (fun r => stripOfTap r.1 = some tic.val)); let runs : Prop := s.img.running = true ∧ s.mix.silHeld = false ∧ s.img.relock = false ∧ s.img.relockStop = false; Canonical s ∧ runs ∧ s.sil tic = 1 ∧ d.inputQuiet tic = true) ∧
    (let s : State := ({} : State).setSink 3 { waiting := some 5, src := 6, vdir := 2 }; let k : Nat := 3; let src : Nat := 5; let p := s.sink k; Canonical s ∧ p.waiting = some src ∧ p.xfL = 0 ∧ src ≠ p.src ∧ p.vdir = 2) ∧
    (let s : State := sMir; let acc : Access := acc1; let k : Nat := 3; let v : Word := 8; let c : ObjClass := psDflt0; let o := oidPatchStatus k; Canonical s ∧ checkWrite acc o = .ok c ∧ c.base = 0xEC000 ∧ s.setDenied acc o v = false ∧ encBad c v = false ∧ s.mirrors = true) := by
  refine ⟨?_, ?_, ?_, ?_, ?_, ?_, ?_⟩ <;> (try unfold Canonical) <;> (try dsimp only) <;> decide +kernel

theorem witness_BridgeGroups :
    (let s : State := sB; let acc : Access := acc1; let g : Fin 16 := 3; let c : Fin 256 := 48; let v : Word := 0; let fed : Prop := s.brgOut c = true ∧ ∃ k, k < 256 ∧ k ≠ c.val ∧ s.brgOut k = true ∧ s.ob (oidBrgFar k) = v; let named : Prop := v = 0xFFFF ∨ s.farEnd (s.brgOut c) (s.brgFarDom (c / 16)) v.toNat = true ∧ ¬fed; Canonical s ∧ s.admits acc (oidBrgGrpCfg g) v = true ∧ v = s.ob (oidBrgGrpCfg g) ∧ s.admits acc (oidBrgFar c) v = true ∧ ¬named) ∧
    (let s : State := { sB with conv := { dom := [(0, 1)] } }; let acc : Access := acc1; let g : Fin 16 := 3; let c : Fin 256 := 48; let v : Word := 0x1; let fed : Prop := s.brgOut c = true ∧ ∃ k, k < 256 ∧ k ≠ c.val ∧ s.brgOut k = true ∧ s.ob (oidBrgFar k) = v; let named : Prop := v = 0xFFFF ∨ s.farEnd (s.brgOut c) (s.brgFarDom (c / 16)) v.toNat = true ∧ ¬fed; Canonical s ∧ s.admits acc (oidBrgGrpCfg g) v = true ∧ v ≠ s.ob (oidBrgGrpCfg g) ∧ v.getLsbD 0 = true ∧ (s.brg g ≠ 0 ∨ s.pd5 = true) ∧ s.admits acc (oidBrgFar c) v = true ∧ named) ∧
    (let s : State := brgAt 3 2; let acc : Access := acc1; let g : Fin 16 := 3; let v : Word := 4; Canonical s ∧ s.admits acc (oidBrgGrpCfg g) v = true ∧ v ≠ s.ob (oidBrgGrpCfg g) ∧ v.getLsbD 0 = false) ∧
    (let s : State := sB.put oidPwrDomains 0; let acc : Access := acc1; let g : Fin 16 := 3; let v : Word := 1; Canonical s ∧ s.admits acc (oidBrgGrpCfg g) v = true ∧ v ≠ s.ob (oidBrgGrpCfg g) ∧ v.getLsbD 0 = true ∧ s.brg g = 0 ∧ s.pd5 = false) ∧
    (let s : State := { brgAt 3 1 with conv := { lockCnt := [(3, 100000)] } }; let g : Fin 16 := 3; let held := mapGet (fun _ => 0) s.conv.lockCnt g; Canonical s ∧ s.brg g = 1 ∧ s.fsA ≤ held * 20 ∧ (s.brg g ≠ 2 ∨ s.ratioNear g = true) ∧ s.brg g ≠ 2 ∧ s.brg g ≠ 4) ∧
    (let s : State := brgAt 3 2; let g : Fin 16 := 3; let held := mapGet (fun _ => 0) s.conv.lockCnt g; Canonical s ∧ (s.brg g ≠ 1 ∨ held * 20 < s.fsA) ∧ s.brg g ≠ 1 ∧ s.brg g = 2 ∧ s.ratioNear g = false) ∧
    (let s : State := brgAt 3 4; let g : Fin 16 := 3; Canonical s ∧ s.brg g = 4) := by
  refine ⟨?_, ?_, ?_, ?_, ?_, ?_, ?_⟩ <;> (try unfold Canonical) <;> (try dsimp only) <;> decide +kernel

theorem witness_DecimationChains :
    (let s : State := pd 0x20; let acc : Access := acc1; let n : Fin 64 := 0; let k : Fin 4 := 0; let a : Fin 16 := 0; let v : Word := 0x31; let stages := v.toNat / 2 ^ 3 % 8; let grp := v.toNat / 2 % 4; let clk := s.ob (oidModclkCfg grp); let r := 64 * 2 ^ (clk.toNat / 8 % 4) / 2 ^ romS (v.toNat / 2 ^ 7 % 8); let modBad : Prop := stages = 0 ∨ 5 < stages ∨ v.toNat / 2 ^ 11 % 16 ≠ 0 ∨ v.getLsbD 0 = true ∧ (r < 16 ∨ 256 < r); let acBad : Prop := grp ≠ 0 ∨ stages = 0 ∨ 5 < stages ∨ v.getLsbD 0 = true ∧ (v.toNat / 2 ^ 11 % 16 < 4 ∨ 8 < v.toNat / 2 ^ 11 % 16); let clkBad : Prop := grp = 3 ∨ v.toNat / 8 % 4 = 3 ∨ v.toNat / 2 ^ 6 % 2 ^ 10 < 8 ∨ s.domHz grp = 0 ∨ ∃ m, m < 64 ∧ bit (s.ob (oidModCfg m)) 0 = true ∧ fld (s.ob (oidModCfg m)) 2 1 = k.val ∧ modRBad (s.ob (oidModCfg m)) v = true; Canonical s ∧ mapWf (fun _ => ({} : Chain)) s.conv.chains = true ∧ s.admits acc (oidModCfg n) v = true ∧ modBad ∧ s.admits acc (oidAcCfg a) v = true ∧ acBad ∧ s.admits acc (oidModclkCfg k) v = true ∧ clkBad) ∧
    (let s : State := pd 0; let acc : Access := acc1; let k : Fin 4 := 0; let a : Fin 16 := 0; let v : Word := 0x2009; let stages := v.toNat / 2 ^ 3 % 8; let grp := v.toNat / 2 % 4; let acBad : Prop := grp ≠ 0 ∨ stages = 0 ∨ 5 < stages ∨ v.getLsbD 0 = true ∧ (v.toNat / 2 ^ 11 % 16 < 4 ∨ 8 < v.toNat / 2 ^ 11 % 16); let clkBad : Prop := grp = 3 ∨ v.toNat / 8 % 4 = 3 ∨ v.toNat / 2 ^ 6 % 2 ^ 10 < 8 ∨ s.domHz grp = 0 ∨ ∃ m, m < 64 ∧ bit (s.ob (oidModCfg m)) 0 = true ∧ fld (s.ob (oidModCfg m)) 2 1 = k.val ∧ modRBad (s.ob (oidModCfg m)) v = true; Canonical s ∧ mapWf (fun _ => ({} : Chain)) s.conv.chains = true ∧ s.admits acc (oidAcCfg a) v = true ∧ ¬acBad ∧ v.getLsbD 0 = true ∧ s.pd5 = false ∧ s.admits acc (oidModclkCfg k) v = true ∧ ¬clkBad) ∧
    (let s : State := pd 0x20; let acc : Access := acc1; let n : Fin 64 := 63; let a : Fin 16 := 15; let v : Word := 0x20; let stages := v.toNat / 2 ^ 3 % 8; let grp := v.toNat / 2 % 4; let clk := s.ob (oidModclkCfg grp); let r := 64 * 2 ^ (clk.toNat / 8 % 4) / 2 ^ romS (v.toNat / 2 ^ 7 % 8); let modBad : Prop := stages = 0 ∨ 5 < stages ∨ v.toNat / 2 ^ 11 % 16 ≠ 0 ∨ v.getLsbD 0 = true ∧ (r < 16 ∨ 256 < r); let acBad : Prop := grp ≠ 0 ∨ stages = 0 ∨ 5 < stages ∨ v.getLsbD 0 = true ∧ (v.toNat / 2 ^ 11 % 16 < 4 ∨ 8 < v.toNat / 2 ^ 11 % 16); Canonical s ∧ mapWf (fun _ => ({} : Chain)) s.conv.chains = true ∧ s.admits acc (oidModCfg n) v = true ∧ ¬modBad ∧ v.getLsbD 0 = false ∧ s.admits acc (oidAcCfg a) v = true ∧ ¬acBad) ∧
    (let s : State := pd 0; let acc : Access := acc1; let n : Fin 64 := 63; let v : Word := 0x21; let stages := v.toNat / 2 ^ 3 % 8; let grp := v.toNat / 2 % 4; let clk := s.ob (oidModclkCfg grp); let r := 64 * 2 ^ (clk.toNat / 8 % 4) / 2 ^ romS (v.toNat / 2 ^ 7 % 8); let modBad : Prop := stages = 0 ∨ 5 < stages ∨ v.toNat / 2 ^ 11 % 16 ≠ 0 ∨ v.getLsbD 0 = true ∧ (r < 16 ∨ 256 < r); Canonical s ∧ mapWf (fun _ => ({} : Chain)) s.conv.chains = true ∧ s.admits acc (oidModCfg n) v = true ∧ ¬modBad ∧ v.getLsbD 0 = true ∧ s.pd5 = false) ∧
    (let s : State := pd 0x20; let acc : Access := acc1; let n : Fin 64 := 63; let v : Word := 0x21; let stages := v.toNat / 2 ^ 3 % 8; let grp := v.toNat / 2 % 4; let clk := s.ob (oidModclkCfg grp); let r := 64 * 2 ^ (clk.toNat / 8 % 4) / 2 ^ romS (v.toNat / 2 ^ 7 % 8); let modBad : Prop := stages = 0 ∨ 5 < stages ∨ v.toNat / 2 ^ 11 % 16 ≠ 0 ∨ v.getLsbD 0 = true ∧ (r < 16 ∨ 256 < r); Canonical s ∧ mapWf (fun _ => ({} : Chain)) s.conv.chains = true ∧ s.admits acc (oidModCfg n) v = true ∧ ¬modBad ∧ v.getLsbD 0 = true ∧ s.pd5 = true ∧ (s.chain n).st ≠ 3) ∧
    (let s : State := (pd 0x20).setChain 63 { st := 3 }; let acc : Access := acc1; let n : Fin 64 := 63; let v : Word := 0x21; let stages := v.toNat / 2 ^ 3 % 8; let grp := v.toNat / 2 % 4; let clk := s.ob (oidModclkCfg grp); let r := 64 * 2 ^ (clk.toNat / 8 % 4) / 2 ^ romS (v.toNat / 2 ^ 7 % 8); let modBad : Prop := stages = 0 ∨ 5 < stages ∨ v.toNat / 2 ^ 11 % 16 ≠ 0 ∨ v.getLsbD 0 = true ∧ (r < 16 ∨ 256 < r); Canonical s ∧ mapWf (fun _ => ({} : Chain)) s.conv.chains = true ∧ s.admits acc (oidModCfg n) v = true ∧ ¬modBad ∧ v.getLsbD 0 = true ∧ s.pd5 = true ∧ (s.chain n).st = 3) ∧
    (let s : State := pd 0x20; let acc : Access := acc1; let a : Fin 16 := 0; let v : Word := 0x2021; let stages := v.toNat / 2 ^ 3 % 8; let grp := v.toNat / 2 % 4; let acBad : Prop := grp ≠ 0 ∨ stages = 0 ∨ 5 < stages ∨ v.getLsbD 0 = true ∧ (v.toNat / 2 ^ 11 % 16 < 4 ∨ 8 < v.toNat / 2 ^ 11 % 16); Canonical s ∧ mapWf (fun _ => ({} : Chain)) s.conv.chains = true ∧ s.admits acc (oidAcCfg a) v = true ∧ ¬acBad ∧ v.getLsbD 0 = true ∧ s.pd5 = true ∧ (s.chain (64 + a)).st ≠ 3) ∧
    (let s : State := (({} : State).put oidGrainNumber 1).put (oidMeterProfile 3) 0x8; let acc : Access := acc1; let v : Word := 0x13; let rising : Bool := true; let held : Nat := 63; let n : Fin 64 := 5; let k : Fin 4 := 3; let c := s.ob oidDecSyncCfg; let e := c.toNat / 2 ^ 20 % 4; let edge : Prop := 64 ≤ held ∧ (e = 2 ∨ e = 1 ∧ rising = true ∨ e ≠ 1 ∧ e ≠ 2 ∧ rising = false); let mm (x : Word) := x.toNat % 16; let am (x : Word) := x.toNat / 16 % 2 ^ 16; Canonical s ∧ mapWf (fun _ => ({} : Chain)) s.conv.chains = true ∧ mapWf (fun _ => meterNone) s.conv.meters = true ∧ (¬edge ∨ bit c 22 = false) ∧ s.admits acc oidDecSyncCmd v = true ∧ (mm v ≠ 0 ∨ am v ≠ 0) ∧ (s.chain n).st ≠ 3 ∧ s.gn.toNat % 2 ^ (fld (s.ob (oidMeterProfile k)) 6 3) ≠ 0 ∧ (s.switches = false ∨ s.wantsPd5 = false)) ∧
    (let s : State := (({} : State).put oidPwrState 3).put (oidBrgGrpCfg 1) 1; let acc : Access := acc1; let v : Word := 0; let mm (x : Word) := x.toNat % 16; let am (x : Word) := x.toNat / 16 % 2 ^ 16; Canonical s ∧ mapWf (fun _ => ({} : Chain)) s.conv.chains = true ∧ mapWf (fun _ => meterNone) s.conv.meters = true ∧ s.admits acc oidDecSyncCmd v = true ∧ mm v = 0 ∧ am v = 0 ∧ s.switches = true ∧ s.wantsPd5 = true) ∧
    (let s : State := ({} : State).put oidDecSyncCfg 0x5FFFFF; let rising : Bool := true; let held : Nat := 64; let o : Nat := 0x110000; let k : Fin 4 := 3; let c := s.ob oidDecSyncCfg; let e := c.toNat / 2 ^ 20 % 4; let edge : Prop := 64 ≤ held ∧ (e = 2 ∨ e = 1 ∧ rising = true ∨ e ≠ 1 ∧ e ≠ 2 ∧ rising = false); let mm (x : Word) := x.toNat % 16; let am (x : Word) := x.toNat / 16 % 2 ^ 16; Canonical s ∧ mapWf (fun _ => ({} : Chain)) s.conv.chains = true ∧ mapWf (fun _ => meterNone) s.conv.meters = true ∧ edge ∧ bit c 22 = true ∧ (mm c ≠ 0 ∨ am c ≠ 0) ∧ s.isStandby = false ∧ s.gn.toNat % 2 ^ (fld (s.ob (oidMeterProfile k)) 6 3) = 0 ∧ meterProfile o = k.val) ∧
    (let s : State := ({} : State).put oidDecSyncCfg 0x500000; let rising : Bool := true; let held : Nat := 64; let c := s.ob oidDecSyncCfg; let e := c.toNat / 2 ^ 20 % 4; let edge : Prop := 64 ≤ held ∧ (e = 2 ∨ e = 1 ∧ rising = true ∨ e ≠ 1 ∧ e ≠ 2 ∧ rising = false); let mm (x : Word) := x.toNat % 16; let am (x : Word) := x.toNat / 16 % 2 ^ 16; Canonical s ∧ mapWf (fun _ => ({} : Chain)) s.conv.chains = true ∧ mapWf (fun _ => meterNone) s.conv.meters = true ∧ edge ∧ bit c 22 = true ∧ mm c = 0 ∧ am c = 0) ∧
    (let s : State := { (({} : State).setChain 64 { st := 2, outs := 5 }).setChain 5 { st := 3, stable := 192 } with conv := { chains := [(5, { st := 3, stable := 192 }), (64, {st := 2, outs := 5, ph := 3 })], reqs := [⟨2, 1, 1, [64, 5]⟩] } }; let n : Fin 64 := 5; Canonical s ∧ mapWf (fun _ => ({} : Chain)) s.conv.chains = true ∧ mapWf (fun _ => meterNone) s.conv.meters = true ∧ (s.chain n).st = 3 ∧ fld (s.ob (oidModclkCfg (fld (s.ob (oidModCfg n)) 2 1))) 15 6 ≤ (s.chain n).stable) := by
  refine ⟨?_, ?_, ?_, ?_, ?_, ?_, ?_, ?_, ?_, ?_, ?_, ?_⟩ <;> (try unfold Canonical) <;> (try dsimp only) <;> decide +kernel

theorem witness_WriteStageAllOrNone :
    (let s : State := sOp; let h : Hdr := hd1; let flags : Byte := 4; Canonical s ∧ mapWf psDflt s.ps = true ∧ s.fcpRuns h = true ∧ 3 < flags.toNat) ∧
    (let s : State := sOp; let h : Hdr := hd1; let flags : Byte := 0; let expect : Word := 0; let es : List StageEntry := es2; let u := s.acked h; let n := h.session.toNat; let ex := if flags.getLsbD 0 then some expect else none; let r := ((sOp.stageCheck acc3 false none es2).getD {status := 0} : Refused); Canonical s ∧ mapWf psDflt s.ps = true ∧ s.fcpRuns h = true ∧ flags.toNat ≤ 3 ∧ es ≠ [] ∧ es.length ≤ 112 ∧ u.stageCheck (u.sesAccess n) false ex es = some r) ∧
    (let s : State := sOp; let h : Hdr := hd1; let flags : Byte := 1; let expect : Word := 0; let es : List StageEntry := es1; let u := s.acked h; let n := h.session.toNat; let ex := if flags.getLsbD 0 then some expect else none; Canonical s ∧ mapWf psDflt s.ps = true ∧ s.fcpRuns h = true ∧ flags.toNat ≤ 3 ∧ es ≠ [] ∧ es.length ≤ 112 ∧ u.isStandby = false ∧ u.stageCheck (u.sesAccess n) (flags.getLsbD 1) ex es = none) := by
  refine ⟨?_, ?_, ?_⟩ <;> (try unfold Canonical) <;> (try dsimp only) <;> decide +kernel

theorem witness_CommitsArmAndFold :
    (let s : State := sOp; let h : Hdr := hd1; let mode : Byte := 2; let scope : Byte := 0; let flags : Byte := 2; let ramp : BitVec 16 := 10001; let range : Prop := mode.toNat ≤ 2 ∧ scope.toNat ≤ 1 ∧ (flags.getLsbD 1 = true → ramp.toNat ≤ 10000); Canonical s ∧ s.fcpRuns h = true ∧ flags.toNat ≤ 3 ∧ ¬range) ∧
    (let s : State := sOp; let h : Hdr := hd1; let mode : Byte := 2; let scope : Byte := 0; let flags : Byte := 1; let ramp : BitVec 16 := 10001; let expect : Word := 5; let u := s.acked h; let range : Prop := mode.toNat ≤ 2 ∧ scope.toNat ≤ 1 ∧ (flags.getLsbD 1 = true → ramp.toNat ≤ 10000); let fresh : Prop := flags.getLsbD 0 = true → expect = u.ob oidInstar; Canonical s ∧ s.fcpRuns h = true ∧ flags.toNat ≤ 3 ∧ range ∧ ¬fresh) ∧
    (let s : State := (sOp.put oidTwinState 5).setTwin { peer := some hel }; let h : Hdr := hd1; let mode : Byte := 0; let scope : Byte := 0; let flags : Byte := 1; let ramp : BitVec 16 := 10001; let expect : Word := 0; let u := s.acked h; let range : Prop := mode.toNat ≤ 2 ∧ scope.toNat ≤ 1 ∧ (flags.getLsbD 1 = true → ramp.toNat ≤ 10000); let fresh : Prop := flags.getLsbD 0 = true → expect = u.ob oidInstar; Canonical s ∧ s.fcpRuns h = true ∧ flags.toNat ≤ 3 ∧ range ∧ fresh ∧ u.isStandby = true) ∧
    (let s : State := sOp; let h : Hdr := hd1; let mode : Byte := 1; let scope : Byte := 0; let flags : Byte := 1; let ramp : BitVec 16 := 10001; let expect : Word := 0; let u := s.acked h; let range : Prop := mode.toNat ≤ 2 ∧ scope.toNat ≤ 1 ∧ (flags.getLsbD 1 = true → ramp.toNat ≤ 10000); let fresh : Prop := flags.getLsbD 0 = true → expect = u.ob oidInstar; let timed : Prop := mode.toNat = 1 → u.taEnabled 7 ≠ none; Canonical s ∧ s.fcpRuns h = true ∧ flags.toNat ≤ 3 ∧ range ∧ fresh ∧ ¬timed ∧ u.isStandby = false) ∧
    (let s : State := sOp; let h : Hdr := hd1; let mode : Byte := 0; let scope : Byte := 1; let flags : Byte := 3; let ramp : BitVec 16 := 500; let expect : Word := 0; let u := s.acked h; let range : Prop := mode.toNat ≤ 2 ∧ scope.toNat ≤ 1 ∧ (flags.getLsbD 1 = true → ramp.toNat ≤ 10000); let fresh : Prop := flags.getLsbD 0 = true → expect = u.ob oidInstar; let timed : Prop := mode.toNat = 1 → u.taEnabled 7 ≠ none; Canonical s ∧ s.fcpRuns h = true ∧ flags.toNat ≤ 3 ∧ range ∧ fresh ∧ timed ∧ u.armed = none ∧ u.isStandby = false) ∧
    (let s : State := sCom [com0]; let h : Hdr := hd1; let mode : Byte := 0; let scope : Byte := 0; let flags : Byte := 1; let ramp : BitVec 16 := 10001; let expect : Word := 0; let u := s.acked h; let range : Prop := mode.toNat ≤ 2 ∧ scope.toNat ≤ 1 ∧ (flags.getLsbD 1 = true → ramp.toNat ≤ 10000); let fresh : Prop := flags.getLsbD 0 = true → expect = u.ob oidInstar; let timed : Prop := mode.toNat = 1 → u.taEnabled 7 ≠ none; Canonical s ∧ s.fcpRuns h = true ∧ flags.toNat ≤ 3 ∧ range ∧ fresh ∧ timed ∧ u.armed ≠ none ∧ u.isStandby = false) ∧
    (let s : State := sCom []; Canonical s ∧ mapWf psDflt s.ps = true ∧ (s.isStandby = true ∨ s.armed = none)) ∧
    (let s : State := sCom [{ com0 with mode := 2 }]; let c : Commit := { com0 with mode := 2 }; let due : Prop := (c.mode = 0 ∨ c.ready = true) ∧ (c.mode = 1 ∨ 0 ≤ (s.gn + 1 - c.lb).toInt); Canonical s ∧ mapWf psDflt s.ps = true ∧ s.isStandby = false ∧ s.armed = some c ∧ ¬due) ∧
    (let s : State := sCom [com0]; let c : Commit := com0; let due : Prop := (c.mode = 0 ∨ c.ready = true) ∧ (c.mode = 1 ∨ 0 ≤ (s.gn + 1 - c.lb).toInt); Canonical s ∧ mapWf psDflt s.ps = true ∧ s.isStandby = false ∧ s.armed = some c ∧ due ∧ s.foldingCnt < 4) ∧
    (let s : State := sCom [{com0 with instar := 2, st := 1}, {com0 with instar := 3, st := 1},{com0 with instar := 4, st := 1},{com0 with instar := 5, st := 1}, com0]; let c : Commit := com0; let due : Prop := (c.mode = 0 ∨ c.ready = true) ∧ (c.mode = 1 ∨ 0 ≤ (s.gn + 1 - c.lb).toInt); Canonical s ∧ mapWf psDflt s.ps = true ∧ s.isStandby = false ∧ s.armed = some c ∧ due ∧ 4 ≤ s.foldingCnt) := by
  refine ⟨?_, ?_, ?_, ?_, ?_, ?_, ?_, ?_, ?_, ?_⟩ <;> (try unfold Canonical) <;> (try dsimp only) <;> decide +kernel

theorem witness_MoultProgressAndWithdraw :
    (let s : State := sCom [{com0 with st := 2, begun := true}]; let c : Commit := {com0 with st := 2, begun := true}; Canonical s ∧ s.moult.commits.find? (fun x => x.st = 1) = none ∧ (∀ x ∈ s.moult.commits, x.st = 0 ∨ x.begun = true ∨ x.m ≠ s.gn + 1) ∧ s.moult.commits = [c] ∧ c.st = 2 ∧ c.begun = true ∧ s.settled c s.gn = true) ∧
    (let s : State := sCom [{com0 with st := 1}, {com0 with st := 1, instar := 2}]; let c : Commit := {com0 with st := 1}; Canonical s ∧ s.moult.commits.find? (fun x => x.st = 1) = some c ∧ (∀ x ∈ s.moult.commits, x.st ≠ 2 ∨ x.begun = false ∨ s.settled x s.gn = false)) ∧
    (let s : State := sCom [{com0 with st := 2, m := 1}]; let c : Commit := {com0 with st := 2, m := 1}; Canonical s ∧ s.moult.commits = [c] ∧ c.st ≠ 0 ∧ c.begun = false ∧ c.m = s.gn + 1) ∧
    (let s : State := stby; let acc : Access := acc1; let rising : Bool := true; let held : Nat := 100; let g := s.ob oidSceneGoCfg; let e := g.toNat / 2 ^ 14 % 4; let edge : Prop := g.getLsbD 16 = true ∧ (e = 2 ∨ e = 1 ∧ rising = true ∨ e ≠ 1 ∧ e ≠ 2 ∧ rising = false) ∧ g.toNat % 2 ^ 14 ≤ held; Canonical s ∧ mapWf psDflt s.ps = true ∧ s.isStandby = true ∧ s.admits acc oidMoultCtrl 1 = true ∧ s.admits acc oidMoultCtrl 2 = true ∧ s.admits acc oidMoultCtrl 3 = true ∧ ¬edge) ∧
    (let s : State := (sCom [{com0 with mode := 0}]).put oidSceneGoCfg 0x14064; let acc : Access := acc1; let c : Commit := {com0 with mode := 0}; let rising : Bool := true; let held : Nat := 100; let g := s.ob oidSceneGoCfg; let e := g.toNat / 2 ^ 14 % 4; let edge : Prop := g.getLsbD 16 = true ∧ (e = 2 ∨ e = 1 ∧ rising = true ∨ e ≠ 1 ∧ e ≠ 2 ∧ rising = false) ∧ g.toNat % 2 ^ 14 ≤ held; Canonical s ∧ mapWf psDflt s.ps = true ∧ s.isStandby = false ∧ s.admits acc oidMoultCtrl 1 = true ∧ s.admits acc oidMoultCtrl 2 = true ∧ acc.pc.val ≤ 1 ∧ s.admits acc oidMoultCtrl 3 = true ∧ s.armed = some c ∧ c.session ≠ acc.session.val ∧ edge ∧ s.armed.all (fun d => d.mode ≠ 2) = true) ∧
    (let s : State := sCom []; let acc : Access := ⟨3, 2, true⟩; Canonical s ∧ mapWf psDflt s.ps = true ∧ s.isStandby = false ∧ s.admits acc oidMoultCtrl 2 = true ∧ 1 < acc.pc.val ∧ s.admits acc oidMoultCtrl 3 = true ∧ s.armed = none) ∧
    (let s : State := { ((sCom [{com0 with mode := 2}]).put oidSceneGoCfg 0x14064).put oidTwinState 5 with twin := { peer := some hel } }; let c : Commit := {com0 with mode := 2}; let rising : Bool := true; let held : Nat := 100; let g := s.ob oidSceneGoCfg; let e := g.toNat / 2 ^ 14 % 4; let edge : Prop := g.getLsbD 16 = true ∧ (e = 2 ∨ e = 1 ∧ rising = true ∨ e ≠ 1 ∧ e ≠ 2 ∧ rising = false) ∧ g.toNat % 2 ^ 14 ≤ held; Canonical s ∧ mapWf psDflt s.ps = true ∧ edge ∧ s.armed = some c ∧ c.mode = 2 ∧ s.isStandby = true) ∧
    (let s : State := (sCom [{com0 with mode := 2}]).put oidSceneGoCfg 0x14064; let c : Commit := {com0 with mode := 2}; let rising : Bool := true; let held : Nat := 100; let g := s.ob oidSceneGoCfg; let e := g.toNat / 2 ^ 14 % 4; let edge : Prop := g.getLsbD 16 = true ∧ (e = 2 ∨ e = 1 ∧ rising = true ∨ e ≠ 1 ∧ e ≠ 2 ∧ rising = false) ∧ g.toNat % 2 ^ 14 ≤ held; Canonical s ∧ mapWf psDflt s.ps = true ∧ edge ∧ s.armed = some c ∧ c.mode = 2 ∧ s.isStandby = false) ∧
    (let s : State := sCom [com0]; let acc : Access := acc3; let c : Commit := com0; Canonical s ∧ mapWf psDflt s.ps = true ∧ s.isStandby = false ∧ s.admits acc oidMoultCtrl 3 = true ∧ s.armed = some c ∧ c.session = acc.session.val) := by
  refine ⟨?_, ?_, ?_, ?_, ?_, ?_, ?_, ?_, ?_⟩ <;> (try unfold Canonical) <;> (try dsimp only) <;> decide +kernel

theorem witness_BulkSets :
    (let s : State := (let b := sBulk k1 1 false; { (b.setBset k1 { b.bset k1 with lenEdit := 384 }) with dmem := { (b.setBset k1 { b.bset k1 with lenEdit := 384 }).dmem with edit := (List.range 128).map (fun i => ((setRange k1).1 + 256 + i, 0x7FFFFFFF)) } }); let h : Hdr := hd1; let acc : Access := acc1; let kind : Fin 4 := 1; let index : BitVec 13 := 5; let u := s.acked h; let n := h.session.toNat; let k := setKey kind index.toNat; let st := (s.bset k).st; let pub := bulkWord kind index.toNat 1; let taps := firTaps s.dmem.edit index.toNat (s.bset k).lenEdit; let tooLarge : Prop := ∃ i, i < 256 * firParts taps.length ∧ 2 ^ 31 < (specComp ((taps.drop (256 + 128 * (i / 256))).take 128) (i % 256)).natAbs; let rev := bulkWord kind index.toNat 2; Canonical s ∧ mapWf (fun _ => ({} : BulkSet)) s.dmem.sets = true ∧ mapWf (fun _ => (0 : Word)) s.dmem.cur = true ∧ mapWf (fun _ => (0 : Word)) s.dmem.edit = true ∧ setExists kind index.toNat = true ∧ s.fcpRuns h = true ∧ u.admits (u.sesAccess n) oidBulkCtrl pub = true ∧ st ≤ 1 ∧ (kind.val = 1 ∧ tooLarge) ∧ (st ≠ 2 ∨ (s.bset k).preparing = false) ∧ s.admits acc oidBulkCtrl rev = true ∧ st = 1 ∧ st ≠ 3) ∧
    (let s : State := { sBulk k1 3 false with dmem := { (sBulk k1 3 false).dmem with edit := [((setRange k1).1, 7), ((setRange k1).1 + (setRange k1).2, 8)] , cur := [((setRange k1).1 + 1, 9)] } }; let acc : Access := acc1; let kind : Fin 4 := 1; let index : BitVec 13 := 5; let k := setKey kind index.toNat; let st := (s.bset k).st; let rev := bulkWord kind index.toNat 2; Canonical s ∧ mapWf (fun _ => ({} : BulkSet)) s.dmem.sets = true ∧ mapWf (fun _ => (0 : Word)) s.dmem.cur = true ∧ mapWf (fun _ => (0 : Word)) s.dmem.edit = true ∧ setExists kind index.toNat = true ∧ s.admits acc oidBulkCtrl rev = true ∧ 2 ≤ st ∧ st = 3) ∧
    (let s : State := sBulk k0 0 true; let h : Hdr := hd1; let acc : Access := acc1; let kind : Fin 4 := 0; let index : BitVec 13 := 5; let u := s.acked h; let n := h.session.toNat; let k := setKey kind index.toNat; let st := (s.bset k).st; let pub := bulkWord kind index.toNat 1; let taps := firTaps s.dmem.edit index.toNat (s.bset k).lenEdit; let tooLarge : Prop := ∃ i, i < 256 * firParts taps.length ∧ 2 ^ 31 < (specComp ((taps.drop (256 + 128 * (i / 256))).take 128) (i % 256)).natAbs; let rev := bulkWord kind index.toNat 2; Canonical s ∧ mapWf (fun _ => ({} : BulkSet)) s.dmem.sets = true ∧ mapWf (fun _ => (0 : Word)) s.dmem.cur = true ∧ mapWf (fun _ => (0 : Word)) s.dmem.edit = true ∧ setExists kind index.toNat = true ∧ s.fcpRuns h = true ∧ u.admits (u.sesAccess n) oidBulkCtrl pub = true ∧ st ≤ 1 ∧ (¬(kind.val = 1 ∧ tooLarge)) ∧ s.admits acc oidBulkCtrl rev = true ∧ st = 0) ∧
    (let s : State := sBulk k1 2 true; let kind : Fin 4 := 1; let index : BitVec 13 := 5; let k := setKey kind index.toNat; let st := (s.bset k).st; Canonical s ∧ mapWf (fun _ => ({} : BulkSet)) s.dmem.sets = true ∧ mapWf (fun _ => (0 : Word)) s.dmem.cur = true ∧ mapWf (fun _ => (0 : Word)) s.dmem.edit = true ∧ setExists kind index.toNat = true ∧ st = 2 ∧ (s.bset k).preparing = true) := by
  refine ⟨?_, ?_, ?_, ?_⟩ <;> (try unfold Canonical) <;> (try dsimp only) <;> decide +kernel

theorem witness_DelayFirAndScrubs :
    (let s : State := sOp.setLine 5 { ring := 2, d := 9, dOld := 8, k := 64, len := 64 }; let owner : Nat := 5; let m : Fin 128 := 7; let l := s.line owner; let ended : Prop := l.len ≠ 0 ∧ l.len ≤ l.k ∨ l.wMode ≠ 0 ∧ l.wDone s.gsize s.gn = true; let f := s.fir m; let ends : Prop := f.phase = 3 ∧ isBefore s.gn f.mb = false ∧ rampFrac s.gsize f.len (s.gn - f.mb).toNat = none; Canonical s ∧ mapWf (fun _ => ({} : Line)) s.dmem.lines = true ∧ mapWf (fun _ => ({} : FirOut)) s.dmem.firs = true ∧ ended ∧ f.phase ≠ 1 ∧ f.phase ≠ 2 ∧ ¬ends) ∧
    (let s : State := (sOp.setFir 7 { phase := 3, next := 4, mb := 0, len := 4 }); let owner : Nat := 5; let m : Fin 128 := 7; let l := s.line owner; let ended : Prop := l.len ≠ 0 ∧ l.len ≤ l.k ∨ l.wMode ≠ 0 ∧ l.wDone s.gsize s.gn = true; let f := s.fir m; let ends : Prop := f.phase = 3 ∧ isBefore s.gn f.mb = false ∧ rampFrac s.gsize f.len (s.gn - f.mb).toNat = none; Canonical s ∧ mapWf (fun _ => ({} : Line)) s.dmem.lines = true ∧ mapWf (fun _ => ({} : FirOut)) s.dmem.firs = true ∧ ¬ended ∧ ends ∧ f.waiting = none) ∧
    (let s : State := (sOp.setFir 7 { phase := 2, next := 4 }); let m : Fin 128 := 7; let f := s.fir m; Canonical s ∧ mapWf (fun _ => ({} : Line)) s.dmem.lines = true ∧ mapWf (fun _ => ({} : FirOut)) s.dmem.firs = true ∧ (f.phase = 1 ∨ f.phase = 2)) ∧
    (let s : State := { sCom [] with net := { queues := [(11, [fr1]), (19, [fr1, fr1])] } }; let i : Nat := 0; let net : Bool := true; let ue : Bool := true; let lane : Fin 4 := 2; let tc : Fin 8 := 3; Canonical s ∧ mapWf psDflt s.ps = true ∧ mapWf (fun _ => ([] : List Frame)) s.net.queues = true ∧ net = true ∧ ue = true ∧ i < (s.queue lane tc).length) ∧
    (let s : State := sCom []; let i : Nat := 0; let net : Bool := true; let ue : Bool := true; let lane : Fin 4 := 2; let tc : Fin 8 := 3; Canonical s ∧ mapWf psDflt s.ps = true ∧ mapWf (fun _ => ([] : List Frame)) s.net.queues = true ∧ (net = false ∨ ue = false ∨ (s.queue lane tc).length ≤ i)) := by
  refine ⟨?_, ?_, ?_, ?_, ?_⟩ <;> (try unfold Canonical) <;> (try dsimp only) <;> decide +kernel

theorem witness_PortCommands :
    (let s : State := ((prt 3 0 {}).put (oidPortTxShare 3) 2).put (oidPortFrame 3) 0x1F08; let acc : Access := acc1; let p : Fin 24 := 3; let v : Word := 0x2; let st := (s.ob (oidPortState p)).toNat; let noOffset : Prop := s.portShared p = true ∧ offsetOf (s.readPortTiming p) = 0; let frameBad : Prop := v.toNat % 64 = 0 ∨ 32 < v.toNat % 64 ∨ v.toNat / 2 ^ 6 % 4 < v.toNat / 2 ^ 8 % 4 ∨ 3 < v.toNat / 2 ^ 12 % 8 ∨ s.portShared p = true ∧ s.psWordAt (oidPortTimingSrc p) s.gn = 0 ∧ offsetOf (timingPreset v) = 0; let shareBad : Prop := 3 < v.toNat ∧ v.toNat ≠ 0xFF ∨ v.toNat ≠ 0xFF ∧ offsetOf (s.readPortTiming p) = 0; Canonical s ∧ s.admits acc (oidPortCtrl p) 1 = true ∧ noOffset ∧ s.admits acc (oidPortCtrl p) 2 = true ∧ st = 0 ∧ s.admits acc (oidPortCtrl p) 3 = true ∧ s.admits acc (oidPortFrame p) v = true ∧ ¬frameBad ∧ s.admits acc (oidPortTxShare p) v = true ∧ shareBad) ∧
    (let s : State := prt 3 5 {}; let acc : Access := acc1; let p : Fin 24 := 3; let v : Word := 0x3; let st := (s.ob (oidPortState p)).toNat; let noOffset : Prop := s.portShared p = true ∧ offsetOf (s.readPortTiming p) = 0; let frameBad : Prop := v.toNat % 64 = 0 ∨ 32 < v.toNat % 64 ∨ v.toNat / 2 ^ 6 % 4 < v.toNat / 2 ^ 8 % 4 ∨ 3 < v.toNat / 2 ^ 12 % 8 ∨ s.portShared p = true ∧ s.psWordAt (oidPortTimingSrc p) s.gn = 0 ∧ offsetOf (timingPreset v) = 0; let shareBad : Prop := 3 < v.toNat ∧ v.toNat ≠ 0xFF ∨ v.toNat ≠ 0xFF ∧ offsetOf (s.readPortTiming p) = 0; Canonical s ∧ s.admits acc (oidPortCtrl p) 1 = true ∧ ¬noOffset ∧ st ≠ 0 ∧ s.admits acc (oidPortCtrl p) 2 = true ∧ (st = 1 ∨ st = 5) ∧ (s.port p).again = false ∧ s.admits acc (oidPortCtrl p) 3 = true ∧ s.admits acc (oidPortFrame p) v = true ∧ ¬frameBad ∧ s.admits acc (oidPortTxShare p) v = true ∧ ¬shareBad) ∧
    (let s : State := prt 3 0 {}; let acc : Access := acc1; let p : Fin 24 := 3; let v : Word := 0x0; let st := (s.ob (oidPortState p)).toNat; let noOffset : Prop := s.portShared p = true ∧ offsetOf (s.readPortTiming p) = 0; let frameBad : Prop := v.toNat % 64 = 0 ∨ 32 < v.toNat % 64 ∨ v.toNat / 2 ^ 6 % 4 < v.toNat / 2 ^ 8 % 4 ∨ 3 < v.toNat / 2 ^ 12 % 8 ∨ s.portShared p = true ∧ s.psWordAt (oidPortTimingSrc p) s.gn = 0 ∧ offsetOf (timingPreset v) = 0; let shareBad : Prop := 3 < v.toNat ∧ v.toNat ≠ 0xFF ∨ v.toNat ≠ 0xFF ∧ offsetOf (s.readPortTiming p) = 0; Canonical s ∧ s.admits acc (oidPortCtrl p) 1 = true ∧ ¬noOffset ∧ st = 0 ∧ s.admits acc (oidPortFrame p) v = true ∧ frameBad ∧ s.admits acc (oidPortTxShare p) v = true ∧ ¬shareBad) ∧
    (let s : State := prt 3 2 { rx := [(0, {st := 2})], tx := [(1, {st := 3})] }; let acc : Access := acc1; let p : Fin 24 := 3; let st := (s.ob (oidPortState p)).toNat; Canonical s ∧ s.admits acc (oidPortCtrl p) 2 = true ∧ (st = 2 ∨ st = 3 ∨ st = 4 ∨ st = 6) ∧ s.admits acc (oidPortCtrl p) 3 = true) := by
  refine ⟨?_, ?_, ?_, ?_⟩ <;> (try unfold Canonical) <;> (try dsimp only) <;> decide +kernel

theorem witness_PortFramesAndEvents :
    (let s : State := prt 3 0 {}; let p : Fin 24 := 3; let f : TdmFrame := frm; let st := (s.ob (oidPortState p)).toNat; let x := s.port p; let l := tdmSamples f x.timing; let e := frameEdges l; let n := e.length; let ended := f.ended || decide (n < l.length); let marks : Prop := s.portHz p ≠ 0 ∧ fsWidth l ≠ 0 ∧ (ended = true → fsWidth l ≠ n); Canonical s ∧ (st = 0 ∨ ¬marks)) ∧
    (let s : State := prt 3 1 {}; let p : Fin 24 := 3; let f : TdmFrame := frm; let st := (s.ob (oidPortState p)).toNat; let x := s.port p; let l := tdmSamples f x.timing; let e := frameEdges l; let n := e.length; let ended := f.ended || decide (n < l.length); let marks : Prop := s.portHz p ≠ 0 ∧ fsWidth l ≠ 0 ∧ (ended = true → fsWidth l ≠ n); Canonical s ∧ (st = 1 ∨ st = 5) ∧ marks) ∧
    (let s : State := prt 3 3 { ph0 := 100, lockBpf := 256, twice := true }; let p : Fin 24 := 3; let f : TdmFrame := frm; let st := (s.ob (oidPortState p)).toNat; let x := s.port p; let l := tdmSamples f x.timing; let e := frameEdges l; let n := e.length; let ended := f.ended || decide (n < l.length); let marks : Prop := s.portHz p ≠ 0 ∧ fsWidth l ≠ 0 ∧ (ended = true → fsWidth l ≠ n); let steady : Prop := ended = true ∧ f.dev.natAbs ≤ 5000000 ∧ n = x.lockBpf ∧ x.win.length < 255; Canonical s ∧ (st = 2 ∨ st = 3) ∧ marks ∧ steady ∧ x.twice = true ∧ x.ferrs = []) ∧
    (let s : State := prt 3 3 { ph0 := 500, lockBpf := 256 }; let p : Fin 24 := 3; let f : TdmFrame := frm; let st := (s.ob (oidPortState p)).toNat; let x := s.port p; let l := tdmSamples f x.timing; let e := frameEdges l; let n := e.length; let ended := f.ended || decide (n < l.length); let marks : Prop := s.portHz p ≠ 0 ∧ fsWidth l ≠ 0 ∧ (ended = true → fsWidth l ≠ n); let steady : Prop := ended = true ∧ f.dev.natAbs ≤ 5000000 ∧ n = x.lockBpf ∧ x.win.length < 255; Canonical s ∧ (st = 2 ∨ st = 3 ∨ st = 4) ∧ marks ∧ steady ∧ x.twice = false ∧ phaseFar f.phase x.ph0 = true) ∧
    (let s : State := prt 3 4 { ph0 := 100, lockBpf := 256 }; let p : Fin 24 := 3; let f : TdmFrame := frm; let st := (s.ob (oidPortState p)).toNat; let x := s.port p; let l := tdmSamples f x.timing; let e := frameEdges l; let n := e.length; let ended := f.ended || decide (n < l.length); let marks : Prop := s.portHz p ≠ 0 ∧ fsWidth l ≠ 0 ∧ (ended = true → fsWidth l ≠ n); let steady : Prop := ended = true ∧ f.dev.natAbs ≤ 5000000 ∧ n = x.lockBpf ∧ x.win.length < 255; Canonical s ∧ (st = 2 ∨ st = 3 ∨ st = 4) ∧ marks ∧ steady ∧ x.twice = false ∧ phaseFar f.phase x.ph0 = false) ∧
    (let s : State := prt 3 1 { timing := 1 }; let p : Fin 24 := 3; let f : TdmFrame := frm; let st := (s.ob (oidPortState p)).toNat; let x := s.port p; let l := tdmSamples f x.timing; Canonical s ∧ st ≠ 0 ∧ s.portHz p ≠ 0 ∧ 0 < fsWidth l ∧ fsWidth l < (frameEdges l).length) ∧
    (let s : State := (prt 3 1 { stable := 100000, lockBpf := 512, timing := 1 }).put (oidTwinState) 5; let p : Fin 24 := 3; let st := (s.ob (oidPortState p)).toNat; let x := s.port p; let al := (s.ob (oidPortAlign p)).toNat; let fits : Prop := x.lockBpf ≤ 50000000 / max 1 (s.portHz p) ∧ offsetOf x.timing + s.slotsOf p * s.slotWidth p ≤ x.lockBpf; let locks : Prop := (st = 1 ∨ st = 5) ∧ s.portHz p ≠ 0 ∧ x.held = false ∧ (s.ob (oidPortReentry p)).toNat ≤ x.stable; let share := (s.ob (oidPortTxShare p)).toNat; Canonical s ∧ locks ∧ fits ∧ al = 0xFF ∧ s.isStandby = true ∧ (st = 1 ∨ st = 5) ∧ (x.zc * 1000 < (s.ob (oidPortZcTimeout p)).toNat * s.portHz p ∨ x.entry = true) ∧ x.subst = none ∧ 3 < share) ∧
    (let s : State := (((prt 3 2 { held := false }).put (oidPortAlign 3) 2)).put (oidPortTxShare 3) 1; let p : Fin 24 := 3; let g : Fin 8 := 2; let st := (s.ob (oidPortState p)).toNat; let x := s.port p; let locks : Prop := (st = 1 ∨ st = 5) ∧ s.portHz p ≠ 0 ∧ x.held = false ∧ (s.ob (oidPortReentry p)).toNat ≤ x.stable; let share := (s.ob (oidPortTxShare p)).toNat; let all : Prop := ∀ q, q < 24 → (s.ob (oidPortAlign q)).toNat = g.val → s.pst q ≠ 0 → (s.port q).been = true ∨ (s.port q).held = true; Canonical s ∧ ¬locks ∧ (st = 2 ∨ st = 3 ∨ st = 4) ∧ s.isStandby = false ∧ (all ∨ bit (s.ob oidAlignCtrl) g = false) ∧ share ≤ 3) ∧
    (let s : State := prt 3 1 { stable := 100000, lockBpf := 5 }; let p : Fin 24 := 3; let st := (s.ob (oidPortState p)).toNat; let x := s.port p; let fits : Prop := x.lockBpf ≤ 50000000 / max 1 (s.portHz p) ∧ offsetOf x.timing + s.slotsOf p * s.slotWidth p ≤ x.lockBpf; let locks : Prop := (st = 1 ∨ st = 5) ∧ s.portHz p ≠ 0 ∧ x.held = false ∧ (s.ob (oidPortReentry p)).toNat ≤ x.stable; Canonical s ∧ locks ∧ ¬fits) ∧
    (let s : State := prt 3 0 {}; let p : Fin 24 := 3; let st := (s.ob (oidPortState p)).toNat; Canonical s ∧ (st = 0 ∨ 5 < st)) ∧
    (let s : State := prt 3 3 { stable := 100000, lockBpf := 5120, subst := some 32 }; let p : Fin 24 := 3; let x := s.port p; let k := (32 : Nat); Canonical s ∧ x.subst = some k ∧ 32 ≤ k) ∧
    (let s : State := prt 3 1 { stable := 100000, lockBpf := 512, timing := 1 }; let p : Fin 24 := 3; let st := (s.ob (oidPortState p)).toNat; let x := s.port p; let al := (s.ob (oidPortAlign p)).toNat; let fits : Prop := x.lockBpf ≤ 50000000 / max 1 (s.portHz p) ∧ offsetOf x.timing + s.slotsOf p * s.slotWidth p ≤ x.lockBpf; let locks : Prop := (st = 1 ∨ st = 5) ∧ s.portHz p ≠ 0 ∧ x.held = false ∧ (s.ob (oidPortReentry p)).toNat ≤ x.stable; Canonical s ∧ locks ∧ fits ∧ al = 0xFF ∧ s.isStandby = false) ∧
    (let s : State := (((((prt 3 1 { stable := 100000, lockBpf := 512, timing := 1, phase := 100000 }).put (oidPortAlign 3) 2).put (oidPortAlign 5) 2).put (oidPortState 5) 3).setPort 5 { phase := 5 }); let p : Fin 24 := 3; let st := (s.ob (oidPortState p)).toNat; let x := s.port p; let al := (s.ob (oidPortAlign p)).toNat; let fits : Prop := x.lockBpf ≤ 50000000 / max 1 (s.portHz p) ∧ offsetOf x.timing + s.slotsOf p * s.slotWidth p ≤ x.lockBpf; let locks : Prop := (st = 1 ∨ st = 5) ∧ s.portHz p ≠ 0 ∧ x.held = false ∧ (s.ob (oidPortReentry p)).toNat ≤ x.stable; let q := (5 : Nat); Canonical s ∧ locks ∧ fits ∧ al ≠ 0xFF ∧ s.alignLead al = some q ∧ phaseFar x.phase (s.port q).phase = true) ∧
    (let s : State := ((prt 3 1 { stable := 100000, lockBpf := 512, timing := 1 }).put (oidPortAlign 3) 2).put oidAlignCtrl 4; let p : Fin 24 := 3; let st := (s.ob (oidPortState p)).toNat; let x := s.port p; let al := (s.ob (oidPortAlign p)).toNat; let fits : Prop := x.lockBpf ≤ 50000000 / max 1 (s.portHz p) ∧ offsetOf x.timing + s.slotsOf p * s.slotWidth p ≤ x.lockBpf; let locks : Prop := (st = 1 ∨ st = 5) ∧ s.portHz p ≠ 0 ∧ x.held = false ∧ (s.ob (oidPortReentry p)).toNat ≤ x.stable; Canonical s ∧ locks ∧ fits ∧ al ≠ 0xFF ∧ s.alignLead al = none ∧ x.been = false ∧ bit (s.ob oidAlignCtrl) al = true) ∧
    (let s : State := prt 3 2 { zc := 100000000, rx := [(0, {st := 1})] }; let p : Fin 24 := 3; let st := (s.ob (oidPortState p)).toNat; let x := s.port p; Canonical s ∧ st = 2 ∧ x.entry = false ∧ x.rx = [(0, { st := 1 })] ∧ x.tx = [] ∧ (s.ob (oidPortZcTimeout p)).toNat * s.portHz p ≤ x.zc * 1000) ∧
    (let s : State := (((((prt 3 1 { stable := 100000, lockBpf := 512, timing := 1, phase := 5 }).put (oidPortAlign 3) 2).put (oidPortAlign 5) 2).put (oidPortState 5) 3).setPort 5 { phase := 5 }); let p : Fin 24 := 3; let st := (s.ob (oidPortState p)).toNat; let x := s.port p; let al := (s.ob (oidPortAlign p)).toNat; let fits : Prop := x.lockBpf ≤ 50000000 / max 1 (s.portHz p) ∧ offsetOf x.timing + s.slotsOf p * s.slotWidth p ≤ x.lockBpf; let locks : Prop := (st = 1 ∨ st = 5) ∧ s.portHz p ≠ 0 ∧ x.held = false ∧ (s.ob (oidPortReentry p)).toNat ≤ x.stable; let q := (5 : Nat); Canonical s ∧ locks ∧ fits ∧ al ≠ 0xFF ∧ s.alignLead al = some q ∧ phaseFar x.phase (s.port q).phase = false ∧ s.isStandby = false ∧ (x.been = true ∨ bit (s.ob oidAlignCtrl) al = false)) := by
  refine ⟨?_, ?_, ?_, ?_, ?_, ?_, ?_, ?_, ?_, ?_, ?_, ?_, ?_, ?_, ?_, ?_⟩ <;> (try unfold Canonical) <;> (try dsimp only) <;> decide +kernel

theorem witness_References :
    (let s : State := ({ rf 2 with clk := { refs := [(1, { offs := List.replicate 160 5, good := 100000 })] } }).put (oidRefCfg 1) 1; let acc : Access := acc1; let r : Fin 8 := 1; let v : Word := 0x1; let st := (s.ob (oidRefState r)).toNat; let soft := v.toNat % 2 ^ 10; let hard := v.toNat / 2 ^ 10 % 2 ^ 10; let hyst := v.toNat / 2 ^ 20 % 2 ^ 10; let good : Prop := 1 ≤ soft ∧ soft ≤ 990 ∧ soft ≤ hard ∧ hard ≤ 990 ∧ hyst < hard; let held : Prop := s.requalifies r = true ∧ (s.ob (oidRefQualTime r)).toNat ≤ (s.refMon r).good * 100; Canonical s ∧ mapWf (fun _ => ({} : RefMon)) s.clk.refs = true ∧ s.admits acc (oidRefCfg r) v = true ∧ refCfgBad r v = false ∧ s.admits acc (oidRefLimits r) v = true ∧ ¬good ∧ 2 ≤ st ∧ (st ≠ 1 ∨ s.refSource r = false) ∧ (st = 2 ∨ st = 4 ∨ st = 5) ∧ held) ∧
    (let s : State := rf 1; let r : Fin 8 := 1; let st := (s.ob (oidRefState r)).toNat; let held : Prop := s.requalifies r = true ∧ (s.ob (oidRefQualTime r)).toNat ≤ (s.refMon r).good * 100; Canonical s ∧ mapWf (fun _ => ({} : RefMon)) s.clk.refs = true ∧ st ≤ 1 ∧ st = 1 ∧ s.refSource r = true ∧ ((st ≠ 2 ∧ st ≠ 4 ∧ st ≠ 5) ∨ ¬held)) ∧
    (let s : State := rf 3; let acc : Access := acc1; let r : Fin 8 := 1; let v : Word := (10 + 1024*20 + 1048576*5 : Word); let soft := v.toNat % 2 ^ 10; let hard := v.toNat / 2 ^ 10 % 2 ^ 10; let hyst := v.toNat / 2 ^ 20 % 2 ^ 10; let good : Prop := 1 ≤ soft ∧ soft ≤ 990 ∧ soft ≤ hard ∧ hard ≤ 990 ∧ hyst < hard; Canonical s ∧ mapWf (fun _ => ({} : RefMon)) s.clk.refs = true ∧ s.admits acc (oidRefLimits r) v = true ∧ good) ∧
    (let s : State := rf 3; let acc : Access := acc1; let r : Fin 8 := 1; let v : Word := 0x200; Canonical s ∧ mapWf (fun _ => ({} : RefMon)) s.clk.refs = true ∧ s.admits acc (oidRefCfg r) v = true ∧ refCfgBad r v = true) := by
  refine ⟨?_, ?_, ?_, ?_⟩ <;> (try unfold Canonical) <;> (try dsimp only) <;> decide +kernel

theorem witness_Ref0Rank :
    (let s : State := ({} : State).put oidPtpParentQuality 0x2006; let acc : Access := acc1; let v : Word := 1; let src := v.toNat % 4; let q := (s.ob (if src = 1 then oidPtpParentQuality else oidPpsQuality)).toNat; let accuracy := if src = 1 then q / 256 % 256 else q % 256; Canonical s ∧ s.admits acc oidServoCfg v = true ∧ (src = 1 ∨ src = 2) ∧ 0x17 ≤ accuracy ∧ accuracy ≤ 0x21) ∧
    (let s : State := ({} : State).put oidPtpParentQuality 0x2207; let acc : Access := acc1; let v : Word := 1; let src := v.toNat % 4; let q := (s.ob (if src = 1 then oidPtpParentQuality else oidPpsQuality)).toNat; let accuracy := if src = 1 then q / 256 % 256 else q % 256; Canonical s ∧ s.admits acc oidServoCfg v = true ∧ (src = 1 ∨ src = 2) ∧ 0x22 ≤ accuracy ∧ accuracy ≤ 0x23) ∧
    (let s : State := ({} : State).put oidPtpParentQuality 0x24FF; let acc : Access := acc1; let v : Word := 1; let src := v.toNat % 4; let q := (s.ob (if src = 1 then oidPtpParentQuality else oidPpsQuality)).toNat; let accuracy := if src = 1 then q / 256 % 256 else q % 256; Canonical s ∧ s.admits acc oidServoCfg v = true ∧ (src = 1 ∨ src = 2) ∧ 0x24 ≤ accuracy ∧ accuracy ≤ 0x27) ∧
    (let s : State := ({} : State).put oidPpsQuality 0x06FE; let acc : Access := acc1; let v : Word := 2; let src := v.toNat % 4; let q := (s.ob (if src = 1 then oidPtpParentQuality else oidPpsQuality)).toNat; let accuracy := if src = 1 then q / 256 % 256 else q % 256; Canonical s ∧ s.admits acc oidServoCfg v = true ∧ (src = 1 ∨ src = 2) ∧ ((0x28 ≤ accuracy ∧ accuracy ≤ 0x31) ∨ accuracy = 0xFE)) := by
  refine ⟨?_, ?_, ?_, ?_⟩ <;> (try unfold Canonical) <;> (try dsimp only) <;> decide +kernel

theorem witness_Dplls :
    (let s : State := (dp 3 {}).put (oidDpllManualRef 1) 7; let acc : Access := acc1; let d : Fin 3 := 1; let v : Word := 2; let st := (s.ob (oidDpllState d)).toNat; let m := (s.ob (oidDpllManualRef d)).toNat; let list := (List.range 7).map (fun j => (s.ob (oidDpllFallback d j)).toNat); Canonical s ∧ mapWf (fun _ => ({} : Dpll)) s.clk.dplls = true ∧ s.admits acc (oidDpllMode d) v = true ∧ 2 ≤ st ∧ st ≤ 5 ∧ v = 2 ∧ s.admits acc (oidDpllManualRef d) v = true ∧ namesTwice (v.toNat :: list) = false ∧ s.admits acc (oidDpllDco d) v = true ∧ s.target (oidDpllCtrlSource d) = 0 ∧ s.refOk d m = false) ∧
    (let s : State := dp 4 {}; let acc : Access := acc1; let d : Fin 3 := 1; let v : Word := 0; let st := (s.ob (oidDpllState d)).toNat; let m := (s.ob (oidDpllManualRef d)).toNat; Canonical s ∧ mapWf (fun _ => ({} : Dpll)) s.clk.dplls = true ∧ s.admits acc (oidDpllMode d) v = true ∧ v = 0 ∧ s.ob (oidDpllMode d) = 0 ∧ s.refOk d m = true ∧ s.dsel d ≠ m ∧ st = 4) ∧
    (let s : State := (dp 3 {}).setPe (oidDpllCtrlSource 1) {target := 1}; let acc : Access := acc1; let d : Fin 3 := 1; let v : Word := 0x7FF; let st := (s.ob (oidDpllState d)).toNat; let m := (s.ob (oidDpllManualRef d)).toNat; Canonical s ∧ mapWf (fun _ => ({} : Dpll)) s.clk.dplls = true ∧ s.admits acc (oidDpllDco d) v = true ∧ s.target (oidDpllCtrlSource d) ≠ 0 ∧ st ≠ 6 ∧ s.ob (oidDpllMode d) = 0 ∧ s.refOk d m = true ∧ s.dsel d ≠ m ∧ (st = 2 ∨ st = 3)) ∧
    (let s : State := dp 0 {}; let acc : Access := acc1; let d : Fin 3 := 1; let v : Word := 1; let st := (s.ob (oidDpllState d)).toNat; Canonical s ∧ mapWf (fun _ => ({} : Dpll)) s.clk.dplls = true ∧ s.admits acc (oidDpllMode d) v = true ∧ (st = 0 ∨ st = 6)) ∧
    (let s : State := dp 4 {}; let acc : Access := acc1; let d : Fin 3 := 1; let v : Word := 1; let st := (s.ob (oidDpllState d)).toNat; Canonical s ∧ mapWf (fun _ => ({} : Dpll)) s.clk.dplls = true ∧ s.admits acc (oidDpllMode d) v = true ∧ 2 ≤ st ∧ st ≤ 4 ∧ v = 1) ∧
    (let s : State := (dp 6 {}).setPe (oidDpllCtrlSource 1) {target := 1}; let acc : Access := acc1; let d : Fin 3 := 1; let v : Word := 0x3F800000; Canonical s ∧ mapWf (fun _ => ({} : Dpll)) s.clk.dplls = true ∧ s.admits acc (oidDpllTrackBw d) v = true ∧ v ≠ 0x80000000) ∧
    (let s : State := (dp 6 {}).setPe (oidDpllCtrlSource 1) {target := 1}; let acc : Access := acc1; let d : Fin 3 := 1; let v : Word := 3; let st := (s.ob (oidDpllState d)).toNat; Canonical s ∧ mapWf (fun _ => ({} : Dpll)) s.clk.dplls = true ∧ s.admits acc (oidDpllDco d) v = true ∧ s.target (oidDpllCtrlSource d) ≠ 0 ∧ st = 6) ∧
    (let s : State := (dp 4 {}).put (oidDpllFallback 1 2) 3; let acc : Access := acc1; let d : Fin 3 := 1; let v : Word := 3; let list := (List.range 7).map (fun j => (s.ob (oidDpllFallback d j)).toNat); Canonical s ∧ mapWf (fun _ => ({} : Dpll)) s.clk.dplls = true ∧ s.admits acc (oidDpllManualRef d) v = true ∧ namesTwice (v.toNat :: list) = true) ∧
    (let s : State := (dp 3 {stage := 1}).put (oidDpllTrackBw 1) 0x3F800000; let d : Fin 3 := 1; let st := (s.ob (oidDpllState d)).toNat; let x := s.dpll d; let k := s.stageFrom d (x.stage + 1); Canonical s ∧ mapWf (fun _ => ({} : Dpll)) s.clk.dplls = true ∧ st ≠ 2 ∧ st = 3 ∧ k ≠ 4 ∧ st ≠ 4 ∧ (d = 0 ∨ s.ob (oidDpllBuildout d) = 0 ∨ (st ≠ 3 ∧ st ≠ 4) ∨ 6 ≤ s.dsel d)) ∧
    (let s : State := (dp 4 {stage := 4}).put (oidDpllBuildout 1) 0x3F800000; let d : Fin 3 := 1; let st := (s.ob (oidDpllState d)).toNat; Canonical s ∧ mapWf (fun _ => ({} : Dpll)) s.clk.dplls = true ∧ st ≠ 3 ∧ st = 4 ∧ d ≠ 0 ∧ s.ob (oidDpllBuildout d) ≠ 0 ∧ (st = 3 ∨ st = 4) ∧ s.dsel d < 6) ∧
    (let s : State := (dp 2 {}).put (oidDpllTrackBw 1) 0x40000000; let d : Fin 3 := 1; let st := (s.ob (oidDpllState d)).toNat; Canonical s ∧ mapWf (fun _ => ({} : Dpll)) s.clk.dplls = true ∧ st = 2 ∧ s.stageFrom d 1 ≠ 4) ∧
    (let s : State := (dp 3 {stage := 3}).put (oidDpllTrackBw 1) 0x3F800000; let d : Fin 3 := 1; let st := (s.ob (oidDpllState d)).toNat; let x := s.dpll d; let k := s.stageFrom d (x.stage + 1); Canonical s ∧ mapWf (fun _ => ({} : Dpll)) s.clk.dplls = true ∧ st = 3 ∧ k = 4 ∧ x.revert = false) := by
  refine ⟨?_, ?_, ?_, ?_, ?_, ?_, ?_, ?_, ?_, ?_, ?_, ?_⟩ <;> (try unfold Canonical) <;> (try dsimp only) <;> decide +kernel

theorem witness_OutputGroups :
    (let s : State := {}; let acc : Access := acc1; let g : Fin 4 := 1; let k : Fin 8 := 2; let v : Word := 3; let badK : Prop := 5 < v.toNat / 2 % 8 ∨ 50000000 < mclkHzOf v (s.domHz (s.ogDom (mclkGroup k))); Canonical s ∧ s.admits acc (oidOgCfg g) v = true ∧ v.toNat % 4 = 3 ∧ s.admits acc (oidMclkCfg k) v = true ∧ ¬badK ∧ s.ob (oidOgState g) ≠ 1) ∧
    (let s : State := ({} : State).put (oidOgState 1) 1; let acc : Access := acc1; let g : Fin 4 := 1; let v : Word := 2; let used : Prop := ∃ j, j < 8 ∧ mclkGroup j = g.val + 1 ∧ bit (s.ob (oidMclkCfg j)) 0 = true; Canonical s ∧ s.admits acc (oidOgCfg g) v = true ∧ v.toNat % 4 ≠ 3 ∧ ¬used ∧ s.ob (oidOgState g) = 1) ∧
    (let s : State := ((({} : State).put (oidMclkCfg 3) 1).put (oidMclkCfg 2) 1).put (oidMclkCfg 4) 1; let acc : Access := acc1; let k : Fin 8 := 2; let v : Word := 0xF; let badK : Prop := 5 < v.toNat / 2 % 8 ∨ 50000000 < mclkHzOf v (s.domHz (s.ogDom (mclkGroup k))); Canonical s ∧ s.admits acc (oidMclkCfg k) v = true ∧ badK) ∧
    (let s : State := ((({} : State).put (oidMclkCfg 3) 1).put (oidMclkCfg 2) 1).put (oidMclkCfg 4) 1; let acc : Access := acc1; let g : Fin 4 := 1; let v : Word := 1; let used : Prop := ∃ j, j < 8 ∧ mclkGroup j = g.val + 1 ∧ bit (s.ob (oidMclkCfg j)) 0 = true; Canonical s ∧ s.admits acc (oidOgCfg g) v = true ∧ v.toNat % 4 ≠ 3 ∧ used) := by
  refine ⟨?_, ?_, ?_, ?_⟩ <;> (try unfold Canonical) <;> (try dsimp only) <;> decide +kernel

theorem witness_DeviceTimeAndServo :
    (let s : State := (((({} : State).put oidServoCfg 0).put oidTimeSetSecHi 5).put oidTimeSetNs 77).put oidTimeAdjNs 0xFFFFFFF0; let acc : Access := acc1; let src := (s.ob oidServoCfg).toNat % 4; Canonical s ∧ s.pd3 = true ∧ s.admits acc oidTimeCtrl 1 = true ∧ src = 0 ∧ s.admits acc oidTimeCtrl 2 = true) ∧
    (let s : State := pd 0; let acc : Access := acc1; let src := (s.ob oidServoCfg).toNat % 4; Canonical s ∧ s.pd3 = false ∧ s.admits acc oidTimeCtrl 1 = true ∧ (src ≠ 0 ∨ s.pd3 = false) ∧ s.admits acc oidTimeCtrl 2 = true) ∧
    (let s : State := pd 0; let acc : Access := acc1; let v : Word := 3; let st := (s.ob oidServoState).toNat; let n := v.toNat % 4; Canonical s ∧ s.admits acc oidServoCfg v = true ∧ n = 3 ∧ (s.time.sample = none ∨ s.pd3 = false) ∧ st ≠ 1 ∧ st ≠ 2) ∧
    (let s : State := { (({} : State).put oidServoState 2).put oidServoStepNs 100 with time := {sample := some 50, dt := 7, good := 15} }; let acc : Access := acc1; let v : Word := 2; let off : Int := 50; let st := (s.ob oidServoState).toNat; let n := v.toNat % 4; Canonical s ∧ s.admits acc oidServoCfg v = true ∧ (n = 1 ∨ n = 2) ∧ s.time.sample = some off ∧ s.pd3 = true ∧ st = 2 ∧ off.natAbs ≤ 1000 ∧ (st = 1 ∨ st = 2)) ∧
    (let s : State := {}; let acc : Access := acc1; let v : Word := 0; let n := v.toNat % 4; Canonical s ∧ s.admits acc oidServoCfg v = true ∧ n = 0) ∧
    (let s : State := { ({} : State).put oidServoState 3 with time := {sample := some 5} }; let off : Int := 5; let st := (s.ob oidServoState).toNat; Canonical s ∧ s.time.sample = some off ∧ s.pd3 = true ∧ st = 3) ∧
    (let s : State := { (({} : State).put oidServoState 2).put oidServoStepNs 100 with time := {sample := some (-5000), dt := 7, good := 15} }; let off : Int := -5000; let st := (s.ob oidServoState).toNat; Canonical s ∧ s.time.sample = some off ∧ s.pd3 = true ∧ st = 2 ∧ 1000 < off.natAbs) ∧
    (let s : State := { (({} : State).put oidServoState 1).put oidServoStepNs 100 with time := {sample := some 5000000000, dt := 7} }; let off : Int := 5000000000; let st := (s.ob oidServoState).toNat; Canonical s ∧ s.time.sample = some off ∧ s.pd3 = true ∧ st = 1 ∧ (s.ob oidServoStepNs).toNat < off.natAbs) ∧
    (let s : State := { (({} : State).put oidServoState 1).put oidServoStepNs 100 with time := {sample := some 50, dt := 7} }; let off : Int := 50; let st := (s.ob oidServoState).toNat; Canonical s ∧ s.time.sample = some off ∧ s.pd3 = true ∧ st = 1 ∧ off.natAbs ≤ (s.ob oidServoStepNs).toNat ∧ off.natAbs < 100) ∧
    (let s : State := { (({} : State).put oidServoState 1).put oidServoStepNs 1000 with time := {sample := some 500, dt := 7} }; let off : Int := 500; let st := (s.ob oidServoState).toNat; Canonical s ∧ s.time.sample = some off ∧ s.pd3 = true ∧ st = 1 ∧ off.natAbs ≤ (s.ob oidServoStepNs).toNat ∧ 100 ≤ off.natAbs) := by
  refine ⟨?_, ?_, ?_, ?_, ?_, ?_, ?_, ?_, ?_, ?_⟩ <;> (try unfold Canonical) <;> (try dsimp only) <;> decide +kernel

theorem witness_PtpInstance :
    (let s : State := pt1.put oidPtpCfg (wd (4096 + 8192 + 1)); let lane : Fin 2 := 1; let m : PtpMsg := ⟨.announce, 5, 5, 1, false, 7, 8, 9, 10, 0⟩; let kind : PtpKind := .pdelayReq; let cfg := s.ob oidPtpCfg; let here : Prop := s.pd3 = true ∧ bit cfg (11 + lane) = true; let mine : Prop := here ∧ m.domain.toNat = cfg.toNat / 2 ^ 3 % 2 ^ 8; Canonical s ∧ mapWf (fun _ => (none : Option (Nat × Int))) s.time.ptp.req = true ∧ mapWf (fun _ => (0 : Int)) s.time.ptp.delay = true ∧ ¬mine ∧ here ∧ s.ptpSends lane kind = true) ∧
    (let s : State := pt1; let lane : Fin 2 := 1; let m : PtpMsg := ⟨.announce, 5, 5, 1, false, 7, 8, 9, 10, 0⟩; let kind : PtpKind := .pdelayReq; let cfg := s.ob oidPtpCfg; let here : Prop := s.pd3 = true ∧ bit cfg (11 + lane) = true; let mine : Prop := here ∧ m.domain.toNat = cfg.toNat / 2 ^ 3 % 2 ^ 8; Canonical s ∧ mapWf (fun _ => (none : Option (Nat × Int))) s.time.ptp.req = true ∧ mapWf (fun _ => (0 : Int)) s.time.ptp.delay = true ∧ mine ∧ m.kind = .announce ∧ m.src = s.parentId ∧ (¬here ∨ s.ptpSends lane kind = false)) ∧
    (let s : State := pt1; let lane : Fin 2 := 1; let m : PtpMsg := ⟨.sync, 5, 6, 1, false, 7, 8, 9, 10, 0⟩; let cfg := s.ob oidPtpCfg; let here : Prop := s.pd3 = true ∧ bit cfg (11 + lane) = true; let mine : Prop := here ∧ m.domain.toNat = cfg.toNat / 2 ^ 3 % 2 ^ 8; Canonical s ∧ mapWf (fun _ => (none : Option (Nat × Int))) s.time.ptp.req = true ∧ mapWf (fun _ => (0 : Int)) s.time.ptp.delay = true ∧ mine ∧ m.kind = .sync ∧ m.src ≠ s.parentId) ∧
    (let s : State := pt1; let lane : Fin 2 := 1; let m : PtpMsg := ⟨.sync, 5, 5, 1, true, 7, 8, 9, 10, 0⟩; let cfg := s.ob oidPtpCfg; let here : Prop := s.pd3 = true ∧ bit cfg (11 + lane) = true; let mine : Prop := here ∧ m.domain.toNat = cfg.toNat / 2 ^ 3 % 2 ^ 8; Canonical s ∧ mapWf (fun _ => (none : Option (Nat × Int))) s.time.ptp.req = true ∧ mapWf (fun _ => (0 : Int)) s.time.ptp.delay = true ∧ mine ∧ m.kind = .sync ∧ m.src = s.parentId ∧ m.twoStep = true) ∧
    (let s : State := pt1; let lane : Fin 2 := 1; let m : PtpMsg := ⟨.sync, 5, 5, 1, false, 7, 8, 9, 10, 0⟩; let cfg := s.ob oidPtpCfg; let here : Prop := s.pd3 = true ∧ bit cfg (11 + lane) = true; let mine : Prop := here ∧ m.domain.toNat = cfg.toNat / 2 ^ 3 % 2 ^ 8; let src := (s.ob oidServoCfg).toNat % 4; Canonical s ∧ mapWf (fun _ => (none : Option (Nat × Int))) s.time.ptp.req = true ∧ mapWf (fun _ => (0 : Int)) s.time.ptp.delay = true ∧ mine ∧ m.kind = .sync ∧ m.src = s.parentId ∧ m.twoStep = false ∧ src = 1) ∧
    (let s : State := { pt1 with time := { pt1.time with ptp := { sync := some (1, 500, 3) } } }; let lane : Fin 2 := 1; let m : PtpMsg := ⟨.followUp, 5, 5, 1, true, 7, 8, 9, 10, 0⟩; let cfg := s.ob oidPtpCfg; let here : Prop := s.pd3 = true ∧ bit cfg (11 + lane) = true; let mine : Prop := here ∧ m.domain.toNat = cfg.toNat / 2 ^ 3 % 2 ^ 8; let src := (s.ob oidServoCfg).toNat % 4; let t2 := (500:Int); let c := (3:Int); Canonical s ∧ mapWf (fun _ => (none : Option (Nat × Int))) s.time.ptp.req = true ∧ mapWf (fun _ => (0 : Int)) s.time.ptp.delay = true ∧ mine ∧ m.kind = .followUp ∧ m.src = s.parentId ∧ s.time.ptp.sync = some (m.seq.toNat, t2, c) ∧ src = 1) ∧
    (let s : State := { pt1 with time := { pt1.time with ptp := { down := 70, req := [(1, some (1, 400))] } } }; let lane : Fin 2 := 1; let m : PtpMsg := ⟨.delayResp, 5, 5, 1, true, 7, 8, 9, 10, 0⟩; let cfg := s.ob oidPtpCfg; let here : Prop := s.pd3 = true ∧ bit cfg (11 + lane) = true; let mine : Prop := here ∧ m.domain.toNat = cfg.toNat / 2 ^ 3 % 2 ^ 8; let t3 := (400:Int); Canonical s ∧ mapWf (fun _ => (none : Option (Nat × Int))) s.time.ptp.req = true ∧ mapWf (fun _ => (0 : Int)) s.time.ptp.delay = true ∧ mine ∧ m.kind = .delayResp ∧ m.src = s.parentId ∧ mapGet (fun _ => none) s.time.ptp.req lane = some (m.seq.toNat, t3)) := by
  refine ⟨?_, ?_, ?_, ?_, ?_, ?_, ?_⟩ <;> (try unfold Canonical) <;> (try dsimp only) <;> decide +kernel

theorem witness_TimeActionsAndCaptures :
    (let s : State := ta0; let acc : Access := acc1; let e : Fin 128 := 5; let v : Word := 0x1F; let tgt := v.toNat / 2 % 16; Canonical s ∧ s.admits acc (oidTaCfg e) v = true ∧ 8 < tgt ∧ (s.pd3 = false ∨ s.taOn e = false) ∧ s.taTarget e ≠ 7 ∧ e.val ∉ s.time.late ∧ 0 < s.dueIn e ∧ s.time.pulses.find? (fun x => x.1 = e.val) = none) ∧
    (let s : State := { ((ta0.put (oidTaCfg 5) 0x5).put (oidTaDueNs 5) 0) with time := {dt := 2^70, pulses := [(5,2)], gpio := 7} }; let e : Fin 128 := 5; let p := (s.ob (oidTaPeriod e)).toNat; let pin := fld (s.ob (oidTaArg e)) 4 0; let q := (2:Nat); Canonical s ∧ s.pd3 = true ∧ s.taOn e = true ∧ s.taTarget e = 2 ∧ e.val ∉ s.time.late ∧ s.dueIn e ≤ 0 ∧ p = 0 ∧ bit (s.ob oidGpioTimeOut) pin = true ∧ s.time.pulses.find? (fun x => x.1 = e.val) = some (e.val, q) ∧ bit (s.ob oidGpioTimeOut) q = true) ∧
    (let s : State := ta0; let acc : Access := acc1; let e : Fin 128 := 5; let v : Word := 0x1; let tgt := v.toNat / 2 % 16; let p := (s.ob (oidTaPeriod e)).toNat; let pin := fld (s.ob (oidTaArg e)) 4 0; let bad : Prop := tgt = 0 ∨ taPeriodOk tgt p = false ∨ (2 ≤ tgt ∧ tgt ≤ 5 ∧ bit (s.ob oidGpioTimeOut) pin = false) ∨ (tgt = 5 ∧ taWidthOk p (s.ob (oidTaWidth e)).toNat = false); Canonical s ∧ s.admits acc (oidTaCfg e) v = true ∧ tgt ≤ 8 ∧ v.getLsbD 0 = true ∧ bad) ∧
    (let s : State := ta0.put oidPwrDomains 0; let acc : Access := acc1; let e : Fin 128 := 5; let v : Word := 0x5; let tgt := v.toNat / 2 % 16; let p := (s.ob (oidTaPeriod e)).toNat; let pin := fld (s.ob (oidTaArg e)) 4 0; let bad : Prop := tgt = 0 ∨ taPeriodOk tgt p = false ∨ (2 ≤ tgt ∧ tgt ≤ 5 ∧ bit (s.ob oidGpioTimeOut) pin = false) ∨ (tgt = 5 ∧ taWidthOk p (s.ob (oidTaWidth e)).toNat = false); Canonical s ∧ s.admits acc (oidTaCfg e) v = true ∧ tgt ≤ 8 ∧ v.getLsbD 0 = true ∧ ¬bad ∧ s.pd3 = false) ∧
    (let s : State := { ta0.put (oidTaCfg 5) 0x11 with img := { act := { phase := 1, atTime := true } } }; let acc : Access := acc1; let e : Fin 128 := 5; let v : Word := 0x4; let tgt := v.toNat / 2 % 16; Canonical s ∧ s.admits acc (oidTaCfg e) v = true ∧ tgt ≤ 8 ∧ v.getLsbD 0 = false ∧ s.taBusy e = true) ∧
    (let s : State := ta0; let acc : Access := acc1; let e : Fin 128 := 5; let v : Word := 0x4; let tgt := v.toNat / 2 % 16; Canonical s ∧ s.admits acc (oidTaCfg e) v = true ∧ tgt ≤ 8 ∧ v.getLsbD 0 = false ∧ s.taBusy e = false) ∧
    (let s : State := (ta0.put (oidTaCfg 5) 0xF).put (oidTaDueNs 5) 5000000; let e : Fin 128 := 5; Canonical s ∧ s.taTarget e = 7 ∧ e.val ∉ s.time.late ∧ 0 < s.dueIn e ∧ (s.time.dt : Int) - s.time.gb < s.dueFine e) ∧
    (let s : State := { ta0.put (oidTaCfg 5) 0x11 with img := { act := { phase := 1, atTime := true } } }; let acc : Access := acc1; let e : Fin 128 := 5; let v : Word := 0x5; let tgt := v.toNat / 2 % 16; let p := (s.ob (oidTaPeriod e)).toNat; let pin := fld (s.ob (oidTaArg e)) 4 0; let bad : Prop := tgt = 0 ∨ taPeriodOk tgt p = false ∨ (2 ≤ tgt ∧ tgt ≤ 5 ∧ bit (s.ob oidGpioTimeOut) pin = false) ∨ (tgt = 5 ∧ taWidthOk p (s.ob (oidTaWidth e)).toNat = false); let twice : Prop := 7 ≤ tgt ∧ ∃ f, f < 128 ∧ f ≠ e.val ∧ s.taOn f = true ∧ s.taTarget f = tgt; Canonical s ∧ s.admits acc (oidTaCfg e) v = true ∧ tgt ≤ 8 ∧ v.getLsbD 0 = true ∧ ¬bad ∧ s.pd3 = true ∧ (s.taBusy e = true ∨ twice)) ∧
    (let s : State := ta0; let acc : Access := acc1; let e : Fin 128 := 5; let v : Word := 0xB; let tgt := v.toNat / 2 % 16; let p := (s.ob (oidTaPeriod e)).toNat; let pin := fld (s.ob (oidTaArg e)) 4 0; let u := (s.put (oidTaCfg e) v).taState e 1; let bad : Prop := tgt = 0 ∨ taPeriodOk tgt p = false ∨ (2 ≤ tgt ∧ tgt ≤ 5 ∧ bit (s.ob oidGpioTimeOut) pin = false) ∨ (tgt = 5 ∧ taWidthOk p (s.ob (oidTaWidth e)).toNat = false); let twice : Prop := 7 ≤ tgt ∧ ∃ f, f < 128 ∧ f ≠ e.val ∧ s.taOn f = true ∧ s.taTarget f = tgt; Canonical s ∧ s.admits acc (oidTaCfg e) v = true ∧ tgt ≤ 8 ∧ v.getLsbD 0 = true ∧ ¬bad ∧ s.pd3 = true ∧ s.taBusy e = false ∧ ¬twice ∧ 2000 * 2 ^ 48 ≤ u.fireIn e) ∧
    (let s : State := cp0 1; let acc : Access := acc1; let c : Fin 16 := 9; let v : Word := 0x185; let src : Fin 61 := 0; let rising : Bool := false; let cfg (k : Nat) : Word := s.ob (oidCapCfg k); let e (k : Nat) : Nat := (cfg k).toNat / 2 ^ 7 % 4; let seen (k : Nat) : Prop := s.pd3 = true ∧ (cfg k).getLsbD 0 = true ∧ (cfg k).toNat / 2 % 2 ^ 6 = src.val ∧ (e k = 2 ∨ e k = 0 ∧ rising = true ∨ e k ≠ 0 ∧ e k ≠ 2 ∧ rising = false); let bad : Prop := 60 < v.toNat / 2 % 2 ^ 6 ∨ v.toNat / 2 ^ 7 % 4 = 3; Canonical s ∧ mapWf (fun _ => (none : Option Nat)) s.time.capAt = true ∧ s.admits acc (oidCapCfg c) v = true ∧ bad ∧ (∀ k, k < 16 → ¬seen k)) ∧
    (let s : State := (cp0 1).put oidPwrDomains 0; let acc : Access := acc1; let c : Fin 16 := 9; let v : Word := 0x5; let bad : Prop := 60 < v.toNat / 2 % 2 ^ 6 ∨ v.toNat / 2 ^ 7 % 4 = 3; Canonical s ∧ mapWf (fun _ => (none : Option Nat)) s.time.capAt = true ∧ s.admits acc (oidCapCfg c) v = true ∧ ¬bad ∧ v.getLsbD 0 = true ∧ s.pd3 = false) ∧
    (let s : State := (cp0 129); let acc : Access := acc1; let c : Fin 16 := 9; let v : Word := 0x5; let bad : Prop := 60 < v.toNat / 2 % 2 ^ 6 ∨ v.toNat / 2 ^ 7 % 4 = 3; Canonical s ∧ mapWf (fun _ => (none : Option Nat)) s.time.capAt = true ∧ s.admits acc (oidCapCfg c) v = true ∧ ¬bad ∧ (v.getLsbD 0 = false ∨ s.pd3 = true)) := by
  refine ⟨?_, ?_, ?_, ?_, ?_, ?_, ?_, ?_, ?_, ?_, ?_, ?_⟩ <;> (try unfold Canonical) <;> (try dsimp only) <;> decide +kernel

theorem witness_LanesAndBridge :
    (let s : State := q1 (lnS 1 2); let acc : Access := acc1; let lane : Fin 4 := 3; let v : Word := 2; let cfg := oidLaneCfg lane; let bad : Prop := fld v 2 1 = 3 ∨ lane.val = 3 ∧ fld v 2 1 ≠ 0; Canonical s ∧ mapWf (fun _ => []) s.net.queues = true ∧ s.admits acc cfg v = true ∧ bad ∧ (s.pd3 = false ∨ s.lane lane ≠ 1) ∧ s.laneUp lane = false ∧ s.admits acc oidBridgeMode v = true ∧ v = 2 ∧ fld (s.ob oidPtpCfg) 2 0 ≠ 4) ∧
    (let s : State := q1 (lnS 1 2); let acc : Access := acc1; let lane : Fin 4 := 1; let v : Word := 0; let cfg := oidLaneCfg lane; let bad : Prop := fld v 2 1 = 3 ∨ lane.val = 3 ∧ fld v 2 1 ≠ 0; Canonical s ∧ mapWf (fun _ => []) s.net.queues = true ∧ s.admits acc cfg v = true ∧ ¬bad ∧ bit v 0 = false ∧ s.laneUp lane = true ∧ s.admits acc oidBridgeMode v = true ∧ (v ≠ 2 ∨ fld (s.ob oidPtpCfg) 2 0 = 4)) ∧
    (let s : State := (lnS 1 1); let acc : Access := acc1; let lane : Fin 4 := 1; let v : Word := 5; let cfg := oidLaneCfg lane; let bad : Prop := fld v 2 1 = 3 ∨ lane.val = 3 ∧ fld v 2 1 ≠ 0; let old := s.ob cfg; let anew : Prop := bit old 0 = false ∨ fld v 3 1 ≠ fld old 3 1 ∨ s.lane lane = 0; Canonical s ∧ mapWf (fun _ => []) s.net.queues = true ∧ s.admits acc cfg v = true ∧ ¬bad ∧ bit v 0 = true ∧ anew ∧ s.pd3 = true ∧ s.lane lane = 1) ∧
    (let s : State := q1 (lnS 1 2); let acc : Access := acc1; let lane : Fin 4 := 1; let v : Word := 1; let cfg := oidLaneCfg lane; let bad : Prop := fld v 2 1 = 3 ∨ lane.val = 3 ∧ fld v 2 1 ≠ 0; let old := s.ob cfg; let anew : Prop := bit old 0 = false ∨ fld v 3 1 ≠ fld old 3 1 ∨ s.lane lane = 0; Canonical s ∧ mapWf (fun _ => []) s.net.queues = true ∧ s.admits acc cfg v = true ∧ ¬bad ∧ bit v 0 = true ∧ ¬anew) := by
  refine ⟨?_, ?_, ?_, ?_⟩ <;> (try unfold Canonical) <;> (try dsimp only) <;> decide +kernel

theorem witness_FramesCross :
    (let s : State := {}; let lane : Fin 4 := 1; Canonical s ∧ mapWf (fun _ => []) s.net.queues = true ∧ mapWf (fun _ => 0) s.net.txEnd = true ∧ mapWf (fun _ => 0) s.net.txCls = true ∧ mapWf (fun _ => none) s.net.sent = true ∧ mapWf (fun _ => []) s.net.rings = true ∧ mapWf (fun _ => 0) s.host.netRam = true ∧ s.laneUp lane = false ∧ (s.laneUp lane = false ∨ s.sending lane ≠ none)) ∧
    (let s : State := upS 1 1; let lane : Fin 4 := 1; let fcs : Bool := false; let bytes : List Byte := eth 5 6; let n := bytes.length + 4; let sized : Prop := 64 ≤ n ∧ n ≤ 1522; Canonical s ∧ mapWf (fun _ => []) s.net.queues = true ∧ mapWf (fun _ => 0) s.net.txEnd = true ∧ mapWf (fun _ => 0) s.net.txCls = true ∧ mapWf (fun _ => none) s.net.sent = true ∧ mapWf (fun _ => []) s.net.rings = true ∧ mapWf (fun _ => 0) s.host.netRam = true ∧ s.laneUp lane = true ∧ (¬(fcs = true ∧ sized)) ∧ s.sending lane = none ∧ (s.credits lane).nextClass lane = none) ∧
    (let s : State := { upS 1 1 with net := { queues := [(11, [fr1])], rings := []} }; let lane : Fin 4 := 1; let fcs : Bool := true; let bytes : List Byte := eth 5 6; let f : Frame := fr1; let r : List Frame := []; let tc : Nat := 3; let n := bytes.length + 4; let sized : Prop := 64 ≤ n ∧ n ≤ 1522; let src := beAt bytes 6 6; Canonical s ∧ mapWf (fun _ => []) s.net.queues = true ∧ mapWf (fun _ => 0) s.net.txEnd = true ∧ mapWf (fun _ => 0) s.net.txCls = true ∧ mapWf (fun _ => none) s.net.sent = true ∧ mapWf (fun _ => []) s.net.rings = true ∧ mapWf (fun _ => 0) s.host.netRam = true ∧ s.laneUp lane = true ∧ fcs = true ∧ sized ∧ lane.val < 2 ∧ s.ringOf lane bytes = none ∧ (s.ob oidBridgeMode ≠ 2 ∨ src ≠ s.mac 0 ∧ src ≠ s.mac 1) ∧ s.sending lane = none ∧ (s.credits lane).nextClass lane = some tc ∧ s.queue lane tc = f :: r) ∧
    (let s : State := upS 3 1; let lane : Fin 4 := 3; let fcs : Bool := true; let bytes : List Byte := dab; let bufs : List (Nat × Nat) := []; let n := bytes.length + 4; let sized : Prop := 64 ≤ n ∧ n ≤ 1522; Canonical s ∧ mapWf (fun _ => []) s.net.queues = true ∧ mapWf (fun _ => 0) s.net.txEnd = true ∧ mapWf (fun _ => 0) s.net.txCls = true ∧ mapWf (fun _ => none) s.net.sent = true ∧ mapWf (fun _ => []) s.net.rings = true ∧ mapWf (fun _ => 0) s.host.netRam = true ∧ s.laneUp lane = true ∧ fcs = true ∧ sized ∧ lane.val = 3 ∧ s.ringOf lane bytes = some 2 ∧ bufs = []) ∧
    (let s : State := upS 3 1; let lane : Fin 4 := 3; let fcs : Bool := true; let bytes : List Byte := dab; let bufs : List (Nat × Nat) := [(4096, 100)]; let n := bytes.length + 4; let sized : Prop := 64 ≤ n ∧ n ≤ 1522; let a := (4096 : Nat); let b := (100 : Nat); Canonical s ∧ mapWf (fun _ => []) s.net.queues = true ∧ mapWf (fun _ => 0) s.net.txEnd = true ∧ mapWf (fun _ => 0) s.net.txCls = true ∧ mapWf (fun _ => none) s.net.sent = true ∧ mapWf (fun _ => []) s.net.rings = true ∧ mapWf (fun _ => 0) s.host.netRam = true ∧ s.laneUp lane = true ∧ fcs = true ∧ sized ∧ lane.val = 3 ∧ s.ringOf lane bytes = some 2 ∧ bufs = [(a, b)] ∧ n ≤ b) ∧
    (let s : State := upS 3 1; let lane : Fin 4 := 3; let fcs : Bool := true; let bytes : List Byte := dab; let bufs : List (Nat × Nat) := [(4096, 70)]; let n := bytes.length + 4; let sized : Prop := 64 ≤ n ∧ n ≤ 1522; let a := (4096 : Nat); let b := (70 : Nat); Canonical s ∧ mapWf (fun _ => []) s.net.queues = true ∧ mapWf (fun _ => 0) s.net.txEnd = true ∧ mapWf (fun _ => 0) s.net.txCls = true ∧ mapWf (fun _ => none) s.net.sent = true ∧ mapWf (fun _ => []) s.net.rings = true ∧ mapWf (fun _ => 0) s.host.netRam = true ∧ s.laneUp lane = true ∧ fcs = true ∧ sized ∧ lane.val = 3 ∧ s.ringOf lane bytes = some 2 ∧ bufs = [(a, b)] ∧ b < n) := by
  refine ⟨?_, ?_, ?_, ?_, ?_, ?_⟩ <;> (try unfold Canonical) <;> (try dsimp only) <;> decide +kernel

theorem witness_FramesCross_a :
    let s : State := macs (upS 2 1); let lane : Fin 4 := 2; let fcs : Bool := true; let bytes : List Byte := eth 5 6; let n := bytes.length + 4; let sized : Prop := 64 ≤ n ∧ n ≤ 1522; let dst := beAt bytes 0 6; Canonical s ∧ mapWf (fun _ => []) s.net.queues = true ∧ mapWf (fun _ => 0) s.net.txEnd = true ∧ mapWf (fun _ => 0) s.net.txCls = true ∧ mapWf (fun _ => none) s.net.sent = true ∧ mapWf (fun _ => []) s.net.rings = true ∧ mapWf (fun _ => 0) s.host.netRam = true ∧ s.laneUp lane = true ∧ fcs = true ∧ sized ∧ lane.val = 2 ∧ dst ≠ s.mac 2 ∧ dst / 2 ^ 40 % 2 = 0 := by
  refine ⟨?_, ?_, ?_, ?_, ?_, ?_, ?_, ?_, ?_, ?_, ?_, ?_, ?_⟩ <;> (try unfold Canonical) <;> (try dsimp only)
  all_goals
    first
    | exact ⟨macs_wf (by decide +kernel), by decide +kernel⟩
    | exact (macs_laneUp (by decide +kernel) _ (by decide)).trans (by decide +kernel)
    | exact (macs_ob (by decide +kernel) _).trans (by decide +kernel)
    | exact Or.inl (Eq.trans (by decide +kernel) (macs_mac0 (by decide +kernel)).symm)
    | exact fun e => absurd ((congrArg (· % 2 ^ 32) e).trans (macs_mac2 (by decide +kernel))) (by decide +kernel)
    | decide +kernel

theorem witness_FramesCross_b :
    let s : State := macs (upS 1 2); let lane : Fin 4 := 1; let fcs : Bool := true; let bytes : List Byte := eth 5 0x020000000001; let n := bytes.length + 4; let sized : Prop := 64 ≤ n ∧ n ≤ 1522; let src := beAt bytes 6 6; Canonical s ∧ mapWf (fun _ => []) s.net.queues = true ∧ mapWf (fun _ => 0) s.net.txEnd = true ∧ mapWf (fun _ => 0) s.net.txCls = true ∧ mapWf (fun _ => none) s.net.sent = true ∧ mapWf (fun _ => []) s.net.rings = true ∧ mapWf (fun _ => 0) s.host.netRam = true ∧ s.laneUp lane = true ∧ fcs = true ∧ sized ∧ lane.val < 2 ∧ s.ob oidBridgeMode = 2 ∧ (src = s.mac 0 ∨ src = s.mac 1) := by
  refine ⟨?_, ?_, ?_, ?_, ?_, ?_, ?_, ?_, ?_, ?_, ?_, ?_, ?_⟩ <;> (try unfold Canonical) <;> (try dsimp only)
  all_goals
    first
    | exact ⟨macs_wf (by decide +kernel), by decide +kernel⟩
    | exact (macs_laneUp (by decide +kernel) _ (by decide)).trans (by decide +kernel)
    | exact (macs_ob (by decide +kernel) _).trans (by decide +kernel)
    | exact Or.inl (Eq.trans (by decide +kernel) (macs_mac0 (by decide +kernel)).symm)
    | exact fun e => absurd ((congrArg (· % 2 ^ 32) e).trans (macs_mac2 (by decide +kernel))) (by decide +kernel)
    | decide +kernel

theorem witness_GatesAndPauses :
    (let s : State := { lnS 0x21 2 with net := { asked := [(11, 65535)] } }; let acc : Access := acc1; let p : Fin 2 := 1; let lane : Fin 4 := 1; let tc : Fin 8 := 3; let pfc : Bool := false; let o := oidGclCtrl p; let ctl := s.ob o; let n := fld ctl 10 2; let a := s.gclAdmin p n; let bad : Prop := n = 0 ∨ 256 < n ∨ a.cycle < 1000 ∨ 10 ^ 9 < a.cycle ∨ a.entries.any (gclIv · < 64) = true; let g := s.gcl p; let cfg := s.ob (oidLaneCfg lane); let asks : Prop := s.laneUp lane = true ∧ bit cfg 5 = true ∧ s.immune tc = false; let b := s.deliveredBytes lane tc; let asked (t : State) := mapGet (fun _ => 0) t.net.asked (8 * lane.val + tc.val); let paused := mapGet (fun _ => 0) s.net.paused (8 * lane.val + tc.val); Canonical s ∧ mapWf (fun _ => {}) s.net.gcl = true ∧ mapWf (fun _ => 0) s.net.paused = true ∧ mapWf (fun _ => 0) s.net.asked = true ∧ mapWf (fun _ => none) s.net.pauseOut = true ∧ s.admits acc o ((ctl &&& 0x7FD) ||| 2) = true ∧ ¬bad ∧ (g.pend = none ∨ s.dtTotal < g.change) ∧ (g.oper.entries = [] ∨ s.dtTotal < g.start + g.oper.endOf g.idx) ∧ (s.laneUp lane = false ∨ bit cfg 4 = false ∨ bit cfg 6 ≠ pfc) ∧ paused ≤ s.time.cyc ∧ asks ∧ b < 65536 ∧ asked s ≠ 0) ∧
    (let s : State := { lnS 0x51 2 with net := { paused := [(9, 5), (11, 6)] } }; let lane : Fin 4 := 1; let tc : Fin 8 := 3; let pfc : Bool := true; let cfg := s.ob (oidLaneCfg lane); let asks : Prop := s.laneUp lane = true ∧ bit cfg 5 = true ∧ s.immune tc = false; let b := s.deliveredBytes lane tc; let asked (t : State) := mapGet (fun _ => 0) t.net.asked (8 * lane.val + tc.val); let paused := mapGet (fun _ => 0) s.net.paused (8 * lane.val + tc.val); Canonical s ∧ mapWf (fun _ => {}) s.net.gcl = true ∧ mapWf (fun _ => 0) s.net.paused = true ∧ mapWf (fun _ => 0) s.net.asked = true ∧ mapWf (fun _ => none) s.net.pauseOut = true ∧ s.laneUp lane = true ∧ bit cfg 4 = true ∧ bit cfg 6 = pfc ∧ s.time.cyc < paused ∧ (¬asks ∨ 65536 ≤ b ∧ b < 196608 ∨ 196608 ≤ b ∧ asked s ≠ 0 ∨ b < 65536 ∧ asked s = 0)) ∧
    (let s : State := { lnS 0x21 2 with net := { queues := [(3, [big])] } }; let lane : Fin 4 := 1; let tc : Fin 8 := 3; let cfg := s.ob (oidLaneCfg lane); let asks : Prop := s.laneUp lane = true ∧ bit cfg 5 = true ∧ s.immune tc = false; let b := s.deliveredBytes lane tc; let asked (t : State) := mapGet (fun _ => 0) t.net.asked (8 * lane.val + tc.val); Canonical s ∧ mapWf (fun _ => {}) s.net.gcl = true ∧ mapWf (fun _ => 0) s.net.paused = true ∧ mapWf (fun _ => 0) s.net.asked = true ∧ mapWf (fun _ => none) s.net.pauseOut = true ∧ asks ∧ 196608 ≤ b ∧ asked s = 0) ∧
    (let s : State := { (gc0 { pend := some ⟨[5], 7777, 5⟩, change := 555, idx := 3 }).put (oidGclCtrl 1) 0x804 with time := {dt := 2^70} }; let p : Fin 2 := 1; let l : GclList := ⟨[5], 7777, 5⟩; let g := s.gcl p; Canonical s ∧ mapWf (fun _ => {}) s.net.gcl = true ∧ mapWf (fun _ => 0) s.net.paused = true ∧ mapWf (fun _ => 0) s.net.asked = true ∧ mapWf (fun _ => none) s.net.pauseOut = true ∧ g.pend = some l ∧ g.change ≤ s.dtTotal) ∧
    (let s : State := (gc0 { oper := ⟨[5], 7777, 5⟩ }).put (oidGclAdminCycle 1) 500; let acc : Access := acc1; let p : Fin 2 := 1; let o := oidGclCtrl p; let ctl := s.ob o; let n := fld ctl 10 2; let a := s.gclAdmin p n; let bad : Prop := n = 0 ∨ 256 < n ∨ a.cycle < 1000 ∨ 10 ^ 9 < a.cycle ∨ a.entries.any (gclIv · < 64) = true; Canonical s ∧ mapWf (fun _ => {}) s.net.gcl = true ∧ mapWf (fun _ => 0) s.net.paused = true ∧ mapWf (fun _ => 0) s.net.asked = true ∧ mapWf (fun _ => none) s.net.pauseOut = true ∧ s.admits acc o ((ctl &&& 0x7FD) ||| 2) = true ∧ bad) ∧
    (let s : State := { gc0 { oper := ⟨[0x6400, 0x6400], 7777, 5⟩, start := 555, idx := 0 } with time := {dt := 2^70} }; let p : Fin 2 := 1; let g := s.gcl p; Canonical s ∧ mapWf (fun _ => {}) s.net.gcl = true ∧ mapWf (fun _ => 0) s.net.paused = true ∧ mapWf (fun _ => 0) s.net.asked = true ∧ mapWf (fun _ => none) s.net.pauseOut = true ∧ g.oper.entries ≠ [] ∧ g.start + g.oper.endOf g.idx ≤ s.dtTotal) := by
  refine ⟨?_, ?_, ?_, ?_, ?_, ?_⟩ <;> (try unfold Canonical) <;> (try dsimp only) <;> decide +kernel

theorem witness_MediaStreams :
    (let s : State := rxS vr 1 {}; let acc : Access := acc1; let n : Fin 128 := 5; let v : Word := vr - 1; let lane : Fin 2 := 0; let p : MediaPkt := { pk with chans := 1 }; let rc := oidNetRxCfg n; let tc := oidNetTxCfg n; let x := s.nrx n; let frozen (o : Nat) : Prop := bit (s.ob o) 0 = true ∧ v ||| 1 ≠ s.ob o; let hz := s.domHz (s.domOf 1 n); let found : Prop := s.laneUp lane = true ∧ s.rxMatches n lane p = true; let size := p.chans * fmtBytes p.fmt; let fits : Prop := p.chans = fld (s.ob rc) 12 6 ∧ p.fmt = fld (s.ob rc) 5 4 ∧ (p.aaf = true → p.rate = hz) ∧ p.payload ≠ [] ∧ p.payload.length % size = 0 ∧ p.payload.length ≤ 192 * size; Canonical s ∧ mapWf (fun _ => ({} : NetRx)) s.net.rx = true ∧ mapWf (fun _ => ({} : NetTx)) s.net.tx = true ∧ mapWf (fun _ => []) s.net.queues = true ∧ mapWfFrom (fun _ => (⟨0, []⟩ : RxSlot)) 0 (s.nrx n).slots = true ∧ s.admits acc rc v = true ∧ fld v 5 4 ≠ 3 ∧ ¬frozen rc ∧ bit v 0 = false ∧ s.admits acc tc v = true ∧ ¬frozen tc ∧ (s.ntx n).full = none ∧ found ∧ ¬fits ∧ (s.rxState n ≠ 4 ∨ x.out = true ∨ s.rxSilent n 250000000 = false)) ∧
    (let s : State := txS (vr + 8) 2 {fill := [[1]], full := some pk}; let acc : Access := acc1; let n : Fin 128 := 5; let v : Word := vr - 1; let lane : Fin 2 := 1; let p : MediaPkt := pk; let tc := oidNetTxCfg n; let frozen (o : Nat) : Prop := bit (s.ob o) 0 = true ∧ v ||| 1 ≠ s.ob o; Canonical s ∧ mapWf (fun _ => ({} : NetRx)) s.net.rx = true ∧ mapWf (fun _ => ({} : NetTx)) s.net.tx = true ∧ mapWf (fun _ => []) s.net.queues = true ∧ mapWfFrom (fun _ => (⟨0, []⟩ : RxSlot)) 0 (s.nrx n).slots = true ∧ s.admits acc tc v = true ∧ fld v 5 4 ≠ 3 ∧ frozen tc ∧ (s.ntx n).full = some p ∧ (s.laneUp lane = false ∨ (∀ m, m < 128 → s.rxMatches m lane p = false))) ∧
    (let s : State := rxS vr 4 { pos := 5 }; let acc : Access := acc1; let n : Fin 128 := 5; let v : Word := vr + 1; let lane : Fin 2 := 0; let p : MediaPkt := { pk with ts := 5000 }; let rc := oidNetRxCfg n; let x := s.nrx n; let frozen (o : Nat) : Prop := bit (s.ob o) 0 = true ∧ v ||| 1 ≠ s.ob o; let hz := s.domHz (s.domOf 1 n); let found : Prop := s.laneUp lane = true ∧ s.rxMatches n lane p = true; let size := p.chans * fmtBytes p.fmt; let fits : Prop := p.chans = fld (s.ob rc) 12 6 ∧ p.fmt = fld (s.ob rc) 5 4 ∧ (p.aaf = true → p.rate = hz) ∧ p.payload ≠ [] ∧ p.payload.length % size = 0 ∧ p.payload.length ≤ 192 * size; let frames := p.payload.length / size; let n0 := s.firstCount n p; Canonical s ∧ mapWf (fun _ => ({} : NetRx)) s.net.rx = true ∧ mapWf (fun _ => ({} : NetTx)) s.net.tx = true ∧ mapWf (fun _ => []) s.net.queues = true ∧ mapWfFrom (fun _ => (⟨0, []⟩ : RxSlot)) 0 (s.nrx n).slots = true ∧ s.admits acc rc v = true ∧ fld v 5 4 ≠ 3 ∧ frozen rc ∧ found ∧ fits ∧ 2 ≤ s.rxState n ∧ x.pos + 1024 < n0 + frames ∧ s.rxState n = 4 ∧ x.out = false ∧ s.rxSilent n 250000000 = true) ∧
    (let s : State := rxS 0 0 {}; let acc : Access := acc1; let n : Fin 128 := 5; let v : Word := 0x30; let rc := oidNetRxCfg n; let tc := oidNetTxCfg n; Canonical s ∧ mapWf (fun _ => ({} : NetRx)) s.net.rx = true ∧ mapWf (fun _ => ({} : NetTx)) s.net.tx = true ∧ mapWf (fun _ => []) s.net.queues = true ∧ mapWfFrom (fun _ => (⟨0, []⟩ : RxSlot)) 0 (s.nrx n).slots = true ∧ s.admits acc rc v = true ∧ fld v 5 4 = 3 ∧ s.admits acc tc v = true) ∧
    (let s : State := rxS 0 0 {}; let acc : Access := acc1; let n : Fin 128 := 5; let v : Word := 1; let rc := oidNetRxCfg n; let tc := oidNetTxCfg n; let rxOthers := ((List.range 128).filter (fun m => m ≠ n.val && bit (s.ob (oidNetRxCfg m)) 0)); let txOthers := ((List.range 128).filter (fun m => m ≠ n.val && bit (s.ob (oidNetTxCfg m)) 0)).map (fun m => s.ob (oidNetTxCfg m)); let rxBad : Prop := s.streamBad v true (rxOthers.map (fun m => s.ob (oidNetRxCfg m))) = true ∨ ∃ m ∈ rxOthers, s.matchOf m (s.ob (oidNetRxCfg m)) = s.matchOf n v; let txBad : Prop := s.streamBad v false txOthers = true ∨ s.txDestBad n v = true ∨ (if bit v 1 then 1476 else 1452) < fld v 12 6 * fmtBytes (fld v 5 4) * (s.ob (oidNetTxFrames n)).toNat; Canonical s ∧ mapWf (fun _ => ({} : NetRx)) s.net.rx = true ∧ mapWf (fun _ => ({} : NetTx)) s.net.tx = true ∧ mapWf (fun _ => []) s.net.queues = true ∧ mapWfFrom (fun _ => (⟨0, []⟩ : RxSlot)) 0 (s.nrx n).slots = true ∧ s.admits acc rc v = true ∧ fld v 5 4 ≠ 3 ∧ bit (s.ob rc) 0 = false ∧ bit v 0 = true ∧ rxBad ∧ s.admits acc tc v = true ∧ bit (s.ob tc) 0 = false ∧ txBad) ∧
    (let s : State := txS 0 0 {}; let acc : Access := acc1; let n : Fin 128 := 5; let v : Word := vr; let rc := oidNetRxCfg n; let tc := oidNetTxCfg n; let rxOthers := ((List.range 128).filter (fun m => m ≠ n.val && bit (s.ob (oidNetRxCfg m)) 0)); let txOthers := ((List.range 128).filter (fun m => m ≠ n.val && bit (s.ob (oidNetTxCfg m)) 0)).map (fun m => s.ob (oidNetTxCfg m)); let rxBad : Prop := s.streamBad v true (rxOthers.map (fun m => s.ob (oidNetRxCfg m))) = true ∨ ∃ m ∈ rxOthers, s.matchOf m (s.ob (oidNetRxCfg m)) = s.matchOf n v; let txBad : Prop := s.streamBad v false txOthers = true ∨ s.txDestBad n v = true ∨ (if bit v 1 then 1476 else 1452) < fld v 12 6 * fmtBytes (fld v 5 4) * (s.ob (oidNetTxFrames n)).toNat; Canonical s ∧ mapWf (fun _ => ({} : NetRx)) s.net.rx = true ∧ mapWf (fun _ => ({} : NetTx)) s.net.tx = true ∧ mapWf (fun _ => []) s.net.queues = true ∧ mapWfFrom (fun _ => (⟨0, []⟩ : RxSlot)) 0 (s.nrx n).slots = true ∧ s.admits acc rc v = true ∧ fld v 5 4 ≠ 3 ∧ bit (s.ob rc) 0 = false ∧ bit v 0 = true ∧ ¬rxBad ∧ s.rxState n = 0 ∧ s.admits acc tc v = true ∧ bit (s.ob tc) 0 = false ∧ ¬txBad) ∧
    (let s : State := rxS vr 1 {}; let n : Fin 128 := 5; let lane : Fin 2 := 0; let p : MediaPkt := pk; let rc := oidNetRxCfg n; let x := s.nrx n; let hz := s.domHz (s.domOf 1 n); let found : Prop := s.laneUp lane = true ∧ s.rxMatches n lane p = true; let size := p.chans * fmtBytes p.fmt; let fits : Prop := p.chans = fld (s.ob rc) 12 6 ∧ p.fmt = fld (s.ob rc) 5 4 ∧ (p.aaf = true → p.rate = hz) ∧ p.payload ≠ [] ∧ p.payload.length % size = 0 ∧ p.payload.length ≤ 192 * size; Canonical s ∧ mapWf (fun _ => ({} : NetRx)) s.net.rx = true ∧ mapWf (fun _ => ({} : NetTx)) s.net.tx = true ∧ mapWf (fun _ => []) s.net.queues = true ∧ mapWfFrom (fun _ => (⟨0, []⟩ : RxSlot)) 0 (s.nrx n).slots = true ∧ found ∧ fits ∧ s.rxState n = 1 ∧ hz ≠ 0 ∧ x.out = false) ∧
    (let s : State := rxS vr 2 { pos := 5 }; let n : Fin 128 := 5; let lane : Fin 2 := 0; let p : MediaPkt := pk; let j : Nat := 1; let rc := oidNetRxCfg n; let x := s.nrx n; let hz := s.domHz (s.domOf 1 n); let found : Prop := s.laneUp lane = true ∧ s.rxMatches n lane p = true; let size := p.chans * fmtBytes p.fmt; let fits : Prop := p.chans = fld (s.ob rc) 12 6 ∧ p.fmt = fld (s.ob rc) 5 4 ∧ (p.aaf = true → p.rate = hz) ∧ p.payload ≠ [] ∧ p.payload.length % size = 0 ∧ p.payload.length ≤ 192 * size; let frames := p.payload.length / size; let n0 := s.firstCount n p; Canonical s ∧ mapWf (fun _ => ({} : NetRx)) s.net.rx = true ∧ mapWf (fun _ => ({} : NetTx)) s.net.tx = true ∧ mapWf (fun _ => []) s.net.queues = true ∧ mapWfFrom (fun _ => (⟨0, []⟩ : RxSlot)) 0 (s.nrx n).slots = true ∧ found ∧ fits ∧ 2 ≤ s.rxState n ∧ n0 + frames ≤ x.pos + 1024 ∧ j < frames ∧ x.pos ≤ n0 + j) := by
  refine ⟨?_, ?_, ?_, ?_, ?_, ?_, ?_, ?_⟩ <;> (try unfold Canonical) <;> (try dsimp only) <;> decide +kernel

theorem witness_Sessions :
    (let s : State := rO; let h : Hdr := hO 0 5; let mode : Byte := 0; let credit : Byte := 4; let req : Byte := 0; let timeout : BitVec 16 := 100; let recent : Bool := false; let n : Fin 64 := 1; let acc : Access := acc1; let v : Word := 0; let wait : Word := 50; let pc := h.src.pc.val; let wide : Prop := 1 < mode.toNat ∨ credit.toNat = 0 ∨ 64 < credit.toNat ∨ 600 < timeout.toNat ∨ 63 < req.toNat ∨ timeout = 0 ∧ (pc = 4 ∨ pc = 5); let unfit : Prop := pc = 6 ∨ mode = 1 ∧ bit (s.ob oidSessExpertMask) pc = false; let held : Prop := pc = 1 ∧ ∃ m, m < 64 ∧ (s.ses m).st ≠ 0 ∧ (s.ses m).pc = 1 ∧ (s.ses m).port = h.src.port; let asks : Prop := s.classOpen h.src.pc = true ∧ h.session = 0 ∧ h.tag.toNat ≤ 63; let same : Prop := ∃ m, m < 64 ∧ (s.ses m).st = 1 ∧ (s.ses m).openTag = h.tag.toNat ∧ (s.ses m).boundTo h.src = true; let q := s.ses n; let out (p : EvRecord → Bool) : List EvRecord := takeRecords (q.evq.filter p); let sends : Prop := q.st = 1 ∧ (q.pc = 4 ∨ q.pc = 5); Canonical s ∧ mapWf psDflt s.ps = true ∧ (∀ e ∈ s.sess, e.1 < 64) ∧ asks ∧ ¬wide ∧ ¬unfit ∧ ¬held ∧ (¬(recent = true ∧ same)) ∧ n.val ≠ 0 ∧ q.st = 0 ∧ (req.toNat = n.val ∨ req = 0 ∧ ∀ m, m < n.val → 0 < m → (s.ses m).st ≠ 0) ∧ s.classOpen h.src.pc = true ∧ s.ownFrame h = false ∧ (q.st ≠ 1 ∨ q.timeout = 0) ∧ (q.st ≠ 2 ∨ q.executing ≠ 0) ∧ s.admits acc oidFcpPcEnable v = true ∧ (¬sends ∨ out (fun r => !r.sent) = []) ∧ (¬sends ∨ out (fun r => r.sent) = []) ∧ 50 ≤ wait.toNat ∧ (s.host.satAt = none ∨ s.pd3 = false)) ∧
    (let s : State := (rn (({} : State).setSes 3 { ses1 with pc := 4, evq := [ev 1 false, ev 2 true] })).put oidFcpPcEnable 0x15; let n : Fin 64 := 3; let q := s.ses n; let out (p : EvRecord → Bool) : List EvRecord := takeRecords (q.evq.filter p); let sends : Prop := q.st = 1 ∧ (q.pc = 4 ∨ q.pc = 5); Canonical s ∧ mapWf psDflt s.ps = true ∧ (∀ e ∈ s.sess, e.1 < 64) ∧ q.st = 1 ∧ q.timeout ≠ 0 ∧ sends ∧ out (fun r => !r.sent) ≠ [] ∧ out (fun r => r.sent) ≠ []) ∧
    (let s : State := rS; let h : Hdr := hO 0 0; let recent : Bool := true; let asks : Prop := s.classOpen h.src.pc = true ∧ h.session = 0 ∧ h.tag.toNat ≤ 63; let same : Prop := ∃ m, m < 64 ∧ (s.ses m).st = 1 ∧ (s.ses m).openTag = h.tag.toNat ∧ (s.ses m).boundTo h.src = true; Canonical s ∧ mapWf psDflt s.ps = true ∧ (∀ e ∈ s.sess, e.1 < 64) ∧ asks ∧ recent = true ∧ same) ∧
    (let s : State := { sesW { ses1 with st := 2, closeTag := some 5 } with moult := { commits := [{ com0 with mode := 1, session := 3 }] }, ps := [(0xC0000, { target := 5, staged := true, owner := 3 })] }; let n : Fin 64 := 3; let q := s.ses n; Canonical s ∧ mapWf psDflt s.ps = true ∧ (∀ e ∈ s.sess, e.1 < 64) ∧ q.st = 2 ∧ q.executing = 0) ∧
    (let s : State := rO; let h : Hdr := ⟨⟨6,2,0,0⟩, 0, 5, none, none⟩; Canonical s ∧ mapWf psDflt s.ps = true ∧ (∀ e ∈ s.sess, e.1 < 64) ∧ s.classOpen h.src.pc = false) ∧
    (let s : State := rO; let h : Hdr := hO 0 5; let mode : Byte := 2; let credit : Byte := 4; let req : Byte := 7; let timeout : BitVec 16 := 100; let recent : Bool := false; let pc := h.src.pc.val; let wide : Prop := 1 < mode.toNat ∨ credit.toNat = 0 ∨ 64 < credit.toNat ∨ 600 < timeout.toNat ∨ 63 < req.toNat ∨ timeout = 0 ∧ (pc = 4 ∨ pc = 5); let asks : Prop := s.classOpen h.src.pc = true ∧ h.session = 0 ∧ h.tag.toNat ≤ 63; let same : Prop := ∃ m, m < 64 ∧ (s.ses m).st = 1 ∧ (s.ses m).openTag = h.tag.toNat ∧ (s.ses m).boundTo h.src = true; Canonical s ∧ mapWf psDflt s.ps = true ∧ (∀ e ∈ s.sess, e.1 < 64) ∧ asks ∧ (¬(recent = true ∧ same)) ∧ wide) ∧
    (let s : State := rO.put oidSessExpertMask 0; let h : Hdr := hO 0 5; let mode : Byte := 1; let credit : Byte := 4; let req : Byte := 7; let timeout : BitVec 16 := 100; let recent : Bool := false; let pc := h.src.pc.val; let wide : Prop := 1 < mode.toNat ∨ credit.toNat = 0 ∨ 64 < credit.toNat ∨ 600 < timeout.toNat ∨ 63 < req.toNat ∨ timeout = 0 ∧ (pc = 4 ∨ pc = 5); let unfit : Prop := pc = 6 ∨ mode = 1 ∧ bit (s.ob oidSessExpertMask) pc = false; let asks : Prop := s.classOpen h.src.pc = true ∧ h.session = 0 ∧ h.tag.toNat ≤ 63; let same : Prop := ∃ m, m < 64 ∧ (s.ses m).st = 1 ∧ (s.ses m).openTag = h.tag.toNat ∧ (s.ses m).boundTo h.src = true; Canonical s ∧ mapWf psDflt s.ps = true ∧ (∀ e ∈ s.sess, e.1 < 64) ∧ asks ∧ (¬(recent = true ∧ same)) ∧ ¬wide ∧ unfit) ∧
    (let s : State := rS; let h : Hdr := hO 3 9; let n : Fin 64 := 3; Canonical s ∧ mapWf psDflt s.ps = true ∧ (∀ e ∈ s.sess, e.1 < 64) ∧ s.ownFrame h = true ∧ h.session.toNat = n.val ∧ h.tag.toNat ≤ 63) ∧
    (let s : State := { rO with host := { satAt := some 5 } }; let n : Fin 64 := 1; let frame (l : List EvRecord) : List Byte := ({ opcode := 0x40, session := n, instar := s.ob oidInstar, body := (l.map EvRecord.bytes).flatten } : Completion).frame; let l := (5:Nat); Canonical s ∧ mapWf psDflt s.ps = true ∧ (∀ e ∈ s.sess, e.1 < 64) ∧ s.host.satAt = some l ∧ s.pd3 = true ∧ s.time.cyc < l + 250000000) ∧
    (let s : State := rS; let h : Hdr := hO 0 5; let mode : Byte := 0; let credit : Byte := 4; let req : Byte := 7; let timeout : BitVec 16 := 100; let recent : Bool := true; let n : Fin 64 := 7; let pc := h.src.pc.val; let wide : Prop := 1 < mode.toNat ∨ credit.toNat = 0 ∨ 64 < credit.toNat ∨ 600 < timeout.toNat ∨ 63 < req.toNat ∨ timeout = 0 ∧ (pc = 4 ∨ pc = 5); let unfit : Prop := pc = 6 ∨ mode = 1 ∧ bit (s.ob oidSessExpertMask) pc = false; let held : Prop := pc = 1 ∧ ∃ m, m < 64 ∧ (s.ses m).st ≠ 0 ∧ (s.ses m).pc = 1 ∧ (s.ses m).port = h.src.port; let asks : Prop := s.classOpen h.src.pc = true ∧ h.session = 0 ∧ h.tag.toNat ≤ 63; let same : Prop := ∃ m, m < 64 ∧ (s.ses m).st = 1 ∧ (s.ses m).openTag = h.tag.toNat ∧ (s.ses m).boundTo h.src = true; let q := s.ses n; Canonical s ∧ mapWf psDflt s.ps = true ∧ (∀ e ∈ s.sess, e.1 < 64) ∧ asks ∧ (¬(recent = true ∧ same)) ∧ ¬wide ∧ ¬unfit ∧ (held ∨ (req.toNat = n.val ∧ n.val ≠ 0 ∧ q.st ≠ 0) ∨ (req = 0 ∧ ∀ m, m < 64 → 0 < m → (s.ses m).st ≠ 0))) := by
  refine ⟨?_, ?_, ?_, ?_, ?_, ?_, ?_, ?_, ?_, ?_⟩ <;> (try unfold Canonical) <;> (try dsimp only) <;> decide +kernel

theorem witness_ObjectCommands :
    (let s : State := rS; let h : Hdr := hO 3 9; let view : Byte := 3; let oids : List Nat := [0xC0000, 0xFFFFF]; let es : List (Nat × Word) := []; let oid : Nat := 0xFFFFF; let count : BitVec 16 := 3; let ws : List Word := [1,2]; let st : Nat := 5; let cls : Bool := false; let n := h.session.toNat; let u := s.acked h; let a := u.sesAccess n; let read : Prop := view.toNat ≤ 2 ∧ oids ≠ [] ∧ oids.length ≤ 128; let entries : Prop := es ≠ [] ∧ es.length ≤ 128; Canonical s ∧ s.fcpRuns h = true ∧ ¬read ∧ ¬entries ∧ u.blockRefused a oid count.toNat false = some (st, cls) ∧ u.blockRefused a oid ws.length true = some (st, cls) ∧ anyClass oid = none) ∧
    (let s : State := rS; let h : Hdr := hO 3 9; let oid : Nat := oidTwinState; let idx : BitVec 16 := 0xFFFF; let d : ObjClass := twc; Canonical s ∧ s.fcpRuns h = true ∧ anyClass oid = some d ∧ idx = 0xFFFF) ∧
    (let s : State := rS; let h : Hdr := hO 3 9; let es : List (Nat × Word) := [(oidIntCfg 1, 1), (oidGrainNumber, 1)]; let r : Refused := { status := 1, oid := oidGrainNumber, index := 1, cls := true }; let n := h.session.toNat; let u := s.acked h; let a := u.sesAccess n; let entries : Prop := es ≠ [] ∧ es.length ≤ 128; Canonical s ∧ s.fcpRuns h = true ∧ entries ∧ u.writeAll a es 0 [] = .error r ∧ r.oid ≠ oidBulkCtrl) ∧
    (let s : State := rS; let h : Hdr := hO 3 9; let oid : Nat := oidTwinState; let idx : BitVec 16 := 99; let d : ObjClass := twc; Canonical s ∧ s.fcpRuns h = true ∧ anyClass oid = some d ∧ idx ≠ 0xFFFF ∧ d.enums.length ≤ idx.toNat) ∧
    (let s : State := sEx; let h : Hdr := hO 3 9; let oid : Nat := (setRange k0).1; let k : Nat := k0; let ws : List Word := [1,2,3,4,5,6]; let n := h.session.toNat; let u := s.acked h; let a := u.sesAccess n; let extra : Prop := k < 8192 ∧ ∃ j, j < ws.length ∧ 5 ≤ (oid + j) % 8 ∧ nth 0 ws j ≠ 0; Canonical s ∧ s.fcpRuns h = true ∧ u.blockRefused a oid ws.length true = none ∧ setOf oid = some k ∧ extra) ∧
    (let s : State := rS; let h : Hdr := hO 3 9; let view : Byte := 0; let oids : List Nat := [0xC0000, 0xFFFFF]; let oid : Nat := 0xFFFFF; let i : Nat := 1; let st : Nat := 5; let cls : Bool := false; let n := h.session.toNat; let u := s.acked h; let a := u.sesAccess n; let read : Prop := view.toNat ≤ 2 ∧ oids ≠ [] ∧ oids.length ≤ 128; Canonical s ∧ s.fcpRuns h = true ∧ read ∧ firstBad (fun o => readRefused a o) oids 0 = some (i, oid, st, cls)) ∧
    (let s : State := (rS.put oidTwinState 5); let h : Hdr := hO 3 9; let oid : Nat := ob1; let k : Nat := kb; let ws : List Word := [1,2,3]; let n := h.session.toNat; let u := s.acked h; let a := u.sesAccess n; let extra : Prop := k < 8192 ∧ ∃ j, j < ws.length ∧ 5 ≤ (oid + j) % 8 ∧ nth 0 ws j ≠ 0; Canonical s ∧ s.fcpRuns h = true ∧ u.blockRefused a oid ws.length true = none ∧ setOf oid = some k ∧ ¬extra ∧ u.isStandby = true) ∧
    (let s : State := (rS.setBset kb {st := 2}); let h : Hdr := hO 3 9; let oid : Nat := ob1; let k : Nat := kb; let ws : List Word := [1,2,3]; let n := h.session.toNat; let u := s.acked h; let a := u.sesAccess n; let extra : Prop := k < 8192 ∧ ∃ j, j < ws.length ∧ 5 ≤ (oid + j) % 8 ∧ nth 0 ws j ≠ 0; Canonical s ∧ s.fcpRuns h = true ∧ u.blockRefused a oid ws.length true = none ∧ setOf oid = some k ∧ ¬extra ∧ u.isStandby = false ∧ 2 ≤ (u.bset k).st) := by
  refine ⟨?_, ?_, ?_, ?_, ?_, ?_, ?_, ?_⟩ <;> (try unfold Canonical) <;> (try dsimp only) <;> decide +kernel

theorem witness_ObjectCommands_a :
    let s : State := sBk; let h : Hdr := hO 3 9; let view : Byte := 0; let es : List (Nat × Word) := wBulkB; let w : State := okSW (sBk.acked (hO 3 9)) wBulkB; let oid : Nat := ob1; let k : Nat := kb; let count : BitVec 16 := 3; let ws : List Word := [1,2]; let ks : List Nat := [kb]; let n := h.session.toNat; let u := s.acked h; let a := u.sesAccess n; let entries : Prop := es ≠ [] ∧ es.length ≤ 128; let extra : Prop := k < 8192 ∧ ∃ j, j < ws.length ∧ 5 ≤ (oid + j) % 8 ∧ nth 0 ws j ≠ 0; Canonical s ∧ s.fcpRuns h = true ∧ entries ∧ u.writeAll a es 0 [] = .ok (w, ks) ∧ ks ≠ [] ∧ u.blockRefused a oid count.toNat false = none ∧ view.toNat ≤ 2 ∧ u.blockRefused a oid ws.length true = none ∧ setOf oid = some k ∧ ¬extra ∧ u.isStandby = false ∧ (u.bset k).st < 2 := by
  refine ⟨?_, ?_, ?_, ?_, ?_, ?_, ?_, ?_, ?_, ?_, ?_, ?_⟩ <;> (try unfold Canonical) <;> (try dsimp only)
  all_goals
    first
    | decide +kernel
    | rfl

theorem witness_ObjectCommands_b :
    let s : State := rS; let h : Hdr := hO 3 9; let view : Byte := 0; let oids : List Nat := [0xC0000, 0xF0009]; let es : List (Nat × Word) := [(oidIntCfg 1, 1), (oidIntCfg 2, 1)]; let w : State := okSW (rS.acked (hO 3 9)) [(oidIntCfg 1, 1), (oidIntCfg 2, 1)]; let n := h.session.toNat; let u := s.acked h; let a := u.sesAccess n; let read : Prop := view.toNat ≤ 2 ∧ oids ≠ [] ∧ oids.length ≤ 128; let entries : Prop := es ≠ [] ∧ es.length ≤ 128; Canonical s ∧ s.fcpRuns h = true ∧ read ∧ firstBad (fun o => readRefused a o) oids 0 = none ∧ entries ∧ u.writeAll a es 0 [] = .ok (w, []) := by
  refine ⟨?_, ?_, ?_, ?_, ?_, ?_⟩ <;> (try unfold Canonical) <;> (try dsimp only)
  all_goals
    first
    | decide +kernel
    | rfl

theorem witness_RegisterWrites :
    (let s : State := {}; let acc : Access := acc1; let oid : Nat := oidTwinState; let st : Nat := 1; let v : Word := 0; let k : Fin 4 := 1; Canonical s ∧ checkWrite acc oid = .error (st, true) ∧ s.admits acc (oidIntCfg k) v = true ∧ s.admits acc oidMoultSticky v = true ∧ s.admits acc (oidMoultCnt 0) v = true ∧ v = 0) ∧
    (let s : State := {}; let acc : Access := acc1; let oid : Nat := 0xF1800; let v : Word := 0x3F800001; let d : ObjClass := clsW acc1 0xF1800; Canonical s ∧ checkWrite acc oid = .ok d ∧ s.setDenied acc oid v = true ∧ s.admits acc (oidMoultCnt 0) v = true ∧ v ≠ 0) ∧
    (let s : State := {}; let acc : Access := acc1; let oid : Nat := 0xFFFFF; let st : Nat := 5; Canonical s ∧ checkWrite acc oid = .error (st, false)) ∧
    (let s : State := {}; let acc : Access := acc1; let oid : Nat := oidBridgeMode; let v : Word := 7; let d : ObjClass := clsW acc1 oidBridgeMode; Canonical s ∧ checkWrite acc oid = .ok d ∧ s.setDenied acc oid v = false ∧ encBad d v = true) ∧
    (let s : State := stby; let acc : Access := acc1; let oid : Nat := oidPatchStatus 3; let v : Word := 8; let d : ObjClass := clsW acc1 (oidPatchStatus 3); let standby : Prop := s.isStandby = true ∧ acc.pc.val < 6 ∧ pcIn d.wr 6 = true; Canonical s ∧ checkWrite acc oid = .ok d ∧ s.setDenied acc oid v = false ∧ encBad d v = false ∧ standby) ∧
    (let s : State := {}; let acc : Access := acc1; let oid : Nat := oidBridgeMode; let st : Nat := 2; let v : Word := 2; let d : ObjClass := clsW acc1 oidBridgeMode; Canonical s ∧ checkWrite acc oid = .ok d ∧ s.admits acc oid v = true ∧ wrObj acc oid v d s = .error st) := by
  refine ⟨?_, ?_, ?_, ?_, ?_, ?_⟩ <;> (try unfold Canonical) <;> (try dsimp only) <;> decide +kernel

theorem witness_RegisterWrites_a :
    let s : State := {}; let u : State := okO {} acc1 (oidIntCfg 1) 1; let acc : Access := acc1; let oid : Nat := oidIntCfg 1; let v : Word := 1; let d : ObjClass := clsW acc1 (oidIntCfg 1); Canonical s ∧ checkWrite acc oid = .ok d ∧ s.admits acc oid v = true ∧ wrObj acc oid v d s = .ok u ∧ mapWf oidDflt u.obj = true := by
  refine ⟨?_, ?_, ?_, ?_, ?_⟩ <;> (try unfold Canonical) <;> (try dsimp only)
  all_goals
    first
    | decide +kernel
    | rfl

theorem witness_AdmissionAndCompletion :
    (let s : State := sesW { ses1 with tags := [(9, 2), (10, 3)], cq := [(0, cm)], tail := 2 }; let h : Hdr := hO 3 9; let c : Instr := .syncSummary (hO 3 9); let view : Byte := 0; let op : Byte := 0; let lane : Byte := 0; let oids : List Nat := []; let es : List (Nat × Word) := []; let oid : Nat := 0; let count : BitVec 16 := 0; let ws : List Word := []; let mask : Word := 0; let data : List Byte := []; let n : Fin 64 := 3; let v : Nat := 1; let u := s.acked h; let k := h.session.toNat; let q := u.ses k; let use := q.tagUse h.tag.toNat; let p := s.ses n; let hd := (1:Nat); let t := (1:Nat); Canonical s ∧ c ∈ [.keepalive h, .read h view oids, .write h es, .readBlock h oid count view, .writeBlock h oid ws, .describe h oid count, .subscribe h mask op, .syncSummary h, .frameTx h lane true count data] ∧ mapWf (fun _ => ({} : Completion)) p.cq = true ∧ mapWf (fun _ => 0) p.tags = true ∧ s.ownFrame h = true ∧ h.tag.toNat ≤ 63 ∧ 2 ≤ use ∧ hd = p.head + (v + 128 - p.head % 128) % 128 ∧ hd ≤ p.tail ∧ (p.tagUse t < 2 ∨ hd + 2 ≤ p.tagUse t)) ∧
    (let s : State := rS.put oidFcpPcEnable 0; let h : Hdr := ⟨src2, 3, 9, none, none⟩; let c : Instr := .keepalive ⟨src2, 3, 9, none, none⟩; let view : Byte := 0; let op : Byte := 0; let lane : Byte := 0; let oids : List Nat := []; let es : List (Nat × Word) := []; let oid : Nat := 0; let count : BitVec 16 := 0; let ws : List Word := []; let mask : Word := 0; let data : List Byte := []; let n : Fin 64 := 3; let p := s.ses n; Canonical s ∧ c ∈ [.keepalive h, .read h view oids, .write h es, .readBlock h oid count view, .writeBlock h oid ws, .describe h oid count, .subscribe h mask op, .syncSummary h, .frameTx h lane true count data] ∧ mapWf (fun _ => ({} : Completion)) p.cq = true ∧ mapWf (fun _ => 0) p.tags = true ∧ s.classOpen h.src.pc = false) ∧
    (let s : State := rS; let h : Hdr := hO 3 99; let c : Instr := .keepalive (hO 3 99); let view : Byte := 0; let op : Byte := 0; let lane : Byte := 0; let oids : List Nat := []; let es : List (Nat × Word) := []; let oid : Nat := 0; let count : BitVec 16 := 0; let ws : List Word := []; let mask : Word := 0; let data : List Byte := []; let n : Fin 64 := 3; let p := s.ses n; Canonical s ∧ c ∈ [.keepalive h, .read h view oids, .write h es, .readBlock h oid count view, .writeBlock h oid ws, .describe h oid count, .subscribe h mask op, .syncSummary h, .frameTx h lane true count data] ∧ mapWf (fun _ => ({} : Completion)) p.cq = true ∧ mapWf (fun _ => 0) p.tags = true ∧ s.ownFrame h = true ∧ 63 < h.tag.toNat) ∧
    (let s : State := sesW { ses1 with tags := [(9, 1)] }; let h : Hdr := hO 3 9; let c : Instr := .syncSummary (hO 3 9); let view : Byte := 0; let op : Byte := 0; let lane : Byte := 0; let oids : List Nat := []; let es : List (Nat × Word) := []; let oid : Nat := 0; let count : BitVec 16 := 0; let ws : List Word := []; let mask : Word := 0; let data : List Byte := []; let n : Fin 64 := 3; let u := s.acked h; let k := h.session.toNat; let q := u.ses k; let use := q.tagUse h.tag.toNat; let p := s.ses n; Canonical s ∧ c ∈ [.keepalive h, .read h view oids, .write h es, .readBlock h oid count view, .writeBlock h oid ws, .describe h oid count, .subscribe h mask op, .syncSummary h, .frameTx h lane true count data] ∧ mapWf (fun _ => ({} : Completion)) p.cq = true ∧ mapWf (fun _ => 0) p.tags = true ∧ s.ownFrame h = true ∧ h.tag.toNat ≤ 63 ∧ use = 1) ∧
    (let s : State := rS; let h : Hdr := ⟨src2, 3, 9, none, none⟩; let c : Instr := .keepalive ⟨src2, 3, 9, none, none⟩; let view : Byte := 0; let op : Byte := 0; let lane : Byte := 0; let oids : List Nat := []; let es : List (Nat × Word) := []; let oid : Nat := 0; let count : BitVec 16 := 0; let ws : List Word := []; let mask : Word := 0; let data : List Byte := []; let n : Fin 64 := 3; let p := s.ses n; Canonical s ∧ c ∈ [.keepalive h, .read h view oids, .write h es, .readBlock h oid count view, .writeBlock h oid ws, .describe h oid count, .subscribe h mask op, .syncSummary h, .frameTx h lane true count data] ∧ mapWf (fun _ => ({} : Completion)) p.cq = true ∧ mapWf (fun _ => 0) p.tags = true ∧ s.classOpen h.src.pc = true ∧ s.ownFrame h = false) ∧
    (let s : State := sesW { ses1 with tags := [(9, 2), (10, 3)], cq := [(0, cm)], tail := 2 }; let h : Hdr := hO 3 9; let c : Instr := .syncSummary (hO 3 9); let view : Byte := 0; let op : Byte := 0; let lane : Byte := 0; let oids : List Nat := []; let es : List (Nat × Word) := []; let oid : Nat := 0; let count : BitVec 16 := 0; let ws : List Word := []; let mask : Word := 0; let data : List Byte := []; let n : Fin 64 := 3; let v : Nat := 3; let p := s.ses n; let hd := (3:Nat); Canonical s ∧ c ∈ [.keepalive h, .read h view oids, .write h es, .readBlock h oid count view, .writeBlock h oid ws, .describe h oid count, .subscribe h mask op, .syncSummary h, .frameTx h lane true count data] ∧ mapWf (fun _ => ({} : Completion)) p.cq = true ∧ mapWf (fun _ => 0) p.tags = true ∧ hd = p.head + (v + 128 - p.head % 128) % 128 ∧ p.tail < hd) ∧
    (let s : State := sesW { ses1 with credit := 1, tags := [(8, 1)], waiting := [⟨8, 0x30, []⟩] }; let h : Hdr := hO 3 9; let c : Instr := .syncSummary (hO 3 9); let view : Byte := 0; let op : Byte := 0; let lane : Byte := 0; let oids : List Nat := []; let es : List (Nat × Word) := []; let oid : Nat := 0; let count : BitVec 16 := 0; let ws : List Word := []; let mask : Word := 0; let data : List Byte := []; let n : Fin 64 := 3; let u := s.acked h; let k := h.session.toNat; let q := u.ses k; let use := q.tagUse h.tag.toNat; let p := s.ses n; Canonical s ∧ c ∈ [.keepalive h, .read h view oids, .write h es, .readBlock h oid count view, .writeBlock h oid ws, .describe h oid count, .subscribe h mask op, .syncSummary h, .frameTx h lane true count data] ∧ mapWf (fun _ => ({} : Completion)) p.cq = true ∧ mapWf (fun _ => 0) p.tags = true ∧ s.ownFrame h = true ∧ h.tag.toNat ≤ 63 ∧ use = 0 ∧ (q.credit ≤ q.executing ∨ 256 ≤ u.poolUsed)) ∧
    (let s : State := sesW { ses1 with tags := [(9, 2), (10, 3)], cq := [(0, cm)], tail := 2 }; let h : Hdr := hO 3 9; let c : Instr := .syncSummary (hO 3 9); let view : Byte := 0; let op : Byte := 0; let lane : Byte := 0; let oids : List Nat := []; let es : List (Nat × Word) := []; let oid : Nat := 0; let count : BitVec 16 := 0; let ws : List Word := []; let mask : Word := 0; let data : List Byte := []; let n : Fin 64 := 3; let v : Nat := 1; let p := s.ses n; let hd := (1:Nat); let t := (9 : Nat); Canonical s ∧ c ∈ [.keepalive h, .read h view oids, .write h es, .readBlock h oid count view, .writeBlock h oid ws, .describe h oid count, .subscribe h mask op, .syncSummary h, .frameTx h lane true count data] ∧ mapWf (fun _ => ({} : Completion)) p.cq = true ∧ mapWf (fun _ => 0) p.tags = true ∧ hd = p.head + (v + 128 - p.head % 128) % 128 ∧ hd ≤ p.tail ∧ 2 ≤ p.tagUse t ∧ p.tagUse t < hd + 2) := by
  refine ⟨?_, ?_, ?_, ?_, ?_, ?_, ?_, ?_⟩ <;> (try unfold Canonical) <;> (try dsimp only) <;> decide +kernel

theorem witness_AdmissionAndCompletion_a :
    let s : State := rS; let h : Hdr := hO 3 9; let c : Instr := .keepalive (hO 3 9); let view : Byte := 0; let op : Byte := 0; let lane : Byte := 0; let oids : List Nat := []; let es : List (Nat × Word) := []; let oid : Nat := 0; let count : BitVec 16 := 0; let ws : List Word := []; let mask : Word := 0; let data : List Byte := []; let e : Completion := cm; let n : Fin 64 := 3; let m : Fin 64 := 4; let p := s.ses n; let t := (rS.complete (3 : Fin 64) cm : State); Canonical s ∧ c ∈ [.keepalive h, .read h view oids, .write h es, .readBlock h oid count view, .writeBlock h oid ws, .describe h oid count, .subscribe h mask op, .syncSummary h, .frameTx h lane true count data] ∧ mapWf (fun _ => ({} : Completion)) p.cq = true ∧ mapWf (fun _ => 0) p.tags = true ∧ p.st = 1 ∧ t = s.complete n e ∧ m ≠ n := by
  refine ⟨?_, ?_, ?_, ?_, ?_, ?_, ?_⟩ <;> (try unfold Canonical) <;> (try dsimp only)
  all_goals
    first
    | decide +kernel
    | rfl

theorem witness_SubscribeSummaryFrame :
    (let s : State := rS; let h : Hdr := hO 3 9; let op : Byte := 1; let lane : Byte := 5; let last : Bool := false; let offset : BitVec 16 := 0; let data : List Byte := [1,2]; let n := h.session.toNat; let u := s.acked h; let q := u.ses n; let o := offset.toNat; let f := q.txFrame.take o ++ data; let gap : Prop := 2 < lane.toNat ∨ q.txFrame.length < o ∨ 1518 < f.length ∨ 1024 < data.length ∨ last = true ∧ f.length < 60; Canonical s ∧ mapWf (fun _ => []) s.net.queues = true ∧ s.fcpRuns h = true ∧ op = 1 ∧ mapWf (fun _ => 0) q.tags = true ∧ gap ∧ (∀ k, k < 64 → ∀ y ∈ (s.ses k).waiting, y.opcode ≠ 0x30)) ∧
    (let s : State := sesW {ses1 with mask := 0x55, waiting := [⟨9, 0x30, []⟩]}; let h : Hdr := hO 3 8; let op : Byte := 2; let lane : Byte := 2; let last : Bool := true; let offset : BitVec 16 := 0; let data : List Byte := (List.replicate 80 1); let x : Waiting := ⟨9, 0x30, []⟩; let m : Fin 64 := 3; let n := h.session.toNat; let u := s.acked h; let q := u.ses n; let o := offset.toNat; let f := q.txFrame.take o ++ data; let gap : Prop := 2 < lane.toNat ∨ q.txFrame.length < o ∨ 1518 < f.length ∨ 1024 < data.length ∨ last = true ∧ f.length < 60; let down : Prop := lane.toNat < 2 ∧ u.laneUp lane.toNat = false; let p := s.ses m; Canonical s ∧ mapWf (fun _ => []) s.net.queues = true ∧ s.fcpRuns h = true ∧ op = 2 ∧ ¬gap ∧ ¬down ∧ last = true ∧ p.st = 1 ∧ p.waiting = [x] ∧ x.opcode = 0x30 ∧ mapWf (fun _ => ({} : Completion)) p.cq = true) ∧
    (let s : State := rS; let h : Hdr := hO 3 9; let op : Byte := 0; let lane : Byte := 0; let last : Bool := false; let offset : BitVec 16 := 0; let data : List Byte := [1,2]; let n := h.session.toNat; let u := s.acked h; let q := u.ses n; let o := offset.toNat; let f := q.txFrame.take o ++ data; let gap : Prop := 2 < lane.toNat ∨ q.txFrame.length < o ∨ 1518 < f.length ∨ 1024 < data.length ∨ last = true ∧ f.length < 60; let down : Prop := lane.toNat < 2 ∧ u.laneUp lane.toNat = false; Canonical s ∧ mapWf (fun _ => []) s.net.queues = true ∧ s.fcpRuns h = true ∧ op = 0 ∧ ¬gap ∧ down) ∧
    (let s : State := (sesW {ses1 with mask := 0x55, txFrame := [7,8]}).put (oidLaneState 1) 2; let h : Hdr := hO 3 8; let op : Byte := 3; let lane : Byte := 1; let last : Bool := false; let offset : BitVec 16 := 2; let data : List Byte := (List.replicate 80 1); let n := h.session.toNat; let u := s.acked h; let q := u.ses n; let o := offset.toNat; let f := q.txFrame.take o ++ data; let gap : Prop := 2 < lane.toNat ∨ q.txFrame.length < o ∨ 1518 < f.length ∨ 1024 < data.length ∨ last = true ∧ f.length < 60; let down : Prop := lane.toNat < 2 ∧ u.laneUp lane.toNat = false; Canonical s ∧ mapWf (fun _ => []) s.net.queues = true ∧ s.fcpRuns h = true ∧ 2 < op.toNat ∧ ¬gap ∧ ¬down ∧ last = false) := by
  refine ⟨?_, ?_, ?_, ?_⟩ <;> (try unfold Canonical) <;> (try dsimp only) <;> decide +kernel

theorem witness_HostLink :
    (let s : State := up (sesW ses1); let c : Fin 8 := 2; let v : Word := 0; let n : Nat := 3; let speed : Fin 4 := 2; let x := s.chan c; let tail := v.toNat % 32; let ahead := (tail + 32 - x.sqHead) % 32; let q := s.ses n; let st := s.ob oidPcieStatus; Canonical s ∧ mapWf (fun _ => ({} : Chan)) s.host.chans = true ∧ mapWf (fun _ => 0) s.host.msi = true ∧ n < 64 ∧ s.barOpen = true ∧ ahead = 0 ∧ s.chanOpen c = some n ∧ q.lost = 0 ∧ v ≠ 1 ∧ bit st 0 = true ∧ speed ≠ 0) ∧
    (let s : State := sesW ses1; let n : Nat := 3; let speed : Fin 4 := 0; let st := s.ob oidPcieStatus; Canonical s ∧ mapWf (fun _ => ({} : Chan)) s.host.chans = true ∧ mapWf (fun _ => 0) s.host.msi = true ∧ n < 64 ∧ s.barOpen = false ∧ bit st 0 = false ∧ speed = 0) ∧
    (let s : State := up (rn {}); let c : Fin 8 := 2; let v : Word := 1; let n : Nat := 3; let x := s.chan c; let tail := v.toNat % 32; let ahead := (tail + 32 - x.sqHead) % 32; let f := s.sqFrame c (x.sqHead % 16); Canonical s ∧ mapWf (fun _ => ({} : Chan)) s.host.chans = true ∧ mapWf (fun _ => 0) s.host.msi = true ∧ n < 64 ∧ s.barOpen = true ∧ ahead = 1 ∧ headerOk f = false ∧ s.chanOpen c = none ∧ v = 1) ∧
    (let s : State := (up (sesW ses1)).put (oidIntPending 1) 7; let c : Fin 8 := 2; let v : Word := 17; let n : Nat := 3; let x := s.chan c; let tail := v.toNat % 32; let ahead := (tail + 32 - x.sqHead) % 32; Canonical s ∧ mapWf (fun _ => ({} : Chan)) s.host.chans = true ∧ mapWf (fun _ => 0) s.host.msi = true ∧ n < 64 ∧ s.barOpen = true ∧ 16 < ahead) ∧
    (let s : State := sqFrame 2 (fr 2 3 5) (up (sesW { ses1 with evq := [evr 1, evr 2, evr 65000] })); let c : Fin 8 := 2; let v : Word := 1; let n : Nat := 3; let x := s.chan c; let tail := v.toNat % 32; let ahead := (tail + 32 - x.sqHead) % 32; let f := s.sqFrame c (x.sqHead % 16); Canonical s ∧ mapWf (fun _ => ({} : Chan)) s.host.chans = true ∧ mapWf (fun _ => 0) s.host.msi = true ∧ n < 64 ∧ s.barOpen = true ∧ ahead = 1 ∧ headerOk f = true ∧ leAt f 3 1 = 2) ∧
    (let s : State := sqFrame 2 (fr 3 3 5) (up (sesW { ses1 with pc := 2 })); let c : Fin 8 := 2; let v : Word := 1; let n : Nat := 3; let x := s.chan c; let tail := v.toNat % 32; let ahead := (tail + 32 - x.sqHead) % 32; let f := s.sqFrame c (x.sqHead % 16); Canonical s ∧ mapWf (fun _ => ({} : Chan)) s.host.chans = true ∧ mapWf (fun _ => 0) s.host.msi = true ∧ n < 64 ∧ s.barOpen = true ∧ ahead = 1 ∧ headerOk f = true ∧ leAt f 3 1 = 3) ∧
    (let s : State := sqFrame 2 (fr 0x30 3 5) (up (sesW ses1)); let c : Fin 8 := 2; let v : Word := 1; let n : Nat := 3; let x := s.chan c; let tail := v.toNat % 32; let ahead := (tail + 32 - x.sqHead) % 32; let f := s.sqFrame c (x.sqHead % 16); Canonical s ∧ mapWf (fun _ => ({} : Chan)) s.host.chans = true ∧ mapWf (fun _ => 0) s.host.msi = true ∧ n < 64 ∧ s.barOpen = true ∧ ahead = 1 ∧ headerOk f = true ∧ leAt f 3 1 = 0x30) := by
  refine ⟨?_, ?_, ?_, ?_, ?_, ?_, ?_⟩ <;> (try unfold Canonical) <;> (try dsimp only) <;> decide +kernel

theorem witness_SpiPorts :
    (let s : State := { sesW { ses1 with pc := 2 } with host := { locks := [(4, 4)] , spi := [(1, { overrun := true, direct := [(5, [7])] })]} }; let port : Fin 3 := 1; let crc : Bool := false; let frame : List Byte := [1,2,3]; let kind : Byte := 2; let session : Byte := 3; let index : Half := 5; let p := port.val; let n := session.toNat; let i := index.toNat; let sealed (l : List Byte) : List Byte := l ++ leBytes 4 (crc32c l).toNat; let sized : Prop := 16 ≤ frame.length ∧ frame.length ≤ 1440; let l := ([7] : List Byte); Canonical s ∧ mapWf (fun _ => ({} : SpiPort)) s.host.spi = true ∧ ¬sized ∧ s.fetchEntry p kind.toNat n i = some l ∧ crc = false) ∧
    (let s : State := sesW { ses1 with pc := 2, tail := 2, cq := [(1, {tag := 4})] }; let port : Fin 3 := 0; let crc : Bool := true; let slot : Bool := true; let frame : List Byte := fr 3 3 5; let kind : Byte := 0; let session : Byte := 3; let index : Half := 1; let p := port.val; let n := session.toNat; let q := s.ses n; let i := index.toNat; let sized : Prop := 16 ≤ frame.length ∧ frame.length ≤ 1440; Canonical s ∧ mapWf (fun _ => ({} : SpiPort)) s.host.spi = true ∧ sized ∧ crc = true ∧ slot = true ∧ headerOk frame = true ∧ leAt frame 3 1 = 3 ∧ kind = 0 ∧ s.spiOwns p n = true ∧ i ≤ 63 ∧ i < q.tail) ∧
    (let s : State := sesW { ses1 with pc := 3 }; let port : Fin 3 := 1; let crc : Bool := true; let slot : Bool := false; let frame : List Byte := fr 0x30 3 5; let kind : Byte := 2; let session : Byte := 3; let p := port.val; let n := session.toNat; let sized : Prop := 16 ≤ frame.length ∧ frame.length ≤ 1440; Canonical s ∧ mapWf (fun _ => ({} : SpiPort)) s.host.spi = true ∧ sized ∧ crc = true ∧ slot = false ∧ (1 < kind.toNat ∨ s.spiOwns p n = false)) ∧
    (let s : State := sesW { ses1 with pc := 2, tail := 2, cq := [(1, {tag := 4})], evq := [evr 1] }; let port : Fin 3 := 0; let crc : Bool := true; let slot : Bool := true; let frame : List Byte := fr 0x30 3 5; let kind : Byte := 1; let session : Byte := 3; let p := port.val; let n := session.toNat; let sized : Prop := 16 ≤ frame.length ∧ frame.length ≤ 1440; Canonical s ∧ mapWf (fun _ => ({} : SpiPort)) s.host.spi = true ∧ sized ∧ crc = true ∧ slot = true ∧ headerOk frame = true ∧ leAt frame 3 1 = 0x30 ∧ s.spiOwns p n = true ∧ kind = 1) ∧
    (let s : State := sesW { ses1 with pc := 3 }; let crc : Bool := false; let frame : List Byte := fr 0x30 3 5; let sized : Prop := 16 ≤ frame.length ∧ frame.length ≤ 1440; Canonical s ∧ mapWf (fun _ => ({} : SpiPort)) s.host.spi = true ∧ sized ∧ crc = false) ∧
    (let s : State := sesW { ses1 with pc := 0 }; let crc : Bool := true; let slot : Bool := true; let frame : List Byte := List.replicate 16 0; let sized : Prop := 16 ≤ frame.length ∧ frame.length ≤ 1440; Canonical s ∧ mapWf (fun _ => ({} : SpiPort)) s.host.spi = true ∧ sized ∧ crc = true ∧ slot = true ∧ headerOk frame = false) ∧
    (let s : State := sesW { ses1 with pc := 0 }; let port : Fin 3 := 2; let kind : Byte := 5; let session : Byte := 3; let p := port.val; let n := session.toNat; Canonical s ∧ mapWf (fun _ => ({} : SpiPort)) s.host.spi = true ∧ (2 < kind.toNat ∨ (kind.toNat < 2 ∧ s.spiOwns p n = false))) ∧
    (let s : State := sesW { ses1 with pc := 2 }; let crc : Bool := true; let slot : Bool := true; let frame : List Byte := fr 2 3 5; let sized : Prop := 16 ≤ frame.length ∧ frame.length ≤ 1440; Canonical s ∧ mapWf (fun _ => ({} : SpiPort)) s.host.spi = true ∧ sized ∧ crc = true ∧ slot = true ∧ headerOk frame = true ∧ leAt frame 3 1 = 2) := by
  refine ⟨?_, ?_, ?_, ?_, ?_, ?_, ?_, ?_⟩ <;> (try unfold Canonical) <;> (try dsimp only) <;> decide +kernel

theorem witness_BusConnections :
    let s : State := rn {}; let r : BusReq := rq 0 0x100 true; let k : Nat := 0; let m := r.master.val; let marked (m : Nat) : List Nat := nth [] [[4, 5], [0, 2, 3, 4, 5, 6, 7], [4, 6], [4, 6], [4, 6], [4, 7], [1, 2, 3], [1, 4], [1, 2, 3, 7], [0, 1, 2, 3, 4, 5, 6, 7]] m; let held := mapGet (fun _ => 0) s.host.locks k; Canonical s ∧ mapWf (fun _ => 0) s.host.locks = true ∧ s.host.wait = [] ∧ r.bar = false ∧ busTarget r.addr = some k ∧ (held = 0 ∨ held = m + 1) ∧ (k ∉ marked m ∨ (m = 9 ∧ s.serviceOn = false)) := by
  (try unfold Canonical) <;> (try dsimp only) <;> decide +kernel

theorem witness_BusMatrix :
    (let s : State := sv nr; let acc : Access := acc1; let r : BusReq := rq 1 0x50000000 false; let master : Fin 10 := 1; let addr : Word := 0x50000000; let crc : Bool := true; let count : Nat := 8; let data : List Byte := [1,2,3,4]; let lockOf (t : State) (k : Nat) := mapGet (fun _ => 0) t.host.locks k; let single (r : BusReq) : Prop := r.bar = false ∧ r.beats = 1 ∧ r.wrap = 0 ∧ r.lock = 0; let inRam (r : BusReq) : Prop := single r ∧ s.busRefused r r.addr = none ∧ busTarget r.addr = some 7 ∧ (lockOf s 7 = 0 ∨ lockOf s 7 = r.master.val + 1); let mapped (n : Nat) : Prop := memOk addr n = true ∧ 0x50000000 ≤ addr.toNat ∧ addr.toNat + n ≤ 0x50400000; let a := addr.toNat; Canonical s ∧ mapWf (fun _ => 0) s.host.netRam = true ∧ mapWf (fun _ => 0) s.host.locks = true ∧ mapWf (fun _ => 0) s.host.granted = true ∧ s.host.wait = [] ∧ inRam r ∧ r.write = false ∧ (∀ k, busTarget a = some k → lockOf s k ≠ master.val + 1) ∧ busTarget a ≠ none ∧ s.admits acc oidBusErrCtrl 1 = true ∧ s.serviceOn = true ∧ crc = true ∧ mapped count ∧ mapped data.length) ∧
    (let s : State := (sv nr); let r : BusReq := rq 5 0x60000000 false; let addr : Word := 0x60000000; let crc : Bool := false; let count : Nat := 8; let ty : Nat := 0; let data : List Byte := [1,2,3,4]; let lockOf (t : State) (k : Nat) := mapGet (fun _ => 0) t.host.locks k; let single (r : BusReq) : Prop := r.bar = false ∧ r.beats = 1 ∧ r.wrap = 0 ∧ r.lock = 0; let inRam (r : BusReq) : Prop := single r ∧ s.busRefused r r.addr = none ∧ busTarget r.addr = some 7 ∧ (lockOf s 7 = 0 ∨ lockOf s 7 = r.master.val + 1); let a := addr.toNat; Canonical s ∧ mapWf (fun _ => 0) s.host.netRam = true ∧ mapWf (fun _ => 0) s.host.locks = true ∧ mapWf (fun _ => 0) s.host.granted = true ∧ s.host.wait = [] ∧ single r ∧ s.busRefused r r.addr = some ty ∧ (∀ k, busTarget r.addr = some k → lockOf s k = 0) ∧ busTarget a = none ∧ (s.serviceOn = false ∨ crc = false ∨ memOk addr count = false) ∧ (s.serviceOn = false ∨ crc = false ∨ memOk addr data.length = false)) ∧
    (let s : State := ((sv nr).put (oidBusPri 5) 0xF0000000).put (oidBusPri 1) 0x10000000; let r : BusReq := rq 5 0x50000000 false; let r' : BusReq := rq 1 0x50000000 false; let addr : Word := 0x60000000; let crc : Bool := true; let count : Nat := 8; let lockOf (t : State) (k : Nat) := mapGet (fun _ => 0) t.host.locks k; let single (r : BusReq) : Prop := r.bar = false ∧ r.beats = 1 ∧ r.wrap = 0 ∧ r.lock = 0; let inRam (r : BusReq) : Prop := single r ∧ s.busRefused r r.addr = none ∧ busTarget r.addr = some 7 ∧ (lockOf s 7 = 0 ∨ lockOf s 7 = r.master.val + 1); let a := addr.toNat; Canonical s ∧ mapWf (fun _ => 0) s.host.netRam = true ∧ mapWf (fun _ => 0) s.host.locks = true ∧ mapWf (fun _ => 0) s.host.granted = true ∧ s.host.wait = [] ∧ lockOf s 7 = 0 ∧ inRam r ∧ inRam r' ∧ r.write = false ∧ r'.write = false ∧ r.master ≠ r'.master ∧ s.busPrio r' 7 < s.busPrio r 7 ∧ s.serviceOn = true ∧ crc = true ∧ memOk addr count = true ∧ busTarget a = none) ∧
    (let s : State := { sv nr with host := { locks := [(7, 2)], wait := [{ rq 1 0x50000004 false with lock := 3 }, rq 5 0x50000004 false ] } }; let master : Fin 10 := 1; let addr : Word := 0x50000000; let lockOf (t : State) (k : Nat) := mapGet (fun _ => 0) t.host.locks k; let a := addr.toNat; let k := (7:Nat); Canonical s ∧ mapWf (fun _ => 0) s.host.netRam = true ∧ mapWf (fun _ => 0) s.host.locks = true ∧ mapWf (fun _ => 0) s.host.granted = true ∧ busTarget a = some k ∧ lockOf s k = master.val + 1) ∧
    (let s : State := nr; let r : BusReq := rq 1 0x50000000 true; let lockOf (t : State) (k : Nat) := mapGet (fun _ => 0) t.host.locks k; let single (r : BusReq) : Prop := r.bar = false ∧ r.beats = 1 ∧ r.wrap = 0 ∧ r.lock = 0; let inRam (r : BusReq) : Prop := single r ∧ s.busRefused r r.addr = none ∧ busTarget r.addr = some 7 ∧ (lockOf s 7 = 0 ∨ lockOf s 7 = r.master.val + 1); Canonical s ∧ mapWf (fun _ => 0) s.host.netRam = true ∧ mapWf (fun _ => 0) s.host.locks = true ∧ mapWf (fun _ => 0) s.host.granted = true ∧ s.host.wait = [] ∧ inRam r ∧ r.write = true ∧ r.data.length = r.beat) := by
  refine ⟨?_, ?_, ?_, ?_, ?_⟩ <;> (try unfold Canonical) <;> (try dsimp only) <;> decide +kernel

theorem witness_TwinRoles :
    (let s : State := (((tw 5 {peer := some (hm2 1 5)}).put oidTwinWtr 0).put (oidRefState 3) 3); let acc : Access := acc1; let m : HelloMsg := hm2 2 0xFFFFFF; let good : Bool := false; let old := s.ob oidTwinCfg; let st := s.tw; let refused : Prop := m.id.toNat = fld old 15 8 ∨ fld m.fw 31 16 ≠ fld (s.ob oidFwVersion) 31 16; Canonical s ∧ mapWf (fun _ => 0) s.twin.txSeq = true ∧ s.admits acc oidTwinCtrl 1 = true ∧ s.mirrors = false ∧ s.admits acc oidTwinCtrl 2 = true ∧ s.admits acc oidTwinCtrl 3 = true ∧ s.admits acc oidTwinCtrl 4 = true ∧ st ≠ 1 ∧ st ≠ 2 ∧ st ≠ 0 ∧ ¬refused ∧ good = false ∧ (st = 3 ∨ st = 4 ∨ st = 5) ∧ s.twin.altWait = false ∧ s.twin.lost = none ∧ (st = 0 ∨ 3 ≤ st ∧ st ≠ 7) ∧ 2 ≤ s.rst 3 ∧ s.twin.take ≠ some (s.gn + 1) ∧ st = 5 ∧ s.readWtrRem = 0 ∧ (st ≠ 4 ∨ (s.gn - s.twin.convFrom).toInt * s.gsize < (s.ob oidTwinConvLimit).toNat * s.fsA)) ∧
    (let s : State := (tw 2 {peer := some (hm2 1 5), take := some 1}).put oidTwinStatus 8; let acc : Access := acc1; let h : Word := 1; let alt : Bool := false; let good : Bool := true; let st := s.tw; let fits : Prop := s.copyBytes ≤ 33554432; Canonical s ∧ mapWf (fun _ => 0) s.twin.txSeq = true ∧ s.admits acc oidTwinCtrl 1 = true ∧ s.mirrors = true ∧ fits ∧ s.admits acc oidTwinCtrl 4 = true ∧ (st = 1 ∨ st = 2) ∧ good = true ∧ s.twin.peer ≠ none ∧ alt = false ∧ st ≠ 3 ∧ st ≠ 4 ∧ st ≠ 5 ∧ st = 2 ∧ s.twin.take = some h ∧ h = s.gn + 1 ∧ (st ≠ 5 ∨ s.readWtrRem ≠ 0)) ∧
    (let s : State := (tw 1 {}).put oidTwinCfg 0x509; let acc : Access := acc1; let v : Word := 0x50D; let m : HelloMsg := hm 3 5; let alt : Bool := false; let good : Bool := true; let old := s.ob oidTwinCfg; let st := s.tw; let refused : Prop := m.id.toNat = fld old 15 8 ∨ fld m.fw 31 16 ≠ fld (s.ob oidFwVersion) 31 16; Canonical s ∧ mapWf (fun _ => 0) s.twin.txSeq = true ∧ s.admits acc oidTwinCfg v = true ∧ fld v 4 2 ≠ 0 ∧ fld v 15 8 ≠ 0 ∧ (st = 0 ∧ bit v 0 = false ∨ st ≠ 0 ∧ bit v 0 = bit old 0 ∧ fld v 15 8 = fld old 15 8) ∧ st ≠ 0 ∧ refused ∧ (st = 0 ∨ good = true ∧ (s.twin.peer = none ∨ alt = true ∧ s.twin.altWait = false)) ∧ st = 1) ∧
    (let s : State := tw 0 {}; let acc : Access := acc1; let v : Word := 0x501; let st := s.tw; Canonical s ∧ mapWf (fun _ => 0) s.twin.txSeq = true ∧ s.admits acc oidTwinCfg v = true ∧ (fld v 4 2 = 0 ∨ fld v 15 8 = 0) ∧ st = 0) ∧
    (let s : State := (tw 6 {peer := some (hm2 1 5), altWait := true}); let alt : Bool := false; let good : Bool := true; let st := s.tw; Canonical s ∧ mapWf (fun _ => 0) s.twin.txSeq = true ∧ good = true ∧ s.twin.peer ≠ none ∧ alt = false ∧ st = 6 ∧ s.twin.altWait = true ∧ s.follows = true ∧ s.twin.lost = none) ∧
    (let s : State := (tw 7 {peer := some (hm2 1 5)}); let st := s.tw; Canonical s ∧ mapWf (fun _ => 0) s.twin.txSeq = true ∧ st = 7) ∧
    (let s : State := (tw 5 {peer := some (hm2 1 5), lost := some 3}); let cause : Nat := 3; Canonical s ∧ mapWf (fun _ => 0) s.twin.txSeq = true ∧ s.twin.lost = some cause) ∧
    (let s : State := (tw 5 {peer := some (hm2 1 5), sigBad := 2}); let b : BeaconMsg := bc 0 5; let alt : Bool := false; let good : Bool := true; let st := s.tw; let compares : Prop := good = true ∧ st ≠ 0 ∧ s.twin.peer ≠ none ∧ alt = false ∧ b.flags.getLsbD 1 = false ∧ b.pos = 0; let sig := s.twin.sigs.find? (fun e => e.1 = b.gn - 2); Canonical s ∧ mapWf (fun _ => 0) s.twin.txSeq = true ∧ compares ∧ st = 5 ∧ s.twin.sigBad = 2 ∧ sig.map Prod.snd ≠ some b.sig) ∧
    (let s : State := (tw 5 {peer := some (hm2 1 5), altWait := true}); let alt : Bool := true; let good : Bool := true; let st := s.tw; Canonical s ∧ mapWf (fun _ => 0) s.twin.txSeq = true ∧ st ≠ 0 ∧ good = true ∧ s.twin.peer ≠ none ∧ alt = true ∧ s.twin.altWait = true ∧ st ≠ 6) ∧
    (let s : State := tw 0 {}; let acc : Access := acc1; let v : Word := 0x509; let st := s.tw; Canonical s ∧ mapWf (fun _ => 0) s.twin.txSeq = true ∧ s.admits acc oidTwinCfg v = true ∧ fld v 4 2 ≠ 0 ∧ fld v 15 8 ≠ 0 ∧ st = 0 ∧ bit v 0 = true) ∧
    (let s : State := ((tw 4 {peer := some (hm2 1 5), sigBad := 2, sigs := [(10, 5)]}).put oidTwinSyncGrains 1).put oidTwinStatus 4; let b : BeaconMsg := bc 0 5; let alt : Bool := false; let good : Bool := true; let st := s.tw; let compares : Prop := good = true ∧ st ≠ 0 ∧ s.twin.peer ≠ none ∧ alt = false ∧ b.flags.getLsbD 1 = false ∧ b.pos = 0; let sig := s.twin.sigs.find? (fun e => e.1 = b.gn - 2); Canonical s ∧ mapWf (fun _ => 0) s.twin.txSeq = true ∧ compares ∧ st = 4 ∧ sig.map Prod.snd = some b.sig ∧ 0 ≤ (b.gn - 2 - s.twin.convFrom).toInt) ∧
    (let s : State := (((tw 4 {peer := some (hm2 1 5)}).put oidTwinConvLimit 0).put (oidRefState 3) 3); let st := s.tw; Canonical s ∧ mapWf (fun _ => 0) s.twin.txSeq = true ∧ st = 4 ∧ (s.ob oidTwinConvLimit).toNat * s.fsA ≤ (s.gn - s.twin.convFrom).toInt * s.gsize) ∧
    (let s : State := (tw 1 {hold := true}).put oidTwinCfg 0x509; let acc : Access := acc1; let v : Word := 0x508; let old := s.ob oidTwinCfg; let st := s.tw; Canonical s ∧ mapWf (fun _ => 0) s.twin.txSeq = true ∧ s.admits acc oidTwinCfg v = true ∧ fld v 4 2 ≠ 0 ∧ fld v 15 8 ≠ 0 ∧ st ≠ 0 ∧ bit v 0 = false ∧ bit old 0 = true) ∧
    (let s : State := (tw 4 {peer := some (hm2 1 5)}); let b : BeaconMsg := bc 2 5; let alt : Bool := false; let good : Bool := true; let st := s.tw; Canonical s ∧ mapWf (fun _ => 0) s.twin.txSeq = true ∧ good = true ∧ s.twin.peer ≠ none ∧ alt = false ∧ (st = 3 ∨ st = 4 ∨ st = 5) ∧ b.flags.getLsbD 1 = true ∧ s.twin.lost = none) := by
  refine ⟨?_, ?_, ?_, ?_, ?_, ?_, ?_, ?_, ?_, ?_, ?_, ?_, ?_, ?_⟩ <;> (try unfold Canonical) <;> (try dsimp only) <;> decide +kernel

theorem witness_TwinCopies :
    (let s : State := cpS 3 8 {sAt := some 1, copy := {ps := [(0xC0080, {target := 6})]}}; let last : Bool := false; let crc : Bool := false; let pending : Bool := true; let ok : Bool := true; let seq : Word := 5; let b0 : Word := 3; let r : PsRecord := psr; let mr : MirrorRec := imr; let st := s.tw; let c := s.twin.copy; let status (t : State) := t.ob oidTwinStatus; let takes : Prop := st = 3 ∨ st = 4 ∨ st = 5; let inOrder : Prop := s.twin.rxSeq = none ∨ s.twin.rxSeq = some (seq - 1); let applies : Prop := s.twin.sAt = some (s.gn + 1) ∧ bit (status s) 3 = true; Canonical s ∧ mapWf psDflt s.ps = true ∧ mapWf psDflt s.twin.copy.ps = true ∧ takes ∧ (¬(last = true ∧ crc = false)) ∧ r.stage = none ∧ (pending = false ∨ ok = false ∨ s.img.act.peerWait = false) ∧ bit (status s) 3 = true ∧ applies ∧ st = 3 ∧ c.engine = none ∧ inOrder ∧ mirrorDue mr = some b0 ∧ (s.gn - b0).toInt < 0 ∧ s.twin.queue = []) ∧
    (let s : State := cpS 4 0 {rxSeq := some 4, sAt := some 1, queue := [.image true 0]}; let part : Bool := true; let seq : Word := 5; let b0 : Word := 0; let st := s.tw; let status (t : State) := t.ob oidTwinStatus; let takes : Prop := st = 3 ∨ st = 4 ∨ st = 5; let inOrder : Prop := s.twin.rxSeq = none ∨ s.twin.rxSeq = some (seq - 1); Canonical s ∧ mapWf psDflt s.ps = true ∧ mapWf psDflt s.twin.copy.ps = true ∧ bit (status s) 3 = false ∧ (s.twin.sAt ≠ some (s.gn + 1) ∨ bit (status s) 3 = false) ∧ takes ∧ inOrder ∧ 0 ≤ (s.gn - b0).toInt ∧ s.twin.queue = [.image part b0] ∧ 0 ≤ (s.gn + 1 - b0).toInt) ∧
    (let s : State := cpS 2 8 {sAt := some 1, peer := some (hm2 1 5)}; let st := s.tw; let status (t : State) := t.ob oidTwinStatus; let takes : Prop := st = 3 ∨ st = 4 ∨ st = 5; let applies : Prop := s.twin.sAt = some (s.gn + 1) ∧ bit (status s) 3 = true; Canonical s ∧ mapWf psDflt s.ps = true ∧ mapWf psDflt s.twin.copy.ps = true ∧ ¬takes ∧ applies ∧ st = 2) ∧
    (let s : State := cpS 3 12 {rxSeq := some 3, copy := {ps := [(0xC0080, {target := 6})], fails := 1}}; let last : Bool := true; let crc : Bool := false; let seq : Word := 5; let st := s.tw; let c := s.twin.copy; let status (t : State) := t.ob oidTwinStatus; let takes : Prop := st = 3 ∨ st = 4 ∨ st = 5; let inOrder : Prop := s.twin.rxSeq = none ∨ s.twin.rxSeq = some (seq - 1); Canonical s ∧ mapWf psDflt s.ps = true ∧ mapWf psDflt s.twin.copy.ps = true ∧ takes ∧ last = true ∧ crc = false ∧ 1 ≤ c.fails ∧ bit (status s) 3 = true ∧ ¬inOrder) ∧
    (let s : State := { cpS 4 0 {rxSeq := some 4, queue := [.image true 3]} with img := { act := {peerWait := true} } }; let pending : Bool := true; let ok : Bool := true; let part : Bool := true; let b0 : Word := 3; Canonical s ∧ mapWf psDflt s.ps = true ∧ mapWf psDflt s.twin.copy.ps = true ∧ pending = true ∧ ok = true ∧ s.img.act.peerWait = true ∧ s.twin.queue = [.image part b0] ∧ (s.gn + 1 - b0).toInt < 0) ∧
    (let s : State := cpS 3 12 {sAt := some 1, copy := {ps := [(0xC0080, {target := 6})]}}; let last : Bool := true; let crc : Bool := false; let st := s.tw; let c := s.twin.copy; let takes : Prop := st = 3 ∨ st = 4 ∨ st = 5; Canonical s ∧ mapWf psDflt s.ps = true ∧ mapWf psDflt s.twin.copy.ps = true ∧ takes ∧ last = true ∧ crc = false ∧ c.fails = 0) := by
  refine ⟨?_, ?_, ?_, ?_, ?_, ?_⟩ <;> (try unfold Canonical) <;> (try dsimp only) <;> decide +kernel

theorem witness_TwinCopies_a :
    let s : State := cpS 3 8 {rxSeq := some 4, sAt := some 1, copy := {engine := some (.engine 77 3 9 true [] [(2,3)] []) } }; let len : Nat := 9; let sAt : Word := 77; let st := s.tw; let c := s.twin.copy; let status (t : State) := t.ob oidTwinStatus; let applies : Prop := s.twin.sAt = some (s.gn + 1) ∧ bit (status s) 3 = true; Canonical s ∧ mapWf psDflt s.ps = true ∧ mapWf psDflt s.twin.copy.ps = true ∧ applies ∧ st = 3 ∧ (∃ i g e p l d q, c.engine = some (.engine i g e p l d q) ∧ (∀ x ∈ d, x.1 < 96) ∧ sAt = i ∧ len = e.toNat) := by
  refine ⟨?_, ?_, ?_, ?_, ?_, ?_⟩ <;> (try unfold Canonical) <;> (try dsimp only)
  all_goals
    first
    | exact ⟨77, 3, 9, true, [], [(2, 3)], [], by decide +kernel, by decide +kernel, by decide +kernel, by decide +kernel⟩
    | decide +kernel

theorem witness_CeilingHolds :
    let s : State := gS 65 { st := 1, ia := iM, ib := iM } okq; let g : Fin 1792 := 65; let c := s.gch g; Canonical s ∧ mapWf (fun _ => ({} : GCh)) s.guard.chs = true ∧ mapWf (fun _ => 0) s.guard.out = true ∧ s.gActive g = true ∧ c.st ≠ 0 ∧ c.ia.m ≤ 2 ^ 30 ∧ c.ib.m ≤ 2 ^ 30 ∧ c.ia.m0 ≤ 2 ^ 30 ∧ c.ib.m0 ≤ 2 ^ 30 := by
  (try unfold Canonical) <;> (try dsimp only) <;> decide +kernel

theorem witness_GuardSamples :
    (let s : State := (gS 65 { st := 1, ia := iM, ib := iM, seq := some 4 } okq); let g : Fin 1792 := 65; let seq : Option Byte := none; let c := s.gch g; Canonical s ∧ mapWf (fun _ => ({} : GCh)) s.guard.chs = true ∧ mapWf (fun _ => 0) s.guard.out = true ∧ s.gActive g = true ∧ c.st ≠ 0 ∧ c.ia = c.ib ∧ c.stale = none ∧ (seq = none ∨ c.seq ≠ none ∧ c.seq ≠ seq)) ∧
    (let s : State := (gS 65 {} okq); let g : Fin 1792 := 65; let c := s.gch g; Canonical s ∧ mapWf (fun _ => ({} : GCh)) s.guard.chs = true ∧ mapWf (fun _ => 0) s.guard.out = true ∧ c.st = 0) ∧
    (let s : State := (gS 65 { st := 1, ia := iM, ib := iM } okq).put (oidPortState 2) 0; let g : Fin 1792 := 65; Canonical s ∧ mapWf (fun _ => ({} : GCh)) s.guard.chs = true ∧ mapWf (fun _ => 0) s.guard.out = true ∧ s.gActive g = false) ∧
    (let s : State := (gS 65 { st := 1, ia := iM, ib := iM, seq := some 4 } okq); let g : Fin 1792 := 65; let seq : Option Byte := some 4; let c := s.gch g; let q := (4:Byte); Canonical s ∧ mapWf (fun _ => ({} : GCh)) s.guard.chs = true ∧ mapWf (fun _ => 0) s.guard.out = true ∧ s.gActive g = true ∧ c.st ≠ 0 ∧ c.stale = none ∧ seq = some q ∧ (c.seq = none ∨ c.seq = some q)) := by
  refine ⟨?_, ?_, ?_, ?_⟩ <;> (try unfold Canonical) <;> (try dsimp only) <;> decide +kernel

theorem witness_GuardControls :
    (let s : State := fz.put (oidGuardCeil 65) 0xC0C00000; let acc : Access := acc2; let g : Fin 1792 := 65; let v : Word := 0x600; let ch : BitVec 11 := 0x7FF; let k : Fin 16 := 4; let o := oidGuardCeil g; let v' := if v = 0x80000000 then 0 else v; let me := acc.session.val; let q := s.guard; let r := s.ob (oidGuardFuseRange k); let ctl (w : Nat) : Prop := s.admits acc oidGuardCtrl (BitVec.ofNat 32 w) = true; let mine : Prop := acc.pc.val = 1 ∧ q.holder = some me; Canonical s ∧ mapWf (fun _ => ({} : GCh)) s.guard.chs = true ∧ s.admits acc o v = true ∧ s.overFuse g v' = false ∧ f32Lt (s.ob o) v' = true ∧ s.admits acc (oidGuardCfg g) v = true ∧ fld v 10 5 ≤ 60 ∧ s.admits acc oidGuardUnlock v = true ∧ v ≠ 0x5AFE ∧ (¬(v = 0xCE11 ∧ q.first = some me)) ∧ q.first = none ∧ ctl 1 ∧ (∀ x ∈ q.safe, x < 2) ∧ ctl (2 + 256 * ch.toNat) ∧ 0x6FF < ch.toNat ∧ ctl 3 ∧ ctl (4 + 2 ^ 20 * k.val) ∧ mine ∧ bit r 31 = false ∧ 2 ∉ q.safe ∧ 3 ∉ q.safe ∧ s.guardHealthy = true ∧ s.admits acc oidFaultCtrl 1 = true) ∧
    (let s : State := gS 65 {} { okq with first := some 4, safe := [0, 2, 3], sys := true }; let acc : Access := acc2; let ch : BitVec 11 := 64; let k : Fin 16 := 4; let me := acc.session.val; let q := s.guard; let ctl (w : Nat) : Prop := s.admits acc oidGuardCtrl (BitVec.ofNat 32 w) = true; let mine : Prop := acc.pc.val = 1 ∧ q.holder = some me; Canonical s ∧ mapWf (fun _ => ({} : GCh)) s.guard.chs = true ∧ q.first ≠ none ∧ ctl 1 ∧ (∃ x ∈ q.safe, 2 ≤ x) ∧ (∀ x ∈ q.safe, 2 ≤ x → s.safePersists x = false) ∧ ctl (2 + 256 * ch.toNat) ∧ ch.toNat ≤ 0x6FF ∧ ctl (4 + 2 ^ 20 * k.val) ∧ ¬mine ∧ 2 ∈ q.safe ∧ 3 ∈ q.safe ∧ s.guardHealthy = false) ∧
    (let s : State := fz.put (oidGuardFuseRange 4) (wd (64 + 65536 * 70 + 2^31)); let acc : Access := acc2; let g : Fin 1792 := 65; let v : Word := 0x80000000; let k : Fin 16 := 4; let o := oidGuardCeil g; let v' := if v = 0x80000000 then 0 else v; let me := acc.session.val; let q := s.guard; let r := s.ob (oidGuardFuseRange k); let ctl (w : Nat) : Prop := s.admits acc oidGuardCtrl (BitVec.ofNat 32 w) = true; let mine : Prop := acc.pc.val = 1 ∧ q.holder = some me; Canonical s ∧ mapWf (fun _ => ({} : GCh)) s.guard.chs = true ∧ s.admits acc o v = true ∧ s.overFuse g v' = true ∧ ctl (4 + 2 ^ 20 * k.val) ∧ mine ∧ bit r 31 = true) ∧
    (let s : State := (gS 65 {} { okq with osc := [0], safe := [2] }).put oidTwinState 2; let acc : Access := acc2; let q := s.guard; let ctl (w : Nat) : Prop := s.admits acc oidGuardCtrl (BitVec.ofNat 32 w) = true; Canonical s ∧ mapWf (fun _ => ({} : GCh)) s.guard.chs = true ∧ ctl 1 ∧ (∃ x ∈ q.safe, 2 ≤ x ∧ s.safePersists x = true)) ∧
    (let s : State := gS 65 {} okq; let acc : Access := acc2; let g : Fin 1792 := 65; let v : Word := 0x7A0; Canonical s ∧ mapWf (fun _ => ({} : GCh)) s.guard.chs = true ∧ s.admits acc (oidGuardCfg g) v = true ∧ 60 < fld v 10 5) ∧
    (let s : State := gS 65 {} okq; let acc : Access := acc2; let v : Word := 0x5AFE; let q := s.guard; Canonical s ∧ mapWf (fun _ => ({} : GCh)) s.guard.chs = true ∧ s.admits acc oidGuardUnlock v = true ∧ v = 0x5AFE ∧ q.first = none) ∧
    (let s : State := gS 65 { ia := {auto := 3, latch := 3}, retired := true } { okq with first := some 3 }; let acc : Access := acc2; let v : Word := 0xCE11; let me := acc.session.val; let q := s.guard; Canonical s ∧ mapWf (fun _ => ({} : GCh)) s.guard.chs = true ∧ s.admits acc oidGuardUnlock v = true ∧ v = 0xCE11 ∧ q.first = some me) ∧
    (let s : State := gS 65 {} okq; let acc : Access := acc2; let g : Fin 1792 := 65; let v : Word := 0xC0C00000; let o := oidGuardCeil g; let v' := if v = 0x80000000 then 0 else v; Canonical s ∧ mapWf (fun _ => ({} : GCh)) s.guard.chs = true ∧ s.admits acc o v = true ∧ s.overFuse g v' = false ∧ f32Lt (s.ob o) v' = false) := by
  refine ⟨?_, ?_, ?_, ?_, ?_, ?_, ?_, ?_⟩ <;> (try unfold Canonical) <;> (try dsimp only) <;> decide +kernel

theorem witness_PowerStatesAndDomains :
    (let s : State := (wc 2 (pw 1 { groups := 3 })); let acc : Access := acc1; let q : Fin 4 := 0; let n : Nat := 1; let st := s.pw; let cfg := s.ob oidChrWakeCfg; let ctl (k : Nat) : Prop := s.admits acc oidPwrCtrl (BitVec.ofNat 32 k) = true; let busy : Prop := ∃ i, i < 9 ∧ (s.tileState (9 * q.val + i) = 2 ∨ s.tileState (9 * q.val + i) = 3); Canonical s ∧ n < 64 ∧ s.pwr.off = false ∧ (s.pwr.off = true ∨ st ≠ 0 ∨ bit cfg 0 = false) ∧ (s.pwr.off = true ∨ bit cfg 1 = false ∨ st ≠ 0 ∧ st ≠ 3) ∧ (s.pwr.off = true ∨ st = 1) ∧ st = 1 ∧ s.pwr.groups = 3 ∧ s.pwr.groups ≤ 3 ∧ ctl 1 ∧ st ≠ 3 ∧ ctl 2 ∧ st ≠ 2 ∧ ctl (3 + 4 * q.val) ∧ ¬busy ∧ s.pwr.down = false ∧ (s.pwr.off = true ∨ st ≤ 1 ∨ st = 2 ∧ s.pwr.stage < 2)) ∧
    (let s : State := ((rich ((pw 3 { down := true, stage := 7 }).put oidTwinState 2)).setSes 4 { ses1 with waiting := [{ wt0 with sets := [] }] }).setTileState 5 2; let acc : Access := acc1; let q : Fin 4 := 0; let sha : List Byte := []; let n : Nat := 4; let st := s.pw; let ctl (k : Nat) : Prop := s.admits acc oidPwrCtrl (BitVec.ofNat 32 k) = true; let ok : Prop := sha = s.pwr.fwSha; let busy : Prop := ∃ i, i < 9 ∧ (s.tileState (9 * q.val + i) = 2 ∨ s.tileState (9 * q.val + i) = 3); Canonical s ∧ n < 64 ∧ s.pwr.off = false ∧ st ≠ 0 ∧ st ≠ 1 ∧ ctl 1 ∧ st = 3 ∧ ctl 2 ∧ (st = 2 ∨ st = 3) ∧ ctl (3 + 4 * q.val) ∧ busy ∧ s.pwr.down = true ∧ ok) ∧
    (let s : State := wc 1 (pw 0 {}); let n : Nat := 3; let st := s.pw; let cfg := s.ob oidChrWakeCfg; Canonical s ∧ n < 64 ∧ s.pwr.off = false ∧ st = 0 ∧ bit cfg 0 = true ∧ (s.pwr.off = true ∨ st = 0)) ∧
    (let s : State := rich (pw 3 { off := true }); let n : Nat := 3; Canonical s ∧ n < 64 ∧ s.pwr.off = true) ∧
    (let s : State := rich ((pw 2 { down := true, stage := 7 }).put oidTwinState 2); let sha : List Byte := [1]; let n : Nat := 4; let ok : Prop := sha = s.pwr.fwSha; Canonical s ∧ n < 64 ∧ s.pwr.down = true ∧ ¬ok) ∧
    (let s : State := (wc 2 (pw 1 { groups := 2 })); let n : Nat := 1; let st := s.pw; Canonical s ∧ n < 64 ∧ st = 1 ∧ s.pwr.groups ≠ 3) ∧
    (let s : State := wc 2 (pw 0 {}); let n : Nat := 3; let st := s.pw; let cfg := s.ob oidChrWakeCfg; Canonical s ∧ n < 64 ∧ s.pwr.off = false ∧ bit cfg 1 = true ∧ st = 0) ∧
    (let s : State := (wc 2 (pw 3 {})).put (oidIntCfg 1) 0x4000; let n : Nat := 1; let st := s.pw; let cfg := s.ob oidChrWakeCfg; Canonical s ∧ n < 64 ∧ s.pwr.off = false ∧ bit cfg 1 = true ∧ st = 3) ∧
    (let s : State := ((pw 2 {stage := 3}).put oidPwrDomains 0xFFF).put (oidPcieStatus) 1; let acc : Access := acc1; let pd : Fin 12 := 7; let on : Bool := false; let q : Fin 4 := 1; let v : Word := 2; let up : Prop := s.switches = true; let now := bit (s.ob oidPwrDomains) pd; let armed : Prop := bit v 1 = true ∧ bit (s.ob oidChrWakeCfg) 1 = false; let late : Prop := (s.ob oidChrAlarmHi).toNat * 2 ^ 32 + (s.ob oidChrAlarmLo).toNat ≤ s.rtcNow; Canonical s ∧ (¬up ∨ now = on) ∧ s.quad q ≠ 3 ∧ s.admits acc oidChrRtcLo v = true ∧ s.admits acc oidChrWakeCfg v = true ∧ armed ∧ late ∧ s.admits acc oidDieTempMax v = true ∧ v ≠ 0) ∧
    (let s : State := ((pw 3 {}).put oidPwrDomains 0xFFF).put oidPwrQuadState 0x300; let acc : Access := acc1; let pd : Fin 12 := 5; let on : Bool := false; let q : Fin 4 := 1; let v : Word := 0; let up : Prop := s.switches = true; let now := bit (s.ob oidPwrDomains) pd; let armed : Prop := bit v 1 = true ∧ bit (s.ob oidChrWakeCfg) 1 = false; Canonical s ∧ up ∧ now ≠ on ∧ pd = 5 ∧ on = false ∧ s.wantsPd5 = false ∧ s.quad q = 3 ∧ s.admits acc oidChrWakeCfg v = true ∧ ¬armed ∧ s.admits acc oidDieTempMax v = true ∧ v = 0) ∧
    (let s : State := ((pw 3 {}).put oidPwrDomains 0xFFF); let pd : Fin 12 := 8; let on : Bool := false; let up : Prop := s.switches = true; let now := bit (s.ob oidPwrDomains) pd; Canonical s ∧ up ∧ now ≠ on ∧ pd ≠ 3 ∧ pd ≠ 4 ∧ pd ≠ 5 ∧ pd ≠ 7) ∧
    (let s : State := ((pw 3 {}).put oidPwrDomains 0).put (oidLaneCfg 1) 1; let pd : Fin 12 := 3; let on : Bool := true; let up : Prop := s.switches = true; let needs3 : Prop := ∃ l, l < 4 ∧ bit (s.ob (oidLaneCfg l)) 0 = true; let now := bit (s.ob oidPwrDomains) pd; Canonical s ∧ up ∧ now ≠ on ∧ pd = 3 ∧ (on = true ↔ needs3)) ∧
    (let s : State := pw 3 {}; let pd : Fin 12 := 3; let on : Bool := false; let up : Prop := s.switches = true; let needs3 : Prop := ∃ l, l < 4 ∧ bit (s.ob (oidLaneCfg l)) 0 = true; let now := bit (s.ob oidPwrDomains) pd; Canonical s ∧ up ∧ now ≠ on ∧ pd = 3 ∧ ¬(on = true ↔ needs3)) ∧
    (let s : State := ((pw 3 {}).put oidPwrDomains 0); let pd : Fin 12 := 5; let on : Bool := true; let up : Prop := s.switches = true; let now := bit (s.ob oidPwrDomains) pd; Canonical s ∧ up ∧ now ≠ on ∧ (pd = 5 ∧ s.wantsPd5 = false ∨ pd = 7 ∧ s.wantsPd7 = false) ∧ on = true) ∧
    (let s : State := ((pw 3 {}).put oidPwrDomains 0); let pd : Fin 12 := 4; let on : Bool := true; let up : Prop := s.switches = true; let now := bit (s.ob oidPwrDomains) pd; Canonical s ∧ up ∧ now ≠ on ∧ (pd = 4 ∨ pd = 5 ∧ s.wantsPd5 = true ∨ pd = 7 ∧ s.wantsPd7 = true) ∧ on = true) ∧
    (let s : State := ((pw 3 {}).put oidPwrDomains 0xFFF); let pd : Fin 12 := 4; let on : Bool := false; let up : Prop := s.switches = true; let now := bit (s.ob oidPwrDomains) pd; Canonical s ∧ up ∧ now ≠ on ∧ (pd = 4 ∨ pd = 5 ∧ s.wantsPd5 = true ∨ pd = 7 ∧ s.wantsPd7 = true) ∧ on = false) := by
  refine ⟨?_, ?_, ?_, ?_, ?_, ?_, ?_, ?_, ?_, ?_, ?_, ?_, ?_, ?_, ?_, ?_⟩ <;> (try unfold Canonical) <;> (try dsimp only) <;> decide +kernel

theorem witness_PowerStatesAndDomains_a :
    let s : State := (((pw 3 {rtc := 77}).put oidPwrDomains 0xFFF).put oidChrAlarmHi 0xFFFFFFFF).put oidDieTempMax 50; let acc : Access := acc1; let pd : Fin 12 := 7; let on : Bool := false; let v : Word := 2; let up : Prop := s.switches = true; let now := bit (s.ob oidPwrDomains) pd; let armed : Prop := bit v 1 = true ∧ bit (s.ob oidChrWakeCfg) 1 = false; let late : Prop := (s.ob oidChrAlarmHi).toNat * 2 ^ 32 + (s.ob oidChrAlarmLo).toNat ≤ s.rtcNow; Canonical s ∧ up ∧ now ≠ on ∧ pd = 7 ∧ on = false ∧ s.wantsPd7 = false ∧ s.admits acc oidChrWakeCfg v = true ∧ armed ∧ ¬late := by
  refine ⟨?_, ?_, ?_, ?_, ?_, ?_, ?_, ?_, ?_⟩ <;> (try unfold Canonical) <;> (try dsimp only)
  all_goals
    first
    | exact Nat.not_le.2 (Nat.lt_trans (Nat.mod_lt _ (by decide)) (by decide +kernel))
    | decide +kernel

theorem witness_EclosionSteps :
    (let s : State := pw 2 (pkey {}); let slot : Option (List Byte × List Byte) := some (fwh, []); let hd : List Byte := fwh; let cd : List Byte := []; let expired : Bool := true; let p := s.pwr; let code := s.fwVerdict slot; let early : Prop := s.pw = 2 ∧ p.stage ≤ 2; let at' (k : Nat) : Prop := s.pw = 2 ∧ p.stage = k; Canonical s ∧ early ∧ slot = some (hd, cd) ∧ code = 0 ∧ ¬at' 4 ∧ ¬at' 5 ∧ (¬at' 7 ∨ expired = false ∧ s.pastStage1 = false) ∧ ¬at' 8) ∧
    (let s : State := { pw 2 {stage := 5} with jnl := jl }; let badRec : Option Word := none; let r : JRec := jr1; let idx : Nat := 4; let p := s.pwr; let early : Prop := s.pw = 2 ∧ p.stage ≤ 2; let at' (k : Nat) : Prop := s.pw = 2 ∧ p.stage = k; Canonical s ∧ ¬early ∧ at' 5 ∧ s.jnl.base = none ∧ s.jnl.live = [{ idx := idx, recs := [{ seq := 1, kind := 1 }, r] }] ∧ r.kind = 2 ∧ r.seq = 1 ∧ lawOf r.oid = 0 ∧ s.otpOid r.oid = false ∧ r.oid ∉ [oidJnlReplayed, oidJnlDiscarded, oidJnlSeq, oidInstar] ∧ badRec = none) ∧
    (let s : State := { pw 2 {stage := 8} with jnl := jl }; let badRec : Option Word := some 1; let r : JRec := jr1; let idx : Nat := 4; let p := s.pwr; let at' (k : Nat) : Prop := s.pw = 2 ∧ p.stage = k; Canonical s ∧ s.jnl.base = none ∧ s.jnl.live = [{ idx := idx, recs := [{ seq := 1, kind := 1 }, r] }] ∧ r.kind = 2 ∧ r.seq = 1 ∧ lawOf r.oid = 0 ∧ s.otpOid r.oid = false ∧ r.oid ∉ [oidJnlReplayed, oidJnlDiscarded, oidJnlSeq, oidInstar] ∧ badRec = some 1 ∧ at' 8) ∧
    (let s : State := (pw 2 {stage := 4, rate := some 4}); let p := s.pwr; let at' (k : Nat) : Prop := s.pw = 2 ∧ p.stage = k; Canonical s ∧ at' 4) ∧
    (let s : State := (pw 2 {stage := 2, fwTried := true}).put oidPwrBootInfo 0xFF20; let slot : Option (List Byte × List Byte) := some (fwh, [1]); let p := s.pwr; let code := s.fwVerdict slot; let early : Prop := s.pw = 2 ∧ p.stage ≤ 2; Canonical s ∧ early ∧ code ≠ 0 ∧ p.fwTried = true) ∧
    (let s : State := (pw 2 {stage := 2}).put oidPwrBootInfo 0xFF20; let slot : Option (List Byte × List Byte) := some (fwh, [1]); let p := s.pwr; let code := s.fwVerdict slot; let early : Prop := s.pw = 2 ∧ p.stage ≤ 2; Canonical s ∧ early ∧ code ≠ 0 ∧ p.fwTried = false) ∧
    (let s : State := { pw 2 {stage := 7} with jnl := jl }; let expired : Bool := true; let p := s.pwr; let at' (k : Nat) : Prop := s.pw = 2 ∧ p.stage = k; Canonical s ∧ at' 7 ∧ (expired = true ∨ s.pastStage1 = true)) := by
  refine ⟨?_, ?_, ?_, ?_, ?_, ?_, ?_⟩ <;> (try unfold Canonical) <;> (try dsimp only) <;> decide +kernel

theorem witness_JournalPagesAndCompaction :
    (let s : State := jn 1 { page := [rec 1, rec 2], pageSeg := 4, live := [seg] }; let x : JRec := rec 2; let j := s.jnl; let live : Prop := s.jst = 1 ∨ s.jst = 3; Canonical s ∧ mapWf (fun _ => 0) s.jnl.erases = true ∧ j.page.getLast? = some x ∧ j.page ≠ [] ∧ (s.jst ≠ 1 ∨ j.page ≠ [] ∨ j.queue = []) ∧ (s.jst = 0 ∨ s.jst = 2 ∨ j.dirty = []) ∧ live ∧ s.jst ≠ 2) ∧
    (let s : State := jn 2 { dirty := [2^20, 6], live := [seg], next := 3 }; let j := s.jnl; let live : Prop := s.jst = 1 ∨ s.jst = 3; Canonical s ∧ mapWf (fun _ => 0) s.jnl.erases = true ∧ j.page = [] ∧ ¬live ∧ s.jst = 2 ∧ (j.page ≠ [] ∨ j.queue = [])) ∧
    (let s : State := jn 1 { dirty := [5, 6], live := [seg], next := 3 }; let k : Nat := 5; let rest : List Nat := [6]; let j := s.jnl; Canonical s ∧ mapWf (fun _ => 0) s.jnl.erases = true ∧ s.jst ≠ 0 ∧ s.jst ≠ 2 ∧ j.dirty = k :: rest ∧ k < 2 ^ 20) ∧
    (let s : State := jn 3 { dirty := [2^20, 6], live := [seg], next := 3 }; let k : Nat := 2^20; let rest : List Nat := [6]; let j := s.jnl; Canonical s ∧ mapWf (fun _ => 0) s.jnl.erases = true ∧ s.jst ≠ 0 ∧ s.jst ≠ 2 ∧ j.dirty = k :: rest ∧ 2 ^ 20 ≤ k) ∧
    (let s : State := jn 1 { queue := [rec 1, rec 2], live := [seg], next := 3 }; let g : JSeg := seg; let j := s.jnl; Canonical s ∧ mapWf (fun _ => 0) s.jnl.erases = true ∧ s.jst = 1 ∧ j.page = [] ∧ j.queue ≠ [] ∧ j.live.getLast? = some g ∧ g.recs.length < 2048 ∧ g.idx ∉ j.bad ∧ j.shut = false) ∧
    (let s : State := jn 3 {comp := some { cc with again := true}, draft := some dd, live := [seg]}; let acc : Access := acc1; let c : Comp := { cc with again := true}; let d : Snap := dd; let j := s.jnl; let live : Prop := s.jst = 1 ∨ s.jst = 3; let region := match j.base with | none => false | some b => !b; let begins : Prop := live ∧ j.comp = none ∧ (j.want = true ∨ s.jnlTrigger ≤ j.wr) ∧ regionKey region ∉ j.dirty; let bodied : Prop := live ∧ c.body = false ∧ regionKey c.region ∉ j.dirty; let bytes := bodyBytes s.snapScalars s.snapSets; let large : Prop := jnlS (s.ob oidJnlFlashMib).toNat - 512 < bytes; let sealable : Prop := live ∧ 0 ≤ (s.ob oidJnlSeq - d.close).toInt; Canonical s ∧ s.admits acc oidJnlCtrl 1 = true ∧ j.comp ≠ none ∧ s.admits acc oidJnlCtrl 2 = true ∧ live ∧ ¬begins ∧ j.comp = some c ∧ bodied ∧ ¬large ∧ j.draft = some d ∧ sealable ∧ c.again = true) ∧
    (let s : State := (jn 1 {want := true, next := 7, base := some false}).put oidInstar 5; let acc : Access := acc1; let c : Comp := cc; let d : Snap := dd; let j := s.jnl; let live : Prop := s.jst = 1 ∨ s.jst = 3; let region := match j.base with | none => false | some b => !b; let begins : Prop := live ∧ j.comp = none ∧ (j.want = true ∨ s.jnlTrigger ≤ j.wr) ∧ regionKey region ∉ j.dirty; let bodied : Prop := live ∧ c.body = false ∧ regionKey c.region ∉ j.dirty; let sealable : Prop := live ∧ 0 ≤ (s.ob oidJnlSeq - d.close).toInt; Canonical s ∧ s.admits acc oidJnlCtrl 1 = true ∧ j.comp = none ∧ begins ∧ (j.comp = none ∨ j.comp = some c ∧ ¬bodied) ∧ (j.comp = none ∨ j.draft = none ∨ j.draft = some d ∧ ¬sealable)) ∧
    (let s : State := jn 2 {want := true, next := 7, base := some false}; let acc : Access := acc1; let live : Prop := s.jst = 1 ∨ s.jst = 3; Canonical s ∧ s.admits acc oidJnlCtrl 2 = true ∧ ¬live) ∧
    (let s : State := jn 1 {comp := some cc, draft := some dd, live := [seg, {seg with idx := 5, recs := [{rec 5 with kind := 1}, rec 6]}], base := some true, snapB := some dd}; let c : Comp := cc; let d : Snap := dd; let j := s.jnl; let live : Prop := s.jst = 1 ∨ s.jst = 3; let sealable : Prop := live ∧ 0 ≤ (s.ob oidJnlSeq - d.close).toInt; Canonical s ∧ j.comp = some c ∧ j.draft = some d ∧ sealable ∧ c.again = false) := by
  refine ⟨?_, ?_, ?_, ?_, ?_, ?_, ?_, ?_, ?_⟩ <;> (try unfold Canonical) <;> (try dsimp only) <;> decide +kernel

theorem witness_JournalPagesAndCompaction_a :
    let s : State := (let b := jn 1 {comp := some cc}; b.setBset k1 { b.bset k1 with lenCur := 12000000 }); let c : Comp := cc; let j := s.jnl; let live : Prop := s.jst = 1 ∨ s.jst = 3; let bodied : Prop := live ∧ c.body = false ∧ regionKey c.region ∉ j.dirty; let bytes := bodyBytes s.snapScalars s.snapSets; let large : Prop := jnlS (s.ob oidJnlFlashMib).toNat - 512 < bytes; Canonical s ∧ j.comp = some c ∧ bodied ∧ large := by
  refine ⟨?_, ?_, ?_, ?_⟩ <;> (try unfold Canonical) <;> (try dsimp only)
  all_goals
    first
    | exact Nat.lt_of_le_of_lt (Nat.le_trans (Nat.sub_le _ _) (jnlS_le _)) (by decide +kernel)
    | decide +kernel

theorem witness_GrainAndSampleBoundaries :
    (let s : State := { baseS with faultQ := [(3, 4)], mix := { ticBuf := [(5, 7)], pos := 8 } }; Canonical s ∧ mapWf (fun _ => (0 : Word)) s.mix.ticBuf = true) ∧
    (let s : State := smp; let d : Dom := .a; let n := match d with | .a => 0 | .b => 1 | .c => 2; Canonical s ∧ mapWf (fun _ => ({} : PatchSink)) s.mix.sinks = true ∧ mapWf (fun _ => (0 : Word)) s.mix.srcNow = true ∧ mapWf (fun _ => (0 : Word)) s.mix.sinkOut = true ∧ mapWf (fun _ => 0) s.time.sb = true ∧ s.domHz n ≠ 0) ∧
    (let s : State := smp.put oidDomRateB 0; let d : Dom := .b; let n := match d with | .a => 0 | .b => 1 | .c => 2; Canonical s ∧ mapWf (fun _ => ({} : PatchSink)) s.mix.sinks = true ∧ mapWf (fun _ => (0 : Word)) s.mix.srcNow = true ∧ mapWf (fun _ => (0 : Word)) s.mix.sinkOut = true ∧ mapWf (fun _ => 0) s.time.sb = true ∧ s.domHz n = 0) := by
  refine ⟨?_, ?_, ?_⟩ <;> (try unfold Canonical) <;> (try dsimp only) <;> decide +kernel

end Sys2Proof.Tests
end

/-!
An access that R36 does not connect is refused (R37): the address map and the table of connections, what an event changes in
the host block, the entry of the bus error log, and the service of a request that is alone at the arbiters.
-/

namespace Sys2Proof.Machine

/-! ### The address map and the connections (R36, R446) -/

/-- A mapped address has one of the eight targets. -/
theorem busTarget_lt {a k : Nat} (h : busTarget a = some k) : k < 8 := by
  unfold busTarget at h
  repeat' split at h
  all_goals cases h
  all_goals omega

/-- The targets that R36 marks for each master, row by row of its table. -/
def markedTargets (m : Nat) : List Nat :=
  nth [] [[4, 5], [0, 2, 3, 4, 5, 6, 7], [4, 6], [4, 6], [4, 6], [4, 7], [1, 2, 3], [1, 4], [1, 2, 3, 7],
    [0, 1, 2, 3, 4, 5, 6, 7]] m

/-- The masks of `busTargets` are the rows of the table of R36. -/
theorem busPair_iff_mem_markedTargets : ∀ (m : Fin 10) (k : Fin 8), busPair m k = true ↔ k.val ∈ markedTargets m := by
  decide

/-- A beat at a target that R36 does not connect to its master meets DECODE (R37, R472). -/
theorem State.busRefused_of_unmarked {s : State} {r : BusReq} {a k : Nat} (hk : busTarget a = some k)
    (h : k ∉ markedTargets r.master ∨ (r.master.val = 9 ∧ s.serviceOn = false)) : s.busRefused r a = some 0 := by
  have pair : busPair r.master k = true ↔ k ∈ markedTargets r.master :=
    busPair_iff_mem_markedTargets r.master ⟨k, busTarget_lt hk⟩
  have off : (!busPair r.master k) = true ∨ (r.master.val = 9 ∧ (!s.serviceOn) = true) := by
    refine h.imp (fun n => ?_) (fun n => ⟨n.1, by simp [n.2]⟩)
    simpa using mt pair.1 n
  simp only [State.busRefused, hk, if_pos off]

/-! ### What an event changes in the host block (R450, R456) -/

/-- The host block of `t` is that of `s` but for the messages sent and the vectors that are pending. -/
def HostMessages (s t : State) : Prop := t.host = { s.host with msi := t.host.msi, pba := t.host.pba }

theorem hostMessages_of_eq {s t : State} (h : t.host = s.host) : HostMessages s t := by
  unfold HostMessages
  rw [h]

theorem HostMessages.trans {s t u : State} (a : HostMessages s t) (b : HostMessages t u) : HostMessages s u := by
  unfold HostMessages at *
  rw [b, a]

/-- Messages leave what T4 and T7 hold, the locks and the grants (R470). -/
theorem HostMessages.kept {s t : State} (a : HostMessages s t) : t.host.sram = s.host.sram ∧
    t.host.netRam = s.host.netRam ∧ t.host.locks = s.host.locks ∧ t.host.granted = s.host.granted := by
  unfold HostMessages at a
  rw [a]
  exact ⟨rfl, rfl, rfl, rfl⟩

theorem hostMessages_forUpTo {f : Nat → State → State} (n : Nat) (hf : ∀ i t, HostMessages t (f i t)) (s : State) :
    HostMessages s (forUpTo n f s) :=
  forUpTo_rel (fun _ => hostMessages_of_eq rfl) HostMessages.trans hf n s

theorem hostMessages_msiSend (s : State) (k : Nat) : HostMessages s (s.msiSend k) := by
  unfold State.msiSend
  split
  · exact hostMessages_of_eq rfl
  · split <;> exact rfl

theorem hostMessages_intRaise (s : State) (g : Nat) : HostMessages s (s.intRaise g) := by
  unfold State.intRaise
  refine HostMessages.trans (hostMessages_forUpTo 4 (fun k t => ?_) s) (hostMessages_of_eq rfl)
  dsimp only
  split
  · split
    · exact HostMessages.trans (hostMessages_of_eq rfl) (hostMessages_msiSend _ k)
    · exact hostMessages_of_eq rfl
  · exact hostMessages_of_eq rfl

theorem hostMessages_enterEv (s : State) (n c : Nat) (l : List Nat) (a b : Word) :
    HostMessages s (s.enterEv n c l a b) := by
  unfold State.enterEv
  dsimp only
  split
  · exact hostMessages_of_eq rfl
  · split
    · exact HostMessages.trans (hostMessages_of_eq rfl) (hostMessages_intRaise _ 0)
    · exact hostMessages_of_eq rfl

theorem hostMessages_raise (s : State) (g i : Nat) (l : List (Nat × Nat)) : HostMessages s (s.raise g i l) := by
  unfold State.raise State.raiseFull
  refine HostMessages.trans (hostMessages_forUpTo 64 (fun n t => ?_) s) (hostMessages_intRaise _ g)
  split
  · exact hostMessages_enterEv _ _ _ _ _ _
  · exact hostMessages_of_eq rfl

theorem hostMessages_raiseOnce (s : State) (k g i : Nat) (l : List (Nat × Nat)) :
    HostMessages s (s.raiseOnce k g i l) := by
  unfold State.raiseOnce
  dsimp only
  split
  · exact hostMessages_of_eq rfl
  · refine HostMessages.trans ?_ (hostMessages_raise _ g i l)
    exact hostMessages_of_eq rfl

/-- An object that no event changes reads as before. -/
theorem State.ob_raiseOnce {s : State} (h : mapWf oidDflt s.obj = true) {k g i o : Nat} {l : List (Nat × Nat)} (hg : g < 32)
    (y : eventOid o = false) : (s.raiseOnce k g i l).ob o = s.ob o :=
  (leaves_raiseOnce (p := fun _ => false) hg).ob h rfl y

/-! ### The entry of the bus error log (R473–R475) -/

/-- The slot that the next entry of the bus error log takes. -/
def State.busErrSlot (s : State) : Nat := if s.obn oidBusErrNewest = 0xFF then 0 else (s.obn oidBusErrNewest + 1) % 16

theorem State.busErrSlot_lt (s : State) : s.busErrSlot < 16 := by
  unfold State.busErrSlot
  split <;> omega

/-- BUSERR_INFO of an error; its upper half is the low half of the total `n` (R475). -/
def busErrInfo (m t ty : Nat) (write : Bool) (n : Nat) : Nat :=
  m + 16 * t + 256 * ty + (if write then 4096 else 0) + 8192 + 65536 * (n % 65536)

/-- The entry of an error, before its event: the total counts one more, the newest slot is the next one, and holds the
address, the information and the device time. -/
def State.busErrEntry (s : State) (m t ty : Nat) (write : Bool) (a : Word) : State :=
  let e := s.busErrSlot
  let u := s.count oidBusErrTotal
  let u := (u.put (oidBuserrAddr e) a).putn (oidBuserrInfo e) (busErrInfo m t ty write (u.obn oidBusErrTotal))
  let u := u.putn (oidBuserrDtSec e) u.dtSec
  (u.putn (oidBuserrDtNs e) u.dtNs).putn oidBusErrNewest e

/-- An error response is its entry and the event of the log. -/
theorem State.busError_eq (s : State) (m t ty : Nat) (write : Bool) (a : Word) :
    s.busError m t ty write a = (s.busErrEntry m t ty write a).raiseOnce 0 11 3 [(1, m), (1, ty)] := rfl

theorem State.busErrEntry_wf {s : State} (w : mapWf oidDflt s.obj = true) (m t ty : Nat) (write : Bool) (a : Word) :
    mapWf oidDflt (s.busErrEntry m t ty write a).obj = true := by
  unfold State.busErrEntry
  iterate 6 apply State.put_wf
  exact w

/-- No event changes the bus error log. -/
theorem eventOid_of_busErrOid {o : Nat} (h : busErrOid o = true) : eventOid o = false := by
  simp only [busErrOid, decide_eq_true_eq] at h
  simp only [eventOid, decide_eq_false_iff_not]
  omega

/-- What each object of the entry reads. -/
theorem State.busErrEntry_reads {s : State} (w : mapWf oidDflt s.obj = true) (m t ty : Nat) (write : Bool) (a : Word) :
    (s.busErrEntry m t ty write a).ob oidBusErrTotal = satInc (s.ob oidBusErrTotal) ∧
    (s.busErrEntry m t ty write a).ob oidBusErrNewest = wd s.busErrSlot ∧
    (s.busErrEntry m t ty write a).ob (oidBuserrAddr s.busErrSlot) = a ∧
    (s.busErrEntry m t ty write a).ob (oidBuserrInfo s.busErrSlot) =
      wd (busErrInfo m t ty write (satInc (s.ob oidBusErrTotal)).toNat) := by
  have he := s.busErrSlot_lt
  simp only [State.busErrEntry, State.count, State.putn, State.obn]
  generalize s.busErrSlot = e at he ⊢
  simp (disch := (repeat apply State.put_wf); exact w) only [State.ob_put]
  simp only [oidBusErrTotal, oidBusErrNewest, oidBuserrAddr, oidBuserrInfo, oidBuserrDtSec, oidBuserrDtNs]
  refine ⟨?_, ?_, ?_, ?_⟩ <;> simp (disch := omega) only [if_neg, if_true]

/-- The error log reads as its entry has left it. -/
theorem State.ob_busError {s : State} (w : mapWf oidDflt s.obj = true) {m t ty o : Nat} {write : Bool} {a : Word}
    (h : busErrOid o = true) : (s.busError m t ty write a).ob o = (s.busErrEntry m t ty write a).ob o := by
  rw [State.busError_eq, State.ob_raiseOnce (State.busErrEntry_wf w _ _ _ _ _) (by decide) (eventOid_of_busErrOid h)]

/-- After an error response the newest entry of the log is in the next slot and holds the address and BUSERR_INFO. -/
theorem State.busError_reads {s : State} (w : mapWf oidDflt s.obj = true) (m t ty : Nat) (write : Bool) (a : Word) :
    (s.busError m t ty write a).ob oidBusErrTotal = satInc (s.ob oidBusErrTotal) ∧
    ((s.busError m t ty write a).ob oidBusErrNewest).toNat = s.busErrSlot ∧
    (s.busError m t ty write a).ob (oidBuserrAddr s.busErrSlot) = a ∧
    (s.busError m t ty write a).ob (oidBuserrInfo s.busErrSlot) =
      wd (busErrInfo m t ty write (satInc (s.ob oidBusErrTotal)).toNat) := by
  have he := s.busErrSlot_lt
  have logged : busErrOid (oidBuserrAddr s.busErrSlot) = true ∧ busErrOid (oidBuserrInfo s.busErrSlot) = true := by
    simp only [busErrOid, oidBuserrAddr, oidBuserrInfo, decide_eq_true_eq]
    omega
  obtain ⟨total, newest, addr, info⟩ := State.busErrEntry_reads w m t ty write a
  rw [State.ob_busError w (by decide), State.ob_busError w (by decide), State.ob_busError w logged.1,
    State.ob_busError w logged.2, total, newest, addr, info]
  exact ⟨rfl, by simp only [wd, BitVec.toNat_ofNat]; omega, rfl, rfl⟩

/-- BUSERR_INFO holds the master in its low four bits, the type in bits 11:8, and bit 13 says that the entry is valid (R475). -/
theorem busErrInfo_fields {m t ty : Nat} (hm : m < 16) (ht : t < 16) (hy : ty < 16) (write : Bool) (n : Nat) :
    (wd (busErrInfo m t ty write n)).toNat % 16 = m ∧ (wd (busErrInfo m t ty write n)).toNat / 2 ^ 8 % 16 = ty ∧
    bit (wd (busErrInfo m t ty write n)) 13 = true := by
  have hd : (if write then 4096 else 0) = 0 ∨ (if write then 4096 else 0) = 4096 := by cases write <;> simp
  simp only [wd, bit, busErrInfo, BitVec.toNat_ofNat, BitVec.getLsbD_ofNat, Nat.testBit_eq_decide_div_mod_eq]
  generalize (if write then 4096 else 0) = d at hd ⊢
  refine ⟨?_, ?_, ?_⟩
  · omega
  · omega
  · simp only [Bool.and_eq_true, decide_eq_true_eq]
    omega

theorem hostMessages_busError (s : State) (m t ty : Nat) (write : Bool) (a : Word) :
    HostMessages s (s.busError m t ty write a) := by
  rw [State.busError_eq]
  refine HostMessages.trans ?_ (hostMessages_raiseOnce _ 0 11 3 _)
  exact hostMessages_of_eq rfl

/-! ### A request alone at the arbiters (R468–R472) -/

/-- The first beat of a burst lies at the request's address (R467). -/
theorem busBeatAt_zero (r : BusReq) : busBeatAt r 0 = r.addr := by
  unfold busBeatAt
  split
  · simp
  · simp only [Nat.zero_mul, Nat.add_zero, Nat.mod_mod]
    exact Nat.div_add_mod' _ _

theorem busTargetOf_of_bus {r : BusReq} (hb : r.bar = false) : busTargetOf r = busTarget r.addr := by
  simp [busTargetOf, busPlace, hb]

/-- A request whose first beat meets DECODE enters the error log under its own address and is answered; no beat is performed
and no lock or grant changes (R472). -/
theorem State.busPerform_decode {s : State} {r : BusReq} {k : Nat} (hb : r.bar = false) (hk : busTarget r.addr = some k)
    (h : s.busRefused r r.addr = some 0) :
    s.busPerform r = { s.busError r.master k 0 r.write (wd r.addr) with answer := { status := 16 } } := by
  have first : (busPlace r (busBeatAt r 0)).bind (fun a => (s.busRefused r a).map (fun ty => (a, ty))) = some (r.addr, 0) := by
    simp [busBeatAt_zero, busPlace, hb, h]
  obtain ⟨n, hn⟩ : ∃ n, max 1 r.beats = n + 1 := ⟨max 1 r.beats - 1, by omega⟩
  unfold State.busPerform
  rw [hn, List.range_succ_eq_map, List.filterMap_cons, first]
  simp [hb, hk]

/-- A request that is alone is picked by the arbiter of its target and by no other, unless another master holds the target
locked (R468, R470). -/
theorem State.busPick_singleton {s : State} {r : BusReq} {k : Nat} (hk : busTargetOf r = some k)
    (hl : mapGet (fun _ => 0) s.host.locks k = 0 ∨ mapGet (fun _ => 0) s.host.locks k = r.master.val + 1) (t : Nat) :
    s.busPick [r] t = if t = k then some 0 else none := by
  unfold State.busPick
  split
  · next e => simp [e, hk, hl]
  · next e => simp [hk, Ne.symm e]

/-- A request that comes alone, to a target that no other master holds locked, is served at once. -/
theorem State.busAccess_alone {s : State} {r : BusReq} {k : Nat} (hw : s.host.wait = []) (hk : busTargetOf r = some k)
    (h8 : k < 8) (hl : mapGet (fun _ => 0) s.host.locks k = 0 ∨ mapGet (fun _ => 0) s.host.locks k = r.master.val + 1) :
    exec (.busAccess [r]) s =
      .next { s.busPerform r with host := { (s.busPerform r).host with wait := [] } } := by
  have same : ({ s with host := { s.host with wait := [] } } : State) = s := by rw [← hw]
  have stray : busStray [r] = none := by simp [busStray, hk]
  have pick : (List.range 8).findSome? (fun t => s.busPick [r] t) = some 0 := by
    simp only [State.busPick_singleton hk hl]
    exact (by decide : ∀ k < 8, (List.range 8).findSome? (fun t => if t = k then some 0 else none) = some 0) k h8
  change execBusAccess [r] s = _
  simp only [execBusAccess, hw, same, List.nil_append, List.length_singleton, State.busServe, stray, pick]
  simp

end Sys2Proof.Machine

section
open Sys2Proof Sys2Proof.Machine

/-- Settles O45: the request is alone and its target is free to its master, so it is served; its first beat meets DECODE, and
what then differs from the state before is the entry of the error log with its event, and the answer. -/
theorem busConnections : Obligations.BusConnections := by
  unfold Obligations.BusConnections
  intro s r k hc _ _ _ _ hw hb hk hl hm
  obtain ⟨ho, -, -, -⟩ := hc
  have h8 := busTarget_lt hk
  have run := State.busAccess_alone hw ((busTargetOf_of_bus hb).trans hk) h8 hl
  rw [State.busPerform_decode hb hk (State.busRefused_of_unmarked hk hm)] at run
  refine ⟨_, run, ?_⟩
  have frame : Leaves busErrOid s (s.busError r.master k 0 r.write (wd r.addr)) := leaves_busError (fun _ h => h)
  obtain ⟨sram, netRam, locks, granted⟩ := (hostMessages_busError s r.master k 0 r.write (wd r.addr)).kept
  obtain ⟨total, newest, addr, info⟩ := State.busError_reads ho r.master k 0 r.write (wd r.addr)
  obtain ⟨master, type, valid⟩ := busErrInfo_fields (m := r.master) (t := k) (ty := 0) (by omega) (by omega) (by decide)
    r.write (satInc (s.ob oidBusErrTotal)).toNat
  simp only [State.ob] at newest addr info ⊢
  simp only [newest, addr, info]
  refine ⟨by decide, total, s.busErrSlot_lt, rfl, master, type, valid, ?_, sram, netRam, locks, granted,
    fun o x y => frame.ob ho x y⟩
  rw [frame.rest]
end

/-!
Slot operations of a tile (R40, R54, R73, R99, R108): what the reports of a tile's errors leave of the state, the tile that a
slot operation finds at its word, results in flight, and the compares.
-/

namespace Sys2Proof.Machine

/-! ### What the reports of a tile's errors leave (R60, R83) -/

/-- The objects and the tiles are held in canonical form. -/
def State.Held (s : State) : Prop :=
  mapWf oidDflt s.obj = true ∧ mapWf (fun _ => ({} : Tile)) s.tiles = true

theorem Canonical.held {s : State} (h : Canonical s) : s.Held := ⟨h.1, h.2.1⟩

theorem State.Held.setTile {s : State} (h : s.Held) (n : Nat) (t : Tile) : (s.setTile n t).Held :=
  ⟨h.1, mapSet_wf _ _ _ _ h.2⟩

theorem Leaves.tiles {p : Nat → Bool} {s t : State} (a : Leaves p s t) : t.tiles = s.tiles := by rw [a.rest]

theorem Leaves.tile {p : Nat → Bool} {s t : State} (a : Leaves p s t) (n : Nat) : t.tile n = s.tile n := by
  unfold State.tile
  rw [a.tiles]

theorem Leaves.faultQ {p : Nat → Bool} {s t : State} (a : Leaves p s t) : t.faultQ = s.faultQ := by rw [a.rest]

theorem Leaves.held {p : Nat → Bool} {s t : State} (a : Leaves p s t) (h : s.Held) : t.Held :=
  ⟨a.wf h.1, a.tiles ▸ h.2⟩

theorem OnlyTile.setTile {s : State} (h : s.Held) (n : Nat) (t : Tile) : OnlyTile n s (s.setTile n t) :=
  ⟨rfl, fun m hm => by rw [State.tile_setTile h.2, if_neg hm]⟩

theorem OnlyTile.trans {n : Nat} {a b c : State} (x : OnlyTile n a b) (y : OnlyTile n b c) : OnlyTile n a c := by
  obtain ⟨xr, xt⟩ := x
  obtain ⟨yr, yt⟩ := y
  exact ⟨by rw [yr, xr], fun m hm => (yt m hm).trans (xt m hm)⟩

theorem tileErrs_refl (n : Nat) (s : State) : TileErrs n s s := ⟨rfl, fun _ _ => rfl, fun _ _ _ => rfl⟩

theorem TileErrs.trans {n : Nat} {a b c : State} (x : TileErrs n a b) (y : TileErrs n b c) : TileErrs n a c := by
  refine ⟨?_, fun m hm => (y.others m hm).trans (x.others m hm), fun o ho he => (y.objs o ho he).trans (x.objs o ho he)⟩
  have hx := x.rest
  have hy := y.rest
  rw [hy, hx]

/-- From a state in canonical form, `t` is one in canonical form and differs from it as the errors of tile `n` may make it. -/
def WithinTile (n : Nat) (b t : State) : Prop := b.Held → t.Held ∧ TileErrs n b t

theorem withinTile_refl (n : Nat) (s : State) : WithinTile n s s := fun h => ⟨h, tileErrs_refl n s⟩

theorem WithinTile.trans {n : Nat} {a b c : State} (x : WithinTile n a b) (y : WithinTile n b c) : WithinTile n a c := by
  intro h
  obtain ⟨hb, xb⟩ := x h
  obtain ⟨hc, yc⟩ := y hb
  exact ⟨hc, xb.trans yc⟩

theorem Leaves.withinTile {n : Nat} {s t : State} (a : Leaves (tileFlagOid n) s t) : WithinTile n s t := by
  intro h
  refine ⟨a.held h, ?_, fun m _ => a.tile m, fun o => a.ob h.1⟩
  have := a.rest
  rw [this]

theorem withinTile_setTile (n : Nat) (s : State) (t : Tile) : WithinTile n s (s.setTile n t) := fun h =>
  ⟨h.setTile n t, rfl, (OnlyTile.setTile h n t).2, fun _ _ _ => rfl⟩

theorem withinTile_noteFault (n : Nat) (s : State) (cls loc : Nat) : WithinTile n s (s.noteFault cls loc) := fun h =>
  ⟨h, rfl, fun _ _ => rfl, fun _ _ _ => rfl⟩

theorem withinTile_failGrain (s : State) (n : Nat) : WithinTile n s (s.failGrain n) := by
  unfold State.failGrain
  split
  · exact withinTile_refl n s
  · refine (withinTile_setTile n s _).trans (Leaves.withinTile ((leaves_sticky ?_ ?_).trans (leaves_raise (by decide)))) <;>
      simp [tileFlagOid]

theorem withinTile_failure (s : State) (n cls loc : Nat) : WithinTile n s (s.failure n cls loc) := by
  unfold State.failure
  refine (withinTile_failGrain s n).trans ?_
  dsimp only
  split
  · exact withinTile_refl n _
  · exact (withinTile_setTile n _ _).trans (withinTile_noteFault n _ cls _)

/-- Setting a flag of a tile any number of times (R60). -/
def State.flagTimes (s : State) (n i cnt k : Nat) : State := forUpTo k (fun _ u => u.sticky (oidTileSticky n) i cnt) s

theorem leaves_flagTimes {n i cnt k : Nat} {s : State} (h : tileFlagOid n cnt = true) :
    Leaves (tileFlagOid n) s (s.flagTimes n i cnt k) :=
  leaves_forUpTo k (fun _ _ _ => leaves_sticky (by simp [tileFlagOid]) (by simp [h])) s

/-- Corrected errors are their flag with its counter, and an event (R60, R83). -/
theorem State.eccCe_eq (s : State) (n k : Nat) (pm : Bool) : s.eccCe n k pm = if k = 0 then s else
    (s.flagTimes n (if pm then 3 else 1) (if pm then oidPmCeCnt n else oidDmCeCnt n) k).raiseOnce n 1 1 [(1, n)] := by
  cases pm <;> rfl

/-- Uncorrectable errors are their flag with its counter, an event, and the failure of the grain (R60, R83). -/
theorem State.eccUe_eq (s : State) (n k : Nat) (pm : Bool) (a : Nat) : s.eccUe n k pm a = if k = 0 then s else
    ((s.flagTimes n (if pm then 4 else 2) (if pm then oidPmUeCnt n else oidDmUeCnt n) k).raise 1 2 [(1, n)]).failure n
      (if pm then 3 else 2) a := by
  cases pm <;> rfl

theorem leaves_eccCe (s : State) (n k : Nat) (pm : Bool) : Leaves (tileFlagOid n) s (s.eccCe n k pm) := by
  rw [State.eccCe_eq]
  split
  · exact leaves_refl _ s
  · refine (leaves_flagTimes ?_).trans (leaves_raiseOnce (by decide))
    cases pm <;> simp [tileFlagOid]

theorem withinTile_eccUe (s : State) (n k : Nat) (pm : Bool) (a : Nat) : WithinTile n s (s.eccUe n k pm a) := by
  rw [State.eccUe_eq]
  split
  · exact withinTile_refl n s
  · refine (Leaves.withinTile ((leaves_flagTimes ?_).trans (leaves_raise (by decide)))).trans (withinTile_failure _ n _ a)
    cases pm <;> simp [tileFlagOid]

theorem withinTile_pmReport (s : State) (n : Nat) : WithinTile n s (s.pmReport n) := by
  unfold State.pmReport
  split
  · exact withinTile_refl n s
  · refine (withinTile_setTile n s _).trans
      (foldl_rel (R := WithinTile n) (withinTile_refl n) WithinTile.trans (fun u e => ?_) _ _)
    split
    · exact withinTile_eccUe u n 1 true e.1
    · exact (leaves_eccCe u n 1 true).withinTile

/-- A tile that comes to a word of its own changes no other tile (R40). -/
theorem withinTile_toWord (s : State) (p : Slot) : WithinTile p.tile s (s.toWord p) := by
  unfold State.toWord
  split
  · exact (withinTile_setTile p.tile s _).trans (withinTile_pmReport _ p.tile)
  · exact withinTile_refl p.tile s

theorem Canonical.held_toWord {s : State} (h : Canonical s) (p : Slot) : (s.toWord p).Held :=
  (withinTile_toWord s p h.held).1

/-! ### A slot operation at its word (R40, R108) -/

/-- A slot operation that its tile issues acts on the tile that it finds, its slot taken. -/
theorem State.slotOp_of_issues {s : State} {p : Slot} {k : SlotKind} (h : s.issues p k = true) (f : Tile → State → State) :
    s.slotOp p k f = f (opTile s p k) ((s.toWord p).setTile p.tile (opTile s p k)) := by
  unfold State.slotOp
  rw [if_pos h]
  rfl

/-- A slot operation on the tile alone changes its tile to `f` of the tile it finds. -/
theorem State.slotTile_of_issues {s : State} {p : Slot} {k : SlotKind} (hc : Canonical s) (h : s.issues p k = true)
    (f : Tile → Tile) : OnlyTile p.tile (s.toWord p) (s.slotTile p k f) ∧ (s.slotTile p k f).tile p.tile = f (opTile s p k) := by
  have hb := hc.held_toWord p
  have hu := hb.setTile p.tile (opTile s p k)
  unfold State.slotTile
  rw [State.slotOp_of_issues h]
  exact ⟨(OnlyTile.setTile hb _ _).trans (OnlyTile.setTile hu _ _), by rw [State.tile_setTile hu.2, if_pos rfl]⟩

/-- A command that is a slot operation on the tile alone completes. -/
theorem completes_slotTile {s : State} {p : Slot} {k : SlotKind} {c : Instr} {f : Tile → Tile} {P : Tile → Prop}
    (hc : Canonical s) (h : s.issues p k = true) (run : exec c s = .next (s.slotTile p k f)) (hP : P (f (opTile s p k))) :
    Completes c s (fun t => OnlyTile p.tile (s.toWord p) t ∧ P (t.tile p.tile)) := by
  obtain ⟨only, tile⟩ := State.slotTile_of_issues hc h f
  exact ⟨_, run, only, tile ▸ hP⟩

/-! ### Results in flight (R73, R74) -/

/-- The result that a tile puts in flight next. -/
def Tile.newLand (t : Tile) (at' prio : Nat) (op : LandOp) : Land := ⟨at', prio, t.seq, op⟩

theorem mem_insertLand {x y : Land} {l : List Land} : y ∈ insertLand x l ↔ y = x ∨ y ∈ l := by
  induction l with
  | nil => simp [insertLand]
  | cons z r ih =>
    simp only [insertLand]
    split
    · exact List.mem_cons
    · rw [List.mem_cons, ih, List.mem_cons]
      tauto

theorem Tile.mem_lands_launch {t : Tile} {at' prio : Nat} {op : LandOp} {y : Land} :
    y ∈ (t.launch at' prio op).lands ↔ y = t.newLand at' prio op ∨ y ∈ t.lands := mem_insertLand

theorem inFlight_launch (t : Tile) (at' prio : Nat) (op : LandOp) : InFlight at' op t (t.launch at' prio op) :=
  ⟨rfl, t.newLand at' prio op, rfl, rfl, fun _ => Tile.mem_lands_launch⟩

theorem adds_nil (t : Tile) : Adds [] t t := ⟨fun _ h => .inl h, fun _ h => h, fun _ h => nomatch h⟩

theorem Adds.launch {l : List (Nat × LandOp)} {t u : Tile} (a : Adds l t u) (at' prio : Nat) (op : LandOp) :
    Adds (l ++ [(at', op)]) t (u.launch at' prio op) := by
  obtain ⟨only, kept, all⟩ := a
  refine ⟨fun y hy => ?_, fun y hy => Tile.mem_lands_launch.2 (.inr (kept y hy)), fun e he => ?_⟩
  · rcases Tile.mem_lands_launch.1 hy with rfl | hy
    · exact .inr (by simp [Tile.newLand])
    · exact (only y hy).imp id (List.mem_append_left _)
  · rcases List.mem_append.1 he with he | he
    · obtain ⟨y, hy, eq⟩ := all e he
      exact ⟨y, Tile.mem_lands_launch.2 (.inr hy), eq⟩
    · exact ⟨u.newLand at' prio op, Tile.mem_lands_launch.2 (.inl rfl), (List.mem_singleton.1 he).symm⟩

theorem adds_launch (t : Tile) (at' prio : Nat) (op : LandOp) : Adds [(at', op)] t (t.launch at' prio op) :=
  (adds_nil t).launch at' prio op

/-! ### Compares (R54, R99) -/

/-- The condition that a code selects; the reserved codes select none. -/
theorem condition_eq_some_true_iff (c : Fin 8) (x y : Word) : condition c x y = some true ↔
    (c = 0 ∧ x = y ∨ c = 1 ∧ x ≠ y ∨ c = 2 ∧ x.toInt < y.toInt ∨ c = 3 ∧ x.toInt ≤ y.toInt ∨
      c = 4 ∧ y.toInt < x.toInt ∨ c = 5 ∧ y.toInt ≤ x.toInt) := by
  fin_cases c <;> simp [condition]

/-- A predicate write of the ALU slot, which K0 as its target does not make (R54). -/
theorem writesPred_aluPred {s : State} {p : Slot} {c : Instr} (hc : Canonical s) (h : s.issues p .alu = true) (kt : Nat)
    (f : Tile → Nat → Bool) (run : exec c s = .next (s.aluPred p kt f)) : WritesPred c s p kt f := by
  refine completes_slotTile (P := fun v => if kt = 0 then v = opTile s p .alu else InFlight _ _ _ v) hc h run ?_
  split
  · rfl
  · exact inFlight_launch _ _ _ _

end Sys2Proof.Machine

section
open Sys2Proof Sys2Proof.Machine

/-- Settles O5: the condition that a code selects is `condition`, so that each operation is its one or two results in flight; the
reserved codes put none in flight. -/
theorem compares : Obligations.Compares := by
  unfold Obligations.Compares
  intro s p d a b c kt hc h
  have code (x y : Word) := condition_eq_some_true_iff c x y
  simp only [← code]
  refine ⟨fun hlt => ?_, fun hlt => ?_, fun hge => ⟨?_, ?_⟩⟩
  · refine writesPred_aluPred hc h kt _ ?_
    simp only [exec, execCmp, if_neg (Nat.not_le.2 hlt)]
  · refine ⟨_, rfl, ?_⟩
    obtain ⟨only, tile⟩ := State.slotTile_of_issues hc h _
    refine ⟨only, ?_⟩
    rw [tile]
    simp only [if_neg (Nat.not_le.2 hlt)]
    split
    · exact inFlight_launch _ _ _ _
    · exact ⟨_, inFlight_launch _ _ _ _, inFlight_launch _ _ _ _⟩
  · refine completes_slotTile (f := id) (P := fun v => v = opTile s p .alu) hc h ?_ rfl
    simp only [exec, execCmp, if_pos hge]
  · refine completes_slotTile (P := fun v => v = opTile s p .alu) hc h rfl ?_
    exact if_pos hge
end

/-!
The memory slots of a tile (R55–R57, R60, R66, R102): the flags of TILE_STICKY with their counters, what a failure of a
grain and the check bits of a read leave, the contribution of a tagged write to BEXP, and a word written to DM.
-/

namespace Sys2Proof.Machine

/-! ### Flags and counters of a tile (R11, R48, R60) -/

theorem bit_setBit_true {i : Nat} (hi : i < 32) (w : Word) (j : Nat) : bit (setBit w i true) j = (bit w j || decide (j = i)) := by
  have mask : BitVec.ofNat 32 (1 <<< i) = BitVec.twoPow 32 i := by
    refine BitVec.eq_of_toNat_eq ?_
    rw [Nat.one_shiftLeft, BitVec.toNat_ofNat, BitVec.toNat_twoPow]
  simp only [bit, setBit, setFld, if_true, Nat.add_sub_cancel_left, Nat.pow_one, Nat.add_one_sub_one, mask,
    BitVec.getLsbD_or, BitVec.getLsbD_and, BitVec.getLsbD_not, BitVec.getLsbD_twoPow]
  by_cases e : j = i
  · simp [e, hi]
  · by_cases hj : j < 32
    · simp [e, Ne.symm e, hj]
    · simp [e, Ne.symm e, BitVec.getLsbD_of_ge w j (by omega)]

theorem forUpTo_succ {σ : Type} (n : Nat) (f : Nat → σ → σ) (s : σ) : forUpTo (n + 1) f s = f n (forUpTo n f s) := by
  simp [forUpTo, List.range_succ]

theorem State.flagTimes_succ (s : State) (n i cnt k : Nat) :
    s.flagTimes n i cnt (k + 1) = (s.flagTimes n i cnt k).sticky (oidTileSticky n) i cnt := forUpTo_succ k _ s

theorem State.ob_setTile (s : State) (n : Nat) (t : Tile) (o : Nat) : (s.setTile n t).ob o = s.ob o := rfl

theorem State.ob_sticky {s : State} (h : mapWf oidDflt s.obj = true) {f i c : Nat} (ne : c ≠ f) (o : Nat) :
    (s.sticky f i c).ob o = if o = c then satInc (s.ob c) else if o = f then setBit (s.ob f) i true else s.ob o := by
  unfold State.sticky State.count
  rw [State.ob_put (State.put_wf h _ _), State.ob_put h, State.ob_put h, if_neg ne]

/-- No event changes the flags and counters of a tile. -/
theorem eventOid_of_tileFlagOid {n o : Nat} (h : tileFlagOid n o = true) : eventOid o = false := by
  simp only [tileFlagOid, decide_eq_true_eq] at h
  simp only [eventOid, decide_eq_false_iff_not]
  omega

theorem tileFlagOid_sticky (n : Nat) : tileFlagOid n (oidTileSticky n) = true := by simp [tileFlagOid]

/-- `cnt` is a counter in the flag block of tile `n`. -/
def CounterOf (n cnt : Nat) : Prop := tileFlagOid n cnt = true ∧ cnt ≠ oidTileSticky n

/-- Of the objects that no event changes, `t` is `b` but for a flag of tile `n` and its counter, set and counted `k` times. -/
structure Counted (n i cnt k : Nat) (b t : State) : Prop where
  flag : TileFlag n i cnt k b t
  bits : ∀ j, j ≠ i → bit (t.ob (oidTileSticky n)) j = bit (b.ob (oidTileSticky n)) j
  objs : ∀ o, o ≠ oidTileSticky n → o ≠ cnt → eventOid o = false → t.ob o = b.ob o

/-- The objects that no event changes read as before. -/
def SameObjs (b t : State) : Prop := ∀ o, eventOid o = false → t.ob o = b.ob o

theorem sameObjs_raise {s : State} (h : mapWf oidDflt s.obj = true) {g i : Nat} (hg : g < 32) (l : List (Nat × Nat)) :
    SameObjs s (s.raise g i l) := fun _ => State.ob_raise h hg

theorem sameObjs_raiseOnce {s : State} (h : mapWf oidDflt s.obj = true) {k g i : Nat} (hg : g < 32) (l : List (Nat × Nat)) :
    SameObjs s (s.raiseOnce k g i l) := fun _ => (leaves_raiseOnce (p := fun _ => false) hg).ob h rfl

theorem counted_refl (n i cnt : Nat) (s : State) : Counted n i cnt 0 s s :=
  ⟨⟨by simp, rfl⟩, fun _ _ => rfl, fun _ _ _ _ => rfl⟩

theorem Counted.then_same {n i cnt k : Nat} {b c d : State} (hc : CounterOf n cnt) (a : Counted n i cnt k b c)
    (h : SameObjs c d) : Counted n i cnt k b d := by
  obtain ⟨⟨flag, count⟩, bits, objs⟩ := a
  have flags := h _ (eventOid_of_tileFlagOid (tileFlagOid_sticky n))
  exact ⟨⟨flags ▸ flag, (h cnt (eventOid_of_tileFlagOid hc.1)).trans count⟩, fun j hj => flags ▸ bits j hj,
    fun o h1 h2 h3 => (h o h3).trans (objs o h1 h2 h3)⟩

theorem Counted.after_same {n i cnt k : Nat} {b c d : State} (h : ∀ o, c.ob o = b.ob o) (a : Counted n i cnt k c d) :
    Counted n i cnt k b d := by
  obtain ⟨flag, bits, objs⟩ := a
  simp only [TileFlag, h] at flag bits objs
  exact ⟨flag, bits, objs⟩

theorem Counted.sticky {n i cnt k : Nat} {b c : State} (hc : CounterOf n cnt) (hi : i < 32)
    (hw : mapWf oidDflt c.obj = true) (a : Counted n i cnt k b c) :
    Counted n i cnt (k + 1) b (c.sticky (oidTileSticky n) i cnt) := by
  obtain ⟨⟨flag, count⟩, bits, objs⟩ := a
  have read := State.ob_sticky (i := i) hw hc.2
  have flags : (c.sticky (oidTileSticky n) i cnt).ob (oidTileSticky n) = setBit (c.ob (oidTileSticky n)) i true := by
    rw [read, if_neg hc.2.symm, if_pos rfl]
  refine ⟨⟨?_, ?_⟩, fun j hj => ?_, fun o h1 h2 h3 => ?_⟩
  · simp [flags, bit_setBit_true hi]
  · simp [read, count, List.range_succ]
  · simp [flags, bit_setBit_true hi, hj, bits j hj]
  · rw [read, if_neg h2, if_neg h1, objs o h1 h2 h3]

/-- Setting a flag `k` times counts `k`. -/
theorem counted_flagTimes {n i cnt : Nat} (hc : CounterOf n cnt) (hi : i < 32) {s : State} (hw : mapWf oidDflt s.obj = true)
    (k : Nat) : Counted n i cnt k s (s.flagTimes n i cnt k) := by
  induction k with
  | zero => exact counted_refl n i cnt s
  | succ k ih =>
    rw [State.flagTimes_succ]
    exact ih.sticky hc hi ((leaves_flagTimes hc.1).wf hw)

/-- Another flag and its counter change neither a flag nor its counter, before it or after it. -/
theorem TileFlag.then_other {n i j cnt c' k m : Nat} {b c d : State} (hc : CounterOf n cnt) (hi : i ≠ j) (ne : cnt ≠ c')
    (a : TileFlag n i cnt k b c) (x : Counted n j c' m c d) : TileFlag n i cnt k b d :=
  ⟨(x.bits i hi).trans a.1, (x.objs cnt hc.2 ne (eventOid_of_tileFlagOid hc.1)).trans a.2⟩

theorem TileFlag.after_other {n i j cnt c' k m : Nat} {b c d : State} (hc : CounterOf n cnt) (hi : i ≠ j) (ne : cnt ≠ c')
    (x : Counted n j c' m b c) (a : TileFlag n i cnt k c d) : TileFlag n i cnt k b d :=
  ⟨x.bits i hi ▸ a.1, x.objs cnt hc.2 ne (eventOid_of_tileFlagOid hc.1) ▸ a.2⟩

/-! ### A failed grain (R60, R83, R526) -/

theorem counterOf_grainFail (n : Nat) : CounterOf n (oidGrainFailCnt n) := by simp [CounterOf, tileFlagOid]

theorem State.failGrain_of_not_failed {s : State} {n : Nat} (h : (s.tile n).failed = false) : s.failGrain n =
    ((s.setTile n { s.tile n with failed := true }).flagTimes n 6 (oidGrainFailCnt n) 1).raise 1 4 [(1, n)] := by
  unfold State.failGrain
  rw [h]
  rfl

/-- A grain is marked failed and counted once; the tile changes in its mark alone. -/
theorem State.failGrain_spec {s : State} (h : s.Held) (n : Nat) :
    Counted n 6 (oidGrainFailCnt n) (if (s.tile n).failed = true then 0 else 1) s (s.failGrain n) ∧
    (s.failGrain n).tile n = { s.tile n with failed := true } ∧ (s.failGrain n).faultQ = s.faultQ := by
  have hc := counterOf_grainFail n
  by_cases f : (s.tile n).failed = true
  · have same : s.failGrain n = s := if_pos f
    rw [if_pos f, same, ← f]
    exact ⟨counted_refl .., rfl, rfl⟩
  · rw [if_neg f, State.failGrain_of_not_failed (Bool.eq_false_iff.2 f)]
    have hu := h.setTile n { s.tile n with failed := true }
    have flagged := leaves_flagTimes (i := 6) (k := 1) (s := s.setTile n { s.tile n with failed := true }) hc.1
    have all := flagged.trans (leaves_raise (g := 1) (i := 4) (l := [(1, n)]) (by decide))
    have count := counted_flagTimes (i := 6) hc (by decide) hu.1 1
    refine ⟨(count.after_same (State.ob_setTile s n _)).then_same hc
      (sameObjs_raise (g := 1) (flagged.wf hu.1) (by decide) _), ?_, all.faultQ⟩
    rw [all.tile, State.tile_setTile h.2, if_pos rfl]

theorem mem_insertFault_self (e : Nat × Nat) (l : List (Nat × Nat)) : e ∈ insertFault e l := by
  induction l with
  | nil => simp [insertFault]
  | cons f r ih =>
    simp only [insertFault]
    split
    · exact List.mem_cons_self
    · exact List.mem_cons_of_mem _ ih

/-- A failure of a class fails the grain, counted once, and is noted if it is the first of its class. -/
theorem State.failure_spec {s : State} (h : s.Held) (n cls loc : Nat) :
    Counted n 6 (oidGrainFailCnt n) (if (s.tile n).failed = true then 0 else 1) s (s.failure n cls loc) ∧
    Fails n cls loc s (s.failure n cls loc) ∧
    ∃ l, (s.failure n cls loc).tile n = { s.tile n with failed := true, fails := l } := by
  obtain ⟨count, tile, -⟩ := State.failGrain_spec h n
  have hg := (withinTile_failGrain s n h).1
  by_cases met : ((s.failGrain n).tile n).fails.contains cls = true
  · have same : s.failure n cls loc = s.failGrain n := if_pos met
    rw [same]
    refine ⟨count, ⟨by rw [tile], met, count.flag, fun first => ?_⟩, _, tile⟩
    rw [tile] at met
    exact absurd (met.symm.trans first) (by decide)
  · have fresh : s.failure n cls loc = ((s.failGrain n).setTile n
        { (s.failGrain n).tile n with fails := cls :: ((s.failGrain n).tile n).fails }).noteFault cls (n * 2 ^ 21 + loc) :=
      if_neg met
    have tile' : (s.failure n cls loc).tile n = { s.tile n with failed := true, fails := cls :: (s.tile n).fails } := by
      rw [fresh]
      refine (State.tile_setTile hg.2 n n _).trans ?_
      rw [if_pos rfl, tile]
    have count' : Counted n 6 (oidGrainFailCnt n) (if (s.tile n).failed = true then 0 else 1) s (s.failure n cls loc) := by
      rw [fresh]
      exact count.then_same (counterOf_grainFail n) (fun _ _ => rfl)
    refine ⟨count', ⟨by rw [tile'], by rw [tile']; simp, count'.flag, fun _ => ?_⟩, _, tile'⟩
    rw [fresh]
    exact mem_insertFault_self _ _

/-! ### The check bits of a read (R60) -/

theorem byte_eq_zero_iff (m : Byte) : m = 0 ↔ ∀ l, l < 8 → m.getLsbD l = false := by
  refine ⟨fun h l _ => by simp [h], fun h => BitVec.eq_of_getLsbD_eq fun l hl => ?_⟩
  simpa using h l hl

theorem laneCount_eq_zero_iff (m : Byte) : laneCount m = 0 ↔ m = 0 := by
  have count (k : Nat) : (List.range k).foldl (fun n l => if m.getLsbD l then n + 1 else n) 0 = 0 ↔
      ∀ l, l < k → m.getLsbD l = false := by
    induction k with
    | zero => simp
    | succ k ih =>
      simp only [List.range_succ, List.foldl_append, List.foldl_cons, List.foldl_nil, Nat.forall_lt_succ_right, ← ih]
      cases m.getLsbD k <;> simp
  exact (count 8).trans (byte_eq_zero_iff m).symm

theorem counterOf_dmCe (n : Nat) : CounterOf n (oidDmCeCnt n) := by simp [CounterOf, tileFlagOid]

theorem counterOf_dmUe (n : Nat) : CounterOf n (oidDmUeCnt n) := by simp [CounterOf, tileFlagOid]

theorem counted_eccCe {s : State} (hw : mapWf oidDflt s.obj = true) (n k : Nat) :
    Counted n 1 (oidDmCeCnt n) k s (s.eccCe n k false) := by
  have hc := counterOf_dmCe n
  rw [State.eccCe_eq]
  split
  · next e => exact e ▸ counted_refl ..
  · exact (counted_flagTimes hc (by decide) hw k).then_same hc
      (sameObjs_raiseOnce ((leaves_flagTimes hc.1).wf hw) (by decide) _)

/-- Uncorrectable DM errors are flagged and counted, and an event tells of them, before the grain fails. -/
def State.dmUeFlagged (s : State) (n k : Nat) : State := (s.flagTimes n 2 (oidDmUeCnt n) k).raise 1 2 [(1, n)]

theorem State.eccUe_dm {s : State} {n k a : Nat} (h : k ≠ 0) : s.eccUe n k false a = (s.dmUeFlagged n k).failure n 2 a := by
  rw [State.eccUe_eq, if_neg h]
  rfl

theorem leaves_dmUeFlagged (s : State) (n k : Nat) : Leaves (tileFlagOid n) s (s.dmUeFlagged n k) :=
  (leaves_flagTimes (counterOf_dmUe n).1).trans (leaves_raise (by decide))

theorem counted_dmUeFlagged {s : State} (hw : mapWf oidDflt s.obj = true) (n k : Nat) :
    Counted n 2 (oidDmUeCnt n) k s (s.dmUeFlagged n k) :=
  (counted_flagTimes (counterOf_dmUe n) (by decide) hw k).then_same (counterOf_dmUe n)
    (sameObjs_raise ((leaves_flagTimes (counterOf_dmUe n).1).wf hw) (by decide) _)

/-- What the check bits of a DM read at `a` report of the lanes that it takes, from `b` to `t`. -/
structure ReadReport (n a : Nat) (ce ue : Byte) (b t : State) : Prop where
  errs : TileErrs n b t
  ceFlag : TileFlag n 1 (oidDmCeCnt n) (laneCount ce) b t
  ueFlag : TileFlag n 2 (oidDmUeCnt n) (laneCount ue) b t
  bits : ∀ i, i ≠ 1 → i ≠ 2 → i ≠ 6 → bit (t.ob (oidTileSticky n)) i = bit (b.ob (oidTileSticky n)) i
  clean : ue = 0 → t.tile n = b.tile n ∧ t.faultQ = b.faultQ ∧
    bit (t.ob (oidTileSticky n)) 6 = bit (b.ob (oidTileSticky n)) 6
  fails : ue ≠ 0 → Fails n 2 a b t ∧ ∃ l, t.tile n = { b.tile n with failed := true, fails := l }

/-- Without an uncorrectable lane a read reports its corrected lanes alone. -/
theorem State.readEcc_clean {s : State} {n a : Nat} {ce ue : Byte} (h : ue = 0) :
    s.readEcc n a ce ue = s.eccCe n (laneCount ce) false := if_pos ((laneCount_eq_zero_iff ue).2 h)

theorem State.readEcc_report {s : State} (h : s.Held) (n a : Nat) (ce ue : Byte) :
    ReadReport n a ce ue s (s.readEcc n a ce ue) := by
  have errs : TileErrs n s (s.readEcc n a ce ue) :=
    (((leaves_eccCe s n _ false).withinTile).trans (withinTile_eccUe _ n _ false a) h).2
  have ceLeaves := leaves_eccCe s n (laneCount ce) false
  have ceCount := counted_eccCe h.1 n (laneCount ce)
  have hce := counterOf_dmCe n
  have hue := counterOf_dmUe n
  by_cases hu : ue = 0
  · rw [State.readEcc_clean hu] at errs ⊢
    refine ⟨errs, ceCount.flag, ?_, fun i h1 _ _ => ceCount.bits i h1,
      fun _ => ⟨ceLeaves.tile n, ceLeaves.faultQ, ceCount.bits 6 (by decide)⟩, fun ne => absurd hu ne⟩
    rw [(laneCount_eq_zero_iff ue).2 hu]
    exact TileFlag.after_other hue (by decide) (by simp) ceCount (counted_refl ..).flag
  · have run : s.readEcc n a ce ue = _ := State.eccUe_dm (mt (laneCount_eq_zero_iff ue).1 hu)
    rw [run] at errs ⊢
    have hd := ceLeaves.held h
    have ueLeaves := leaves_dmUeFlagged (s.eccCe n (laneCount ce) false) n (laneCount ue)
    have ueCount := counted_dmUeFlagged hd.1 n (laneCount ue)
    obtain ⟨count, ⟨failed, contains, flag, noted⟩, tile⟩ := State.failure_spec (ueLeaves.held hd) n 2 a
    have before : ((s.eccCe n (laneCount ce) false).dmUeFlagged n (laneCount ue)).tile n = s.tile n :=
      (ueLeaves.tile n).trans (ceLeaves.tile n)
    rw [before] at flag noted tile
    refine ⟨errs, ?_, ?_, fun i h1 h2 h6 => ?_, fun e => absurd e hu, fun _ => ⟨⟨failed, contains, ?_, noted⟩, tile⟩⟩
    · exact (ceCount.flag.then_other hce (by decide) (by simp) ueCount).then_other hce (by decide) (by simp) count
    · exact (TileFlag.after_other hue (by decide) (by simp) ceCount ueCount.flag).then_other hue (by decide) (by simp) count
    · rw [count.bits i h6, ueCount.bits i h2, ceCount.bits i h1]
    · exact TileFlag.after_other (counterOf_grainFail n) (by decide) (by simp) ceCount
        (TileFlag.after_other (counterOf_grainFail n) (by decide) (by simp) ueCount flag)

/-! ### A read at its word (R56, R57, R60) -/

/-- A slot operation that puts the lanes `f` of a DM read in flight for t + 3, and then reports what the check bits of the
address of set `set` say of the lanes taken, completes. -/
theorem completes_read {s : State} {p : Slot} {k : SlotKind} {c : Instr} {prio : Nat} {set : Fin 16} {d : Fin 32} {e : Ecc}
    {f : Tile → Nat → Word} {taken : Tile → Byte} (hc : Canonical s) (h : s.issues p k = true)
    (run : exec c s = .next (s.slotOp p k (fun t u =>
      (u.setTile p.tile (t.launch (t.cyc + 3) prio (.reg d (t.mask p.pred) (lanes (f t))))).readEcc p.tile
        (t.as' set).addr (e.ce &&& taken t) (e.ue &&& taken t)))) :
    let b := s.toWord p
    let n : Nat := p.tile
    let u := opTile s p k
    Completes c s (fun t => TileErrs n b t ∧ TileFlag n 1 (oidDmCeCnt n) (laneCount (e.ce &&& taken u)) b t ∧
      TileFlag n 2 (oidDmUeCnt n) (laneCount (e.ue &&& taken u)) b t ∧
      (∀ i, i = 0 ∨ 3 ≤ i ∧ i < 6 ∨ 7 ≤ i → bit (t.ob (oidTileSticky n)) i = bit (b.ob (oidTileSticky n)) i) ∧
      Adds [(u.cyc + 3, .reg d (u.mask p.pred) (lanes (f u)))] u (t.tile n) ∧
      if e.ue &&& taken u = 0 then t.tile n = { u with lands := (t.tile n).lands, seq := (t.tile n).seq } ∧
          t.faultQ = b.faultQ ∧ bit (t.ob (oidTileSticky n)) 6 = bit (b.ob (oidTileSticky n)) 6
        else Fails n 2 (u.as' set).addr b t ∧
          t.tile n = { u with lands := (t.tile n).lands, seq := (t.tile n).seq, failed := true, fails := (t.tile n).fails }) := by
  intro b n u
  let v := u.launch (u.cyc + 3) prio (.reg d (u.mask p.pred) (lanes (f u)))
  have hb := hc.held_toWord p
  have hu := hb.setTile n u
  have launched : ((b.setTile n u).setTile n v).tile n = v := by rw [State.tile_setTile hu.2, if_pos rfl]
  have flight : Adds [(u.cyc + 3, .reg d (u.mask p.pred) (lanes (f u)))] u v := adds_launch _ _ _ _
  obtain ⟨errs, ceFlag, ueFlag, bits, clean, fails⟩ :=
    State.readEcc_report (hu.setTile n v) n (u.as' set).addr (e.ce &&& taken u) (e.ue &&& taken u)
  rw [launched] at clean fails
  rw [State.slotOp_of_issues h] at run
  refine ⟨_, run, ?_, ceFlag, ueFlag, fun i hi => bits i (by omega) (by omega) (by omega), ?_⟩
  · exact ((withinTile_setTile n b u hb).2.trans (withinTile_setTile n _ v hu).2).trans errs
  · split
    · next intact =>
      obtain ⟨tile, faults, six⟩ := clean intact
      rw [tile]
      exact ⟨flight, rfl, faults, six⟩
    · next lost =>
      obtain ⟨⟨failed, contains, flag, noted⟩, l, tile⟩ := fails lost
      rw [launched] at flag noted
      refine ⟨?_, ⟨failed, contains, flag, noted⟩, ?_⟩ <;> rw [tile]
      · exact flight
      · rfl

/-! ### A tagged write (R66) -/

theorem leadSign_le (w : Word) : leadSign w ≤ 31 := Nat.sub_le _ _

/-- The least of 31 and the values of `f` in the lanes below `n` of a mask. -/
def leastLane (m : Byte) (f : Nat → Nat) (n : Nat) : Nat :=
  (List.range n).foldl (fun b l => if m.getLsbD l then min b (f l) else b) 31

theorem leastLane_succ (m : Byte) (f : Nat → Nat) (n : Nat) :
    leastLane m f (n + 1) = if m.getLsbD n = true then min (leastLane m f n) (f n) else leastLane m f n := by
  simp [leastLane, List.range_succ]

theorem leastLane_le (m : Byte) (f : Nat → Nat) (n : Nat) :
    leastLane m f n ≤ 31 ∧ ∀ l, l < n → m.getLsbD l = true → leastLane m f n ≤ f l := by
  induction n with
  | zero => simp [leastLane]
  | succ n ih =>
    rw [leastLane_succ]
    refine ⟨by split <;> omega, fun l hl hm => ?_⟩
    by_cases e : l = n
    · subst e
      rw [if_pos hm]
      exact min_le_right _ _
    · have := ih.2 l (by omega) hm
      split <;> omega

theorem leastLane_attained (m : Byte) (f : Nat → Nat) (n : Nat) :
    leastLane m f n = 31 ∨ ∃ l, l < n ∧ m.getLsbD l = true ∧ leastLane m f n = f l := by
  induction n with
  | zero => exact .inl rfl
  | succ n ih =>
    rw [leastLane_succ]
    split
    · next hm =>
      rcases min_choice (leastLane m f n) (f n) with e | e
      · rw [e]
        exact ih.imp id fun ⟨l, hl, h⟩ => ⟨l, by omega, h⟩
      · exact .inr ⟨n, by omega, hm, e⟩
    · exact ih.imp id fun ⟨l, hl, h⟩ => ⟨l, by omega, h⟩

/-- In a mask that names a lane, the least of values up to 31 is the value of a lane. -/
theorem leastLane_mem {m : Byte} (hm : m ≠ 0) {f : Nat → Nat} (hf : ∀ l, f l ≤ 31) :
    ∃ l, l < 8 ∧ m.getLsbD l = true ∧ leastLane m f 8 = f l := by
  rcases leastLane_attained m f 8 with e | h
  · obtain ⟨l, hl, on⟩ : ∃ l, l < 8 ∧ m.getLsbD l = true := by
      simpa using mt (byte_eq_zero_iff m).2 hm
    have := (leastLane_le m f 8).2 l hl on
    exact ⟨l, hl, on, le_antisymm this (e ▸ hf l)⟩
  · exact h

/-- A tagged write of a slot that takes effect in some lane contributes the least leading-sign count of those lanes. -/
theorem execWrt_eq (p : Slot) (set : Fin 16) (d : Fin 32) (s : State) :
    execWrt p set d s = .next (s.slotTile p .mem1 (fun t =>
      if t.mask p.pred = 0 then t.memWrite p.pred set d
      else (t.memWrite p.pred set d).launch (t.cyc + 3) 0
        (.bexp (leastLane (t.mask p.pred) (fun l => leadSign (t.dr d l)) 8)))) := rfl

/-! ### A word written to DM (R56) -/

/-- The first `k` lanes of a DM write. -/
def Tile.setDmLanes (t : Tile) (a : Nat) (m : Byte) (vals : List Word) (k : Nat) : Tile :=
  forUpTo k (fun l t =>
    if m.getLsbD l then { t with dm := mapSet (fun _ => 0) t.dm (8 * (a % 16384) + l) (nth 0 vals l) } else t) t

theorem Tile.setDm_eq (t : Tile) (a : Nat) (m : Byte) (vals : List Word) : t.setDm a m vals = t.setDmLanes a m vals 8 := rfl

theorem Tile.setDmLanes_succ (t : Tile) (a : Nat) (m : Byte) (vals : List Word) (k : Nat) :
    t.setDmLanes a m vals (k + 1) =
      if m.getLsbD k = true then { t.setDmLanes a m vals k with
        dm := mapSet (fun _ => 0) (t.setDmLanes a m vals k).dm (8 * (a % 16384) + k) (nth 0 vals k) }
      else t.setDmLanes a m vals k := forUpTo_succ k _ t

theorem Tile.setDmLanes_wf {t : Tile} (h : mapWf (fun _ => (0 : Word)) t.dm = true) (a : Nat) (m : Byte) (vals : List Word)
    (k : Nat) : mapWf (fun _ => (0 : Word)) (t.setDmLanes a m vals k).dm = true := by
  induction k with
  | zero => exact h
  | succ k ih =>
    rw [Tile.setDmLanes_succ]
    split
    · exact mapSet_wf _ _ _ _ ih
    · exact ih

theorem Tile.dmw_setDmLanes_succ {t : Tile} (h : mapWf (fun _ => (0 : Word)) t.dm = true) {a : Nat} (ha : a < 16384)
    (m : Byte) (vals : List Word) {k : Nat} (hk : k < 8) (b : Nat) {l : Nat} (hl : l < 8) :
    (t.setDmLanes a m vals (k + 1)).dmw b l =
      if m.getLsbD k = true ∧ b = a ∧ l = k then nth 0 vals k else (t.setDmLanes a m vals k).dmw b l := by
  have key : 8 * b + l = 8 * (a % 16384) + k ↔ b = a ∧ l = k := by omega
  rw [Tile.setDmLanes_succ]
  split
  · next on =>
    refine (mapGet_mapSet _ (Tile.setDmLanes_wf h a m vals k) _ _ _).trans (if_congr ?_ rfl rfl)
    rw [key]
    simp [on]
  · next off => rw [if_neg fun c => off c.1]

theorem Tile.dmw_setDmLanes {t : Tile} (h : mapWf (fun _ => (0 : Word)) t.dm = true) {a : Nat} (ha : a < 16384) (m : Byte)
    (vals : List Word) {k : Nat} (hk : k ≤ 8) (b : Nat) {l : Nat} (hl : l < 8) :
    (t.setDmLanes a m vals k).dmw b l = if b = a ∧ l < k ∧ m.getLsbD l = true then nth 0 vals l else t.dmw b l := by
  induction k with
  | zero => simp [setDmLanes, forUpTo]
  | succ k ih =>
    rw [Tile.dmw_setDmLanes_succ h ha m vals hk b hl, ih (by omega)]
    by_cases e : l = k
    · subst e
      simp [and_comm]
    · have lt : l < k + 1 ↔ l < k := by omega
      simp [e, lt]

end Sys2Proof.Machine

section
open Sys2Proof Sys2Proof.Machine

/-- Settles O9: a read is its result in flight and the report of its check bits; a write is its word in flight, which lands by
`Tile.setDm`, and if tagged the least leading-sign count of the lanes where it takes effect. -/
theorem memorySlots : Obligations.MemorySlots := by
  unfold Obligations.MemorySlots
  refine ⟨fun s p m1 k d lane e hc => ⟨fun κ hκ h => ?_, fun h => ?_, fun h => ⟨?_, ?_⟩⟩, fun t a m vals hw ha => ?_⟩
  · subst hκ
    exact completes_read (f := fun t => t.dmRead (t.as' k).addr e) (taken := fun t => t.mask p.pred) hc h rfl
  · exact completes_read (f := fun t _ => t.dmRead (t.as' k).addr e lane)
      (taken := fun t => if t.mask p.pred = 0 then 0 else BitVec.ofNat 8 (2 ^ lane.val)) hc h rfl
  · exact completes_slotTile (P := InFlight _ _ _) hc h rfl (inFlight_launch _ _ _ _)
  · refine ⟨_, execWrt_eq p k d s, ?_⟩
    obtain ⟨only, tile⟩ := State.slotTile_of_issues hc h _
    refine ⟨only, ?_⟩
    rw [tile]
    dsimp only
    split
    · exact ⟨rfl, adds_launch _ _ _ _⟩
    · next acts =>
      exact ⟨rfl, _, (adds_launch _ _ _ _).launch _ _ _, (leastLane_le _ _ 8).2,
        leastLane_mem acts fun _ => leadSign_le _⟩
  · exact ⟨Tile.setDmLanes_wf hw a m vals 8, fun b l _ hl => by
      rw [Tile.setDm_eq, Tile.dmw_setDmLanes hw ha m vals le_rfl b hl]
      simp [hl]⟩
end

/-!
The ALU slot's shifts by a register (R48, R53, R96, R98): shifts as arithmetic on their operands, what saturates a result, the
saturations of a tile's lanes, and an ALU operation at its word.
-/

namespace Sys2Proof.Machine

/-! ### Shifts as arithmetic (R53, R98) -/

theorem fld_low_five (w : Word) : fld w 4 0 = w.toNat % 32 := rfl

theorem shiftLeft_eq_ofNat (w : Word) (n : Nat) : w <<< n = BitVec.ofNat 32 (w.toNat * 2 ^ n) :=
  BitVec.eq_of_toNat_eq (by rw [BitVec.toNat_shiftLeft, BitVec.toNat_ofNat, Nat.shiftLeft_eq])

theorem ushiftRight_eq_ofNat (w : Word) (n : Nat) : w >>> n = BitVec.ofNat 32 (w.toNat / 2 ^ n) := by
  rw [← Nat.shiftRight_eq_div_pow, ← BitVec.toNat_ushiftRight, BitVec.ofNat_toNat, BitVec.setWidth_eq]

theorem sshiftRight_eq_ofInt (w : Word) (n : Nat) : w.sshiftRight n = BitVec.ofInt 32 (w.toInt / 2 ^ n) := by
  rw [BitVec.sshiftRight, Int.shiftRight_eq_div_pow]
  norm_cast

/-- RNE gives the quotient toward −∞ or the next integer. -/
theorem rneShift_eq_or (i : Int) {k : Nat} (hk : k ≠ 0) : rneShift i k = i / 2 ^ k ∨ rneShift i k = i / 2 ^ k + 1 := by
  unfold rneShift
  rw [if_neg hk]
  dsimp only
  split_ifs <;> simp

/-- A word shifted right with RNE stays in the range of a word. -/
theorem not_outside_rneShift (w : Word) (k : Nat) : ¬Outside (rneShift w.toInt k) := by
  have lo := BitVec.le_toInt w
  have hi := BitVec.toInt_lt (x := w)
  unfold Outside
  by_cases hk : k = 0
  · rw [rneShift, if_pos hk]
    omega
  · have two : (2 : Int) ≤ 2 ^ k := by exact_mod_cast Nat.le_self_pow hk 2
    have pos : (0 : Int) < 2 ^ k := by omega
    have qlo : -2 ^ 31 ≤ w.toInt / 2 ^ k := (Int.le_ediv_iff_mul_le pos).2 (by omega)
    have qhi : w.toInt / 2 ^ k < 2 ^ 30 := (Int.ediv_lt_iff_lt_mul pos).2 (by omega)
    rcases rneShift_eq_or w.toInt hk with e | e <;> omega

/-! ### Saturation of a result (R48, R53) -/

theorem sat32_fst (x : Int) : (sat32 x).1 = BitVec.ofInt 32 (max (-2 ^ 31) (min (2 ^ 31 - 1) x)) := rfl

theorem sat32_snd_iff (x : Int) : (sat32 x).2 = true ↔ Outside x := by
  unfold sat32 satInt Outside
  simp only [decide_eq_true_eq]
  omega

theorem sat32_of_not_outside {x : Int} (h : ¬Outside x) : sat32 x = (wdI x, false) := by
  refine Prod.ext ?_ (Bool.eq_false_iff.2 (mt (sat32_snd_iff x).1 h))
  unfold Outside at h
  rw [sat32_fst, min_eq_right (by omega), max_eq_right (by omega)]
  rfl

/-- ASHV saturates the exact left shift, or the right shift with RNE, which never saturates (R98). -/
theorem shiftSigned_eq_sat32 (a b : Word) : shiftSigned a b =
    sat32 (let k := (b.setWidth 6).toInt
      if 0 ≤ k then a.toInt * 2 ^ k.toNat else rneShift a.toInt (min 31 (-k).toNat)) := by
  unfold shiftSigned
  dsimp only
  split
  · rfl
  · exact (sat32_of_not_outside (not_outside_rneShift a _)).symm

/-! ### Lanes and their masks (R91) -/

theorem nth_lanes {α : Type} (d : α) (f : Nat → α) {l : Nat} (hl : l < 8) : nth d (lanes f) l = f l := by
  simp [nth, lanes, List.getD_eq_getElem?_getD, hl]

theorem map_lanes {α β : Type} (g : α → β) (f : Nat → α) : (lanes f).map g = lanes (fun l => g (f l)) := by
  simp [lanes]

/-- The number whose bit `l` is `f l` in the lanes below `n`. -/
def laneSum (f : Nat → Bool) (n : Nat) : Nat := (List.range n).foldl (fun a l => a + (if f l then 2 ^ l else 0)) 0

theorem laneMask_eq (f : Nat → Bool) : laneMask f = BitVec.ofNat 8 (laneSum f 8) := rfl

theorem laneSum_succ (f : Nat → Bool) (n : Nat) : laneSum f (n + 1) = laneSum f n + 2 ^ n * (f n).toNat := by
  cases h : f n <;> simp [laneSum, List.range_succ, h]

theorem laneSum_lt (f : Nat → Bool) (n : Nat) : laneSum f n < 2 ^ n := by
  induction n with
  | zero => simp [laneSum]
  | succ n ih =>
    rw [laneSum_succ]
    cases f n <;> simp [Nat.pow_succ] <;> omega

theorem testBit_laneSum (f : Nat → Bool) {n l : Nat} (hl : l < n) : (laneSum f n).testBit l = f l := by
  induction n with
  | zero => omega
  | succ n ih =>
    rw [laneSum_succ, Nat.add_comm, Nat.testBit_two_pow_mul_add _ (laneSum_lt f n)]
    split
    · next below => exact ih below
    · next top =>
      obtain rfl : l = n := by omega
      cases f l <;> simp

theorem getLsbD_laneMask (f : Nat → Bool) {l : Nat} (hl : l < 8) : (laneMask f).getLsbD l = f l := by
  rw [laneMask_eq, BitVec.getLsbD_ofNat, testBit_laneSum f hl]
  simp [hl]

/-! ### The saturations of a tile's lanes (R48) -/

theorem oidSatCnt_eq_iff (n l k : Nat) : oidSatCnt n l = oidSatCnt n k ↔ l = k := Nat.add_left_cancel_iff

theorem oidSatCnt_ne_sticky (n l : Nat) : oidSatCnt n l ≠ oidTileSticky n := by
  unfold oidSatCnt oidTileSticky
  omega

/-- `t` is `b` but for the saturations of the lanes that `on` names: each has set its SAT bit and counted one more. -/
structure LanesSaturated (n : Nat) (on : Nat → Bool) (b t : State) : Prop where
  rest : t = { b with obj := t.obj }
  wf : mapWf oidDflt t.obj = true
  bits : ∀ i, bit (t.ob (oidTileSticky n)) i = (bit (b.ob (oidTileSticky n)) i || (decide (8 ≤ i) && on (i - 8)))
  counts : ∀ l, l < 8 → t.ob (oidSatCnt n l) = if on l = true then satInc (b.ob (oidSatCnt n l)) else b.ob (oidSatCnt n l)
  objs : ∀ o, o ≠ oidTileSticky n → (∀ l, l < 8 → o ≠ oidSatCnt n l) → t.ob o = b.ob o

theorem lanesSaturated_none {s : State} (h : mapWf oidDflt s.obj = true) (n : Nat) : LanesSaturated n (fun _ => false) s s :=
  ⟨rfl, h, fun i => by simp, fun l _ => by simp, fun _ _ _ => rfl⟩

/-- What the saturation of one lane leaves of the flags and counters. -/
theorem State.ob_satLane {s : State} (h : mapWf oidDflt s.obj = true) (n l o : Nat) : (s.satLane n l).ob o =
    if o = oidSatCnt n l then satInc (s.ob (oidSatCnt n l))
    else if o = oidTileSticky n then setBit (s.ob (oidTileSticky n)) (8 + l) true else s.ob o :=
  State.ob_sticky h (oidSatCnt_ne_sticky n l) o

/-- One more lane saturates. -/
theorem LanesSaturated.satLane {n k : Nat} {on : Nat → Bool} {b c : State} (a : LanesSaturated n on b c) (hk : k < 8)
    (off : on k = false) : LanesSaturated n (fun l => on l || decide (l = k)) b (c.satLane n k) := by
  obtain ⟨rest, wf, bits, counts, objs⟩ := a
  have read := State.ob_satLane wf n k
  refine ⟨?_, State.put_wf (State.put_wf wf _ _) _ _, fun i => ?_, fun l hl => ?_, fun o hs hc => ?_⟩
  · have same : c.satLane n k = { c with obj := (c.satLane n k).obj } := rfl
    rw [same, rest]
  · have lane : decide (i = 8 + k) = (decide (8 ≤ i) && decide (i - 8 = k)) := by
      rw [← Bool.decide_and]
      exact decide_eq_decide.2 (by omega)
    rw [read, if_neg (oidSatCnt_ne_sticky n k).symm, if_pos rfl, bit_setBit_true (by omega), bits, lane, Bool.or_assoc,
      ← Bool.and_or_distrib_left]
  · simp only [read, oidSatCnt_eq_iff, oidSatCnt_ne_sticky, if_false, counts l hl]
    by_cases e : l = k
    · subst e
      simp [counts l hl, off]
    · simp [e]
  · rw [read, if_neg (hc k hk), if_neg hs, objs o hs hc]

/-- The lanes of a mask below `k`. -/
def lanesBelow (m : Byte) (k l : Nat) : Bool := decide (l < k) && m.getLsbD l

theorem lanesBelow_succ (m : Byte) (k : Nat) :
    lanesBelow m (k + 1) = if m.getLsbD k = true then fun l => lanesBelow m k l || decide (l = k) else lanesBelow m k := by
  funext l
  by_cases e : l = k
  · subst e
    split <;> simp_all [lanesBelow]
  · have lt : l < k + 1 ↔ l < k := by omega
    split <;> simp [lanesBelow, e, lt]

theorem lanesBelow_eight (m : Byte) : lanesBelow m 8 = m.getLsbD := by
  funext l
  by_cases hl : l < 8
  · simp [lanesBelow, hl]
  · simp [lanesBelow, hl, BitVec.getLsbD_of_ge m l (by omega)]

/-- The lanes of a mask saturate, each once. -/
theorem lanesSaturated_satLanes {s : State} (h : mapWf oidDflt s.obj = true) (n : Nat) (m : Byte) :
    LanesSaturated n m.getLsbD s (s.satLanes n m) := by
  have below (k : Nat) (hk : k ≤ 8) :
      LanesSaturated n (lanesBelow m k) s (forUpTo k (fun l u => if m.getLsbD l then u.satLane n l else u) s) := by
    induction k with
    | zero => exact lanesSaturated_none h n
    | succ k ih =>
      have ih := ih (by omega)
      rw [forUpTo_succ, lanesBelow_succ]
      split
      · exact ih.satLane (by omega) (by simp [lanesBelow])
      · exact ih
  exact lanesBelow_eight m ▸ below 8 le_rfl

/-- The lanes named are those where `hit` holds. -/
theorem LanesSaturated.satLanes {n : Nat} {on : Nat → Bool} {b t : State} (a : LanesSaturated n on b t) {hit : Nat → Prop}
    (same : ∀ l, l < 8 → (on l = true ↔ hit l)) : SatLanes n hit b t := by
  intro l hl
  rw [a.bits, a.counts l hl, Nat.add_sub_cancel_left, ← same l hl]
  cases on l <;> simp

/-! ### An ALU operation at its word (R53, R73, R96) -/

/-- An ALU operation without saturation is its result in flight. -/
theorem writesReg_aluReg {s : State} {p : Slot} {c : Instr} {d lat : Nat} {f g : Tile → Nat → Word} (hc : Canonical s)
    (h : s.issues p .alu = true) (run : exec c s = .next (s.aluReg p d lat f)) (same : ∀ u l, f u l = g u l) :
    WritesReg c s p .alu d lat g := by
  obtain rfl : f = g := funext fun u => funext (same u)
  exact completes_slotTile (P := InFlight _ _ _) hc h run (inFlight_launch _ _ _ _)

/-- The tile of an ALU operation whose exact lane result `x` saturates, its result in flight. -/
def Tile.aluSat (u : Tile) (p : Slot) (d lat : Nat) (x : Tile → Nat → Int) : Tile :=
  u.launch (u.cyc + lat) prAlu
    (.reg d (u.mask p.pred) (lanes (fun l => BitVec.ofInt 32 (max (-2 ^ 31) (min (2 ^ 31 - 1) (x u l))))))

/-- The lanes of an ALU operation that saturate: those that take effect with an exact result out of range. -/
def Tile.satMask (u : Tile) (p : Slot) (x : Tile → Nat → Int) : Byte :=
  laneMask (fun l => (u.mask p.pred).getLsbD l && (nth (0, false) (lanes (fun l => sat32 (x u l))) l).2)

theorem Tile.getLsbD_satMask (u : Tile) (p : Slot) (x : Tile → Nat → Int) {l : Nat} (hl : l < 8) :
    (u.satMask p x).getLsbD l = true ↔ (u.mask p.pred).getLsbD l = true ∧ Outside (x u l) := by
  rw [Tile.satMask, getLsbD_laneMask _ hl, nth_lanes _ _ hl, Bool.and_eq_true, sat32_snd_iff]

/-- An ALU operation that saturates puts its result in flight, and then its lanes saturate. -/
theorem State.aluSat_of_issues {s : State} {p : Slot} (h : s.issues p .alu = true) (d lat : Nat) (x : Tile → Nat → Int) :
    s.aluSat p d lat (fun u l => sat32 (x u l)) =
      (s.slotTile p .alu (fun u => u.aluSat p d lat x)).satLanes p.tile ((opTile s p .alu).satMask p x) := by
  unfold State.aluSat State.slotTile
  rw [State.slotOp_of_issues h, State.slotOp_of_issues h]
  dsimp only
  rw [map_lanes]
  rfl

theorem OnlyTile.ob {n : Nat} {s t : State} (a : OnlyTile n s t) (o : Nat) : t.ob o = s.ob o := by
  rw [a.1]
  rfl

theorem OnlyTile.wf {n : Nat} {s t : State} (a : OnlyTile n s t) (h : mapWf oidDflt s.obj = true) :
    mapWf oidDflt t.obj = true := by
  rw [a.1]
  exact h

theorem LanesSaturated.tile {n : Nat} {on : Nat → Bool} {b t : State} (a : LanesSaturated n on b t) (m : Nat) :
    t.tile m = b.tile m := by
  rw [a.rest]
  rfl

/-- An ALU operation that saturates is its result in flight and the saturations of the lanes that take effect. -/
theorem writesSat_aluSat {s : State} {p : Slot} {c : Instr} {d lat : Nat} {f : Tile → Nat → Word × Bool}
    {x : Tile → Nat → Int} (hc : Canonical s) (h : s.issues p .alu = true)
    (run : exec c s = .next (s.aluSat p d lat f)) (same : ∀ u l, f u l = sat32 (x u l)) : WritesSat c s p d lat x := by
  obtain rfl : f = fun u l => sat32 (x u l) := funext fun u => funext (same u)
  obtain ⟨only, tile⟩ := State.slotTile_of_issues hc h (fun u => u.aluSat p d lat x)
  have sat := lanesSaturated_satLanes (only.wf (hc.held_toWord p).1) p.tile ((opTile s p .alu).satMask p x)
  have hit := sat.satLanes fun l hl => (opTile s p .alu).getLsbD_satMask p x hl
  simp only [SatLanes, only.ob] at hit
  refine ⟨_, run.trans (congrArg _ (State.aluSat_of_issues h d lat x)), ?_, ?_,
    fun m hm => (sat.tile m).trans (only.2 m hm), hit, fun o hs hl => (sat.objs o hs hl).trans (only.ob o), fun i hi => ?_⟩
  · rw [sat.tile, tile]
    exact inFlight_launch _ _ _ _
  · rw [sat.rest, only.1]
  · rw [sat.bits, only.ob, decide_eq_false (Nat.not_le.2 hi), Bool.false_and, Bool.or_false]

end Sys2Proof.Machine

section
open Sys2Proof Sys2Proof.Machine

/-- Settles O4: each shift by a register is an ALU operation whose lane result is arithmetic on its operands; a right shift with
RNE stays in range, so ASHV saturates only to the left. -/
theorem variableShifts : Obligations.VariableShifts := by
  unfold Obligations.VariableShifts
  intro s p d a b hc h
  refine ⟨?_, ?_, ?_, ?_, ?_, ?_⟩
  · exact writesReg_aluReg hc h rfl fun u l => shiftLeft_eq_ofNat (u.dr a l) _
  · exact writesReg_aluReg hc h rfl fun u l => ushiftRight_eq_ofNat (u.dr a l) _
  · exact writesReg_aluReg hc h rfl fun u l => sshiftRight_eq_ofInt (u.dr a l) _
  · exact writesReg_aluReg hc h rfl fun _ _ => rfl
  · exact writesSat_aluSat hc h rfl fun _ _ => rfl
  · exact writesSat_aluSat hc h rfl fun u l => shiftSigned_eq_sat32 (u.dr a l) (u.dr b l)
end

/-!
The clocks (R316–R334, R349, R350): what a choice of the DPLLs, the loss of a reference and a state of the servo leave of the
objects, the rank that a reference takes, and the rank of REF0 from the quality of its source.
-/

namespace Sys2Proof.Machine

/-! ### What the clocks leave of the objects (R323–R334) -/

/-- The objects that a choice of the DPLLs, a state of a reference or a state of the servo may change: DOM_PPM, the states and
flags of the references but neither their ranks nor their quality levels, the blocks of the DPLLs and of the output groups,
and SERVO_STATE. -/
def clockOid (o : Nat) : Bool :=
  decide ((0xF9004 ≤ o ∧ o < 0xF9007) ∨ (0xFB000 ≤ o ∧ o < 0xFB100 ∧ (o % 32 = 3 ∨ o % 32 = 11 ∨ 16 ≤ o % 32)) ∨
    (0xFB100 ≤ o ∧ o < 0xFB1C0) ∨ (0xFB210 ≤ o ∧ o < 0xFB250) ∨ o = 0xFC00A)

/-- Of the objects, `t` differs from `s` at most in those of the clocks and in those of an event. Unlike `Leaves`, it leaves
the DPLLs and the device time free. -/
def ClockFrame (s t : State) : Prop :=
  mapWf oidDflt s.obj = true →
    mapWf oidDflt t.obj = true ∧ ∀ o, clockOid o = false → eventOid o = false → t.ob o = s.ob o

theorem clockFrame_refl (s : State) : ClockFrame s s := fun h => ⟨h, fun _ _ _ => rfl⟩

theorem ClockFrame.trans {s t u : State} (a : ClockFrame s t) (b : ClockFrame t u) : ClockFrame s u := fun h =>
  ⟨(b (a h).1).1, fun o x y => ((b (a h).1).2 o x y).trans ((a h).2 o x y)⟩

theorem Leaves.clock {s t : State} (a : Leaves clockOid s t) : ClockFrame s t := a.objs

theorem clockFrame_of_obj {s t : State} (h : t.obj = s.obj) : ClockFrame s t := fun w =>
  ⟨h ▸ w, fun _ _ _ => by unfold State.ob; rw [h]⟩

theorem clockFrame_put {s : State} {o : Nat} {v : Word} (h : clockOid o = true) : ClockFrame s (s.put o v) :=
  (leaves_put (by simp [h])).clock

theorem clockFrame_sticky {s : State} {f i c : Nat} (hf : clockOid f = true) (hc : clockOid c = true) :
    ClockFrame s (s.sticky f i c) := (clockFrame_put hf).trans (clockFrame_put hc)

theorem clockFrame_raise {s : State} {g i : Nat} {l : List (Nat × Nat)} (hg : g < 32) : ClockFrame s (s.raise g i l) :=
  (leaves_raise hg).clock

theorem clockFrame_ite {s a b : State} {c : Prop} [Decidable c] (ha : ClockFrame s a) (hb : ClockFrame s b) :
    ClockFrame s (if c then a else b) := by
  split <;> assumption

theorem clockFrame_forUpTo {f : Nat → State → State} (n : Nat) (hf : ∀ i t, i < n → ClockFrame t (f i t)) (s : State) :
    ClockFrame s (forUpTo n f s) := by
  induction n with
  | zero => exact clockFrame_refl s
  | succ n ih =>
    rw [forUpTo_succ]
    exact (ih fun i t hi => hf i t (by omega)).trans (hf n _ (by omega))

/-! ### A DPLL (R323–R334) -/

theorem clockFrame_setDpll {d : Nat} (hd : d < 3) (s : State) (x : Dpll) : ClockFrame s (s.setDpll d x) :=
  (clockFrame_of_obj rfl).trans (clockFrame_put (by simp [clockOid, oidDomPpm]; omega))

theorem clockFrame_putSelected {d : Nat} (hd : d < 3) (s : State) (r : Nat) :
    ClockFrame s (s.putn (oidDpllSelected d) r) := clockFrame_put (by simp [clockOid, oidDpllSelected]; omega)

theorem clockFrame_dpllFlag {d b : Nat} (hd : d < 3) (hb : b < 8) (s : State) : ClockFrame s (s.dpllFlag d b) :=
  clockFrame_sticky (by simp [clockOid, oidDpllSticky]; omega) (by simp [clockOid, oidDpllCnt]; omega)

theorem clockFrame_setDst {d : Nat} (hd : d < 3) (s : State) (st : Nat) : ClockFrame s (s.setDst d st) := by
  refine ClockFrame.trans (clockFrame_ite ?_ (clockFrame_refl s)) (clockFrame_put (by simp [clockOid, oidDpllState]; omega))
  exact (clockFrame_put (by simp [clockOid, oidDpllHoFreq]; omega)).trans
    (clockFrame_put (by simp [clockOid, oidDpllHoHist]; omega))

theorem clockFrame_beginSwitch {d : Nat} (hd : d < 3) (s : State) (r cause : Nat) :
    ClockFrame s (s.beginSwitch d r cause) := by
  refine ClockFrame.trans ?_ (clockFrame_raise (by decide))
  refine ClockFrame.trans ?_ (clockFrame_dpllFlag hd (by decide) _)
  refine ClockFrame.trans ?_ (clockFrame_setDpll hd _ _)
  exact (clockFrame_setDst hd s _).trans (clockFrame_putSelected hd _ r)

theorem clockFrame_setFreq {d : Nat} (hd : d < 3) (s : State) (f : Int) : ClockFrame s (s.setFreq d f) :=
  (clockFrame_setDpll hd s _).trans (clockFrame_ite (clockFrame_dpllFlag hd (by decide) _) (clockFrame_refl _))

theorem clockFrame_reachLocked {d : Nat} (hd : d < 3) (s : State) : ClockFrame s (s.reachLocked d) := by
  refine ClockFrame.trans ?_ (clockFrame_ite (clockFrame_beginSwitch hd _ _ _) (clockFrame_refl _))
  refine ClockFrame.trans ?_ (clockFrame_raise (by decide))
  refine ClockFrame.trans ?_ (clockFrame_setFreq hd _ _)
  exact (clockFrame_setDst hd s _).trans (clockFrame_setDpll hd _ _)

theorem clockFrame_lateRelock (s : State) : ClockFrame s s.lateRelock :=
  clockFrame_ite (clockFrame_of_obj rfl) (clockFrame_refl s)

theorem clockFrame_enterStage {d : Nat} (hd : d < 3) (s : State) (n : Nat) : ClockFrame s (s.enterStage d n) := by
  refine ClockFrame.trans ?_ (clockFrame_ite (clockFrame_reachLocked hd _) (clockFrame_refl _))
  exact (clockFrame_setDpll hd s _).trans (clockFrame_ite (clockFrame_lateRelock _) (clockFrame_refl _))

theorem clockFrame_beginAcquire {d : Nat} (hd : d < 3) (s : State) (r : Nat) (first : Bool) :
    ClockFrame s (s.beginAcquire d r first) := by
  refine ClockFrame.trans ?_ (clockFrame_enterStage hd _ 1)
  refine ClockFrame.trans ?_
    (clockFrame_ite (clockFrame_put (by simp [clockOid, oidDpllBuildout]; omega)) (clockFrame_refl _))
  exact ((clockFrame_setDst hd s _).trans (clockFrame_putSelected hd _ r)).trans (clockFrame_setDpll hd _ _)

/-- A group whose pull ends or begins: its offset, OG_STATE and OG_PHASE_REM (R334). -/
theorem clockFrame_pull {i : Nat} (hi : i < 4) (s : State) (g st : Nat) (off : Int) (rem : Word) :
    ClockFrame s (((s.setOgOff g off).putn (oidOgState i) st).put (oidOgPhaseRem i) rem) := by
  refine ClockFrame.trans ?_ (clockFrame_put (by simp [clockOid, oidOgPhaseRem]; omega))
  exact ClockFrame.trans (clockFrame_of_obj rfl) (clockFrame_put (by simp [clockOid, oidOgState]; omega))

theorem clockFrame_pullGroups (s : State) (b : Int) (marker : Bool) : ClockFrame s (s.pullGroups b marker) := by
  refine clockFrame_forUpTo 4 (fun i t hi => clockFrame_ite (clockFrame_refl t) ?_) s
  -- the state once the offset reached is known: a pull that still runs takes it from a free value
  refine ClockFrame.trans (t := (if t.obn (oidOgState i) = 1 then (t.free.1.toInt, t.free.2) else (t.ogOff (i + 1), t)).2)
    ?_ ?_
  · split
    · exact clockFrame_of_obj rfl
    · exact clockFrame_refl t
  · exact clockFrame_ite (clockFrame_pull hi _ _ _ _ _)
      (clockFrame_ite (clockFrame_pull hi _ _ _ _ _) (clockFrame_pull hi _ _ _ _ _))

theorem clockFrame_unfollow {d : Nat} (hd : d < 3) (s : State) (st : Nat) : ClockFrame s (s.unfollow d st) :=
  ((clockFrame_setDst hd s st).trans (clockFrame_putSelected hd _ 8)).trans
    (clockFrame_ite (clockFrame_pullGroups _ _ _) (clockFrame_refl _))

/-- A flag of a DPLL with its event, as at the loss of its reference (R340, R343). -/
theorem clockFrame_flagRaise {d b : Nat} (hd : d < 3) (hb : b < 8) (s : State) (i : Nat) (l : List (Nat × Nat)) :
    ClockFrame s ((s.dpllFlag d b).raise 8 i l) := (clockFrame_dpllFlag hd hb s).trans (clockFrame_raise (by decide))

theorem clockFrame_enterFreerun {d : Nat} (hd : d < 3) (s : State) : ClockFrame s (s.enterFreerun d) := by
  refine clockFrame_ite (clockFrame_refl s) ?_
  refine ClockFrame.trans ?_ (clockFrame_ite (clockFrame_flagRaise hd (by decide) _ _ _) (clockFrame_refl _))
  exact (clockFrame_unfollow hd s _).trans (clockFrame_setDpll hd _ _)

theorem clockFrame_loseAll {d : Nat} (hd : d < 3) (s : State) : ClockFrame s (s.loseAll d) := by
  refine clockFrame_ite (clockFrame_enterFreerun hd s) (clockFrame_ite (clockFrame_refl s) ?_)
  refine ClockFrame.trans ?_ (clockFrame_flagRaise hd (by decide) _ _ _)
  exact (clockFrame_unfollow hd s _).trans (clockFrame_setDpll hd _ _)

theorem clockFrame_reselect {d : Nat} (hd : d < 3) (s : State) (cause : Nat) : ClockFrame s (s.reselect d cause) := by
  refine clockFrame_ite (clockFrame_refl s) (clockFrame_ite ?_ (clockFrame_ite (clockFrame_refl s) ?_))
  · split
    · exact clockFrame_refl s
    · exact clockFrame_ite (clockFrame_beginAcquire hd s _ _) (clockFrame_beginSwitch hd s _ _)
  · refine (clockFrame_setDpll hd s { s.dpll d with cause := cause }).trans ?_
    dsimp only
    split
    · exact clockFrame_beginSwitch hd _ _ _
    · exact clockFrame_loseAll hd _

theorem clockFrame_reselectAll (s : State) (cause : Nat) : ClockFrame s (s.reselectAll cause) :=
  clockFrame_forUpTo 3 (fun _ t hd => clockFrame_reselect hd t cause) s

/-! ### A reference and the servo (R316–R322, R350) -/

theorem clockFrame_refFlag {r b : Nat} (hr : r < 8) (hb : b < 16) (s : State) : ClockFrame s (s.refFlag r b) :=
  clockFrame_sticky (by simp [clockOid, oidRefSticky]; omega) (by simp [clockOid, oidRefCnt]; omega)

theorem clockFrame_setRefMon (s : State) (r : Nat) (x : RefMon) : ClockFrame s (s.setRefMon r x) := clockFrame_of_obj rfl

theorem clockFrame_setRst {r : Nat} (hr : r < 8) (s : State) (st : Nat) : ClockFrame s (s.setRst r st) := by
  refine ClockFrame.trans ?_ (clockFrame_ite (clockFrame_refl _) (clockFrame_forUpTo 3 (fun d t hd => ?_) _))
  · refine ClockFrame.trans ?_ (clockFrame_ite (clockFrame_setRefMon _ _ _) (clockFrame_setRefMon _ _ _))
    exact clockFrame_put (by simp [clockOid, oidRefState]; omega)
  · exact clockFrame_ite (clockFrame_setDpll hd t _) (clockFrame_refl t)

/-- The loss of a reference leaves every rank, but for REF3, whose rank the peer reports (R318). -/
theorem clockFrame_refLost {r : Nat} (hr : r < 8) (h3 : r ≠ 3) (s : State) : ClockFrame s (s.refLost r) := by
  refine clockFrame_ite (clockFrame_refl s) ?_
  rw [if_neg h3]
  refine ClockFrame.trans ?_ (clockFrame_reselectAll _ _)
  exact ((clockFrame_setRst hr s _).trans (clockFrame_refFlag hr (by decide) _)).trans (clockFrame_raise (by decide))

theorem clockFrame_setTime (s : State) (t : TimeSt) : ClockFrame s (s.setTime t) := clockFrame_of_obj rfl

/-- REF0 follows the servo: it leaves LOS where the servo is LOCKED, else it is lost (R316). -/
theorem clockFrame_ref0Follows (s : State) (locked : Prop) [Decidable locked] :
    ClockFrame s (if locked then s.ref0Good else s.refLost 0) :=
  clockFrame_ite (clockFrame_ite (clockFrame_setRst (by decide) s _) (clockFrame_refl s))
    (clockFrame_refLost (by decide) (by decide) s)

theorem clockFrame_servoTo (s : State) (st : Nat) : ClockFrame s (s.servoTo st) := by
  refine clockFrame_ite (clockFrame_refl s) (ClockFrame.trans ?_ (clockFrame_raise (by decide)))
  refine ClockFrame.trans ?_ (clockFrame_ref0Follows _ _)
  exact ClockFrame.trans (clockFrame_put (by decide)) (clockFrame_setTime (s.putn oidServoState st) _)

/-! ### The rank of a reference (R318, R319) -/

/-- A reference that takes a rank reads it; no object outside those of the clocks changes beside it. -/
theorem State.setRank_reads {s : State} (w : mapWf oidDflt s.obj = true) {r : Nat} (hr : r < 8) (rank : Nat) :
    mapWf oidDflt (s.setRank r rank).obj = true ∧ ∀ o, clockOid o = false → eventOid o = false →
      (s.setRank r rank).ob o = if o = oidRefRank r then wd rank else s.ob o := by
  by_cases same : s.obn (oidRefRank r) = rank
  · have stays : s.setRank r rank = s := if_pos same
    rw [stays]
    refine ⟨w, fun o _ _ => ?_⟩
    split
    · next e => rw [e, ← same, wd, State.obn, BitVec.ofNat_toNat, BitVec.setWidth_eq]
    · rfl
  · have moves : s.setRank r rank = (((s.putn (oidRefRank r) rank).refFlag r 4).raise 8 4
        [(1, r), (1, s.obn (oidRefRank r)), (1, rank)]).reselectAll swQl := if_neg same
    have frame : ClockFrame (s.putn (oidRefRank r) rank) (s.setRank r rank) := by
      rw [moves]
      exact ((clockFrame_refFlag hr (by decide) _).trans (clockFrame_raise (by decide))).trans (clockFrame_reselectAll _ _)
    obtain ⟨wf, reads⟩ := frame (State.put_wf w _ _)
    exact ⟨wf, fun o hc he => (reads o hc he).trans (State.ob_put w _ _ _)⟩

/-- REF0 takes the quality of its source: REF_QL_RAW and the rank of R319. -/
def State.takeQuality (s : State) (cls acc : Nat) : State :=
  (s.putn (oidRefQlRaw 0) (256 * cls + acc)).setRank 0 (ptpRank cls acc)

theorem State.takeQuality_reads {s : State} (w : mapWf oidDflt s.obj = true) (cls acc : Nat) :
    mapWf oidDflt (s.takeQuality cls acc).obj = true ∧ (s.takeQuality cls acc).ob (oidRefRank 0) = wd (ptpRank cls acc) ∧
    (s.takeQuality cls acc).ob oidServoCfg = s.ob oidServoCfg := by
  obtain ⟨wf, reads⟩ := State.setRank_reads (State.put_wf w (oidRefQlRaw 0) (wd (256 * cls + acc))) (r := 0) (by decide)
    (ptpRank cls acc)
  refine ⟨wf, (reads _ (by decide) (by decide)).trans (if_pos rfl), (reads _ (by decide) (by decide)).trans ?_⟩
  rw [if_neg (by decide), State.ob_put w, if_neg (by decide)]

/-! ### The source of REF0 (R319, R349) -/

/-- The quality of the source `src` of the servo: PTP_PARENT_QUALITY under PTP, PPS_QUALITY under PPS. -/
def State.sourceQuality (s : State) (src : Nat) : Nat :=
  (s.ob (if src = 1 then oidPtpParentQuality else oidPpsQuality)).toNat

/-- The clockClass in a quality word of the source `src`. -/
def sourceClass (src q : Nat) : Nat := if src = 1 then q % 256 else q / 256 % 256

/-- The clockAccuracy in a quality word of the source `src`. -/
def sourceAccuracy (src q : Nat) : Nat := if src = 1 then q / 256 % 256 else q % 256

theorem fld_low_byte (w : Word) : fld w 7 0 = w.toNat % 256 := rfl

theorem fld_second_byte (w : Word) : fld w 15 8 = w.toNat / 256 % 256 :=
  congrArg (· % 256) (Nat.shiftRight_eq_div_pow w.toNat 8)

theorem State.rank0_of_source {s : State} {src : Nat} (e : s.servoSrc = src) (h : src = 1 ∨ src = 2) :
    s.rank0 = s.takeQuality (sourceClass src (s.sourceQuality src)) (sourceAccuracy src (s.sourceQuality src)) := by
  simp only [sourceClass, sourceAccuracy, State.sourceQuality]
  rcases h with rfl | rfl
  · simp only [if_true, ← fld_low_byte, ← fld_second_byte]
    exact if_pos e
  · simp only [if_neg (show ¬(2 = 1) by decide), ← fld_low_byte, ← fld_second_byte]
    exact (if_neg (by omega)).trans (if_pos e)

/-- A write of SERVO_CFG that names a source changes the objects of the clocks and then ranks REF0 (R350). -/
theorem wrServoCfg_of_source {v : Word} (h : v.toNat % 4 = 1 ∨ v.toNat % 4 = 2) (s : State) :
    ∃ t, ClockFrame (s.put oidServoCfg v) t ∧ wrServoCfg v s = .ok t.rank0 := by
  have src : fld v 1 0 = v.toNat % 4 := rfl
  unfold wrServoCfg
  dsimp only
  rw [if_neg (by omega), if_neg (by omega)]
  refine ⟨_, ?_, rfl⟩
  exact (clockFrame_setTime _ _).trans (clockFrame_ite (clockFrame_servoTo _ _) (clockFrame_refl _))

/-- A write of SERVO_CFG that names a source gives REF0 the rank of that source's quality. -/
theorem completes_servoCfgWrite_rank {s : State} {acc : Access} {v : Word} (hc : Canonical s)
    (h : s.admits acc oidServoCfg v = true) {src : Nat} (e : v.toNat % 4 = src) (named : src = 1 ∨ src = 2) :
    Completes (.servoCfgWrite acc v) s (fun t => t.answer = {} ∧ t.ob oidServoCfg = v ∧ t.ob (oidRefRank 0) =
      wd (ptpRank (sourceClass src (s.sourceQuality src)) (sourceAccuracy src (s.sourceQuality src)))) := by
  obtain ⟨u, frame, run⟩ := wrServoCfg_of_source (e ▸ named) s
  obtain ⟨wf, kept⟩ := frame (State.put_wf hc.1 _ _)
  have cfg : u.ob oidServoCfg = v := (kept _ (by decide) (by decide)).trans (State.ob_put_same hc.1 _ _)
  have quality : u.sourceQuality src = s.sourceQuality src := by
    have ptp : u.ob oidPtpParentQuality = s.ob oidPtpParentQuality :=
      (kept _ (by decide) (by decide)).trans ((State.ob_put hc.1 _ _ _).trans (if_neg (by decide)))
    have pps : u.ob oidPpsQuality = s.ob oidPpsQuality :=
      (kept _ (by decide) (by decide)).trans ((State.ob_put hc.1 _ _ _).trans (if_neg (by decide)))
    unfold State.sourceQuality
    rw [apply_ite u.ob, ptp, pps, apply_ite s.ob]
  have source : u.servoSrc = src := by
    rw [State.servoSrc, cfg]
    exact e
  rw [State.rank0_of_source source named, quality] at run
  obtain ⟨wf', rank, cfg'⟩ := State.takeQuality_reads wf (sourceClass src (s.sourceQuality src))
    (sourceAccuracy src (s.sourceQuality src))
  obtain ⟨rest, reads⟩ := State.writeCmd_stored wf' h (fun _ => run)
  refine ⟨_, rfl, by rw [rest], ?_, ?_⟩
  · rw [reads _ (by decide) (by decide), cfg', cfg]
  · rw [reads _ (by decide) (by decide), rank]

/-! ### The tables of R319 -/

/-- The rank of a clockClass, lowered by `cut`. -/
def rankOfClass (cls cut : Nat) : Nat :=
  if cls = 255 then 0
  else max 1 ((if cls = 6 then 15 else if cls = 7 then 13 else if cls = 13 then 12 else if cls = 14 then 11
    else if cls ∈ [52, 58, 187, 193] then 4 else if cls = 248 then 3 else 2) - cut)

/-- The step by which a clockAccuracy lowers the rank. -/
def accuracyCut (acc : Nat) : Nat :=
  if 0x17 ≤ acc ∧ acc ≤ 0x21 then 0 else if acc = 0x22 ∨ acc = 0x23 then 1
  else if 0x24 ≤ acc ∧ acc ≤ 0x27 then 2 else if (0x28 ≤ acc ∧ acc ≤ 0x31) ∨ acc = 0xFE then 4
  else Config.accuracyStep acc

theorem ptpRank_eq (cls acc : Nat) : ptpRank cls acc = rankOfClass cls (accuracyCut acc) := by
  unfold ptpRank rankOfClass
  rw [← accuracyCut]
  split
  case h_11 => simp_all
  all_goals simp

theorem accuracyCut_hundred_ns {acc : Nat} (lo : 0x17 ≤ acc) (hi : acc ≤ 0x21) : accuracyCut acc = 0 := if_pos ⟨lo, hi⟩

theorem accuracyCut_one_us {acc : Nat} (lo : 0x22 ≤ acc) (hi : acc ≤ 0x23) : accuracyCut acc = 1 := by
  rw [accuracyCut, if_neg (by omega), if_pos (by omega)]

theorem accuracyCut_hundred_us {acc : Nat} (lo : 0x24 ≤ acc) (hi : acc ≤ 0x27) : accuracyCut acc = 2 := by
  rw [accuracyCut, if_neg (by omega), if_neg (by omega), if_pos (by omega)]

theorem accuracyCut_coarse {acc : Nat} (h : (0x28 ≤ acc ∧ acc ≤ 0x31) ∨ acc = 0xFE) : accuracyCut acc = 4 := by
  rw [accuracyCut, if_neg (by omega), if_neg (by omega), if_neg (by omega), if_pos h]

end Sys2Proof.Machine

section
open Sys2Proof Sys2Proof.Machine

/-- Settles O28: the write ranks REF0 by the quality of its source, which no choice of the DPLLs changes, and each row of the
clockAccuracy table gives the step that it states. -/
theorem ref0Rank : Obligations.Ref0Rank := by
  unfold Obligations.Ref0Rank
  intro s acc v hc h src q cls accuracy rank becomes named
  have ranked (cut : Nat) (e : accuracyCut accuracy = cut) : becomes cut := by
    have done := completes_servoCfgWrite_rank hc h (src := src) rfl named
    rw [ptpRank_eq] at done
    subst e
    exact done
  exact ⟨fun lo hi => ranked 0 (accuracyCut_hundred_ns lo hi), fun lo hi => ranked 1 (accuracyCut_one_us lo hi),
    fun lo hi => ranked 2 (accuracyCut_hundred_us lo hi), fun coarse => ranked 4 (accuracyCut_coarse coarse)⟩
end
